-- ==== Sys2Proof/Word.lean ====
section
/-!
DEFINITION. Sys2Proof/Word.lean: the widths in which the IKH-7260 counts.
Byte, 32-bit and 64-bit words of the registers, and the 256-bit token payload (R90, R11).
-/

namespace Sys2Proof

/-- One byte (R10: every multi-byte structure is little-endian). -/
abbrev Byte := BitVec 8

/-- A 32-bit register word. -/
abbrev Word := BitVec 32

/-- A 64-bit register word; every register of the part is held in one of these. -/
abbrev Dword := BitVec 64

/-- The payload of a token: 256 bits (R90). -/
abbrev Payload := BitVec 256

end Sys2Proof
end

