-- ==== Sys2Proof/Syntax.lean ====
section
/-!
DEFINITION. Sys2Proof/Syntax.lean: the commands of the IKH-7260, one constructor per row of spec/opcode_table.json.
A command is one whole, indivisible step of the part: a register access, a bus request or completion, a pin or link event, a mailbox command as it is performed, or one instruction of one frond.
Operands name what the step acts on, and carry the values that come from outside the part (a temperature read, the data of a completion, the contents of a received frame).
Operand `coin` of a row that clears something says what the part itself sets or counts in the same access (R12, R21): a bit of the word written for a W1C bit; bit i for counter i of the counters that the row clears, in the order of their numbers (bit 64 of FAB_CLR_DROP for FAB_TEARDOWN_DROPS).
-/

namespace Sys2Proof

/-- The access paths of R25: each PCIe function, the management processor, and JTAG. -/
inductive Path where
  | fn (f : Nat)
  | mp
  | jtag
  deriving DecidableEq, Repr

/-- A token as it travels (R90 to R93): hedge, stream and kind of the tag, and 256 bits of payload. -/
structure Tok where
  hedge : Nat
  stream : Nat
  kind : Nat
  pay : Payload
  deriving DecidableEq, Repr

/-- The channel on which a token travels (R99): the hedge channel, or the system channel towards the hub, a bracken, or one frond. -/
inductive Chan where
  | hedge
  | toHub
  | toBracken (b : Nat)
  | toFrond (f : Nat)
  deriving DecidableEq, Repr

/-- One instruction of a frond program (R144 to R176), with its operands as the tables of Frond Program Reference name them. -/
inductive FOp where
  | nop
  | br (target : Nat)
  | beq (a : Nat) (b : Nat) (target : Nat)
  | bne (a : Nat) (b : Nat) (target : Nat)
  | blt (a : Nat) (b : Nat) (target : Nat)
  | loop (useReg : Bool) (a : Nat) (count : Nat) (last : Nat)
  | halt
  | li (d : Nat) (imm : Word)
  | add (d : Nat) (a : Nat) (b : Nat)
  | sub (d : Nat) (a : Nat) (b : Nat)
  | addi (d : Nat) (a : Nat) (imm : Word)
  | mul (d : Nat) (a : Nat) (b : Nat)
  | band (d : Nat) (a : Nat) (b : Nat)
  | bor (d : Nat) (a : Nat) (b : Nat)
  | bxor (d : Nat) (a : Nat) (b : Nat)
  | shl (d : Nat) (a : Nat) (n : Nat)
  | shr (d : Nat) (a : Nat) (n : Nat)
  | sra (d : Nat) (a : Nat) (n : Nat)
  | ld (d : Nat) (a : Nat) (imm : Word)
  | st (a : Nat) (b : Nat) (imm : Word)
  | getst (d : Nat)
  | tget (d : Nat) (a : Nat) (k : Nat)
  | tset (d : Nat) (a : Nat) (k : Nat)
  | vget (d : Nat) (a : Nat) (k : Nat)
  | vset (d : Nat) (a : Nat) (k : Nat)
  | ldt (d : Nat) (a : Nat) (imm : Word)
  | stt (a : Nat) (b : Nat) (imm : Word)
  | recv (d : Nat) (b : Nat) (q : Nat)
  | recvp (d : Nat) (b : Nat) (q : Nat)
  | test (d : Nat) (q : Nat)
  | waitany (d : Nat) (mask : Nat)
  | send (a : Nat) (q : Nat)
  | sendeos (q : Nat)
  | sendpsn (a : Nat) (b : Nat) (q : Nat)
  | fwd (d : Nat) (q : Nat) (slot : Nat)
  | mcfg (wfmt : Nat) (afmt : Nat)
  | mac (a : Nat) (b : Nat) (acc : Nat) (z : Bool) (inc : Bool)
  | accrd (d : Nat) (acc : Nat) (clr : Bool)
  | accwr (a : Nat) (acc : Nat)
  | vadd (d : Nat) (a : Nat) (b : Nat)
  | vsub (d : Nat) (a : Nat) (b : Nat)
  | vmul (d : Nat) (a : Nat) (b : Nat)
  | vfma (d : Nat) (a : Nat) (b : Nat)
  | vmax (d : Nat) (a : Nat) (b : Nat)
  | vmin (d : Nat) (a : Nat) (b : Nat)
  | vscl (d : Nat) (a : Nat) (b : Nat)
  | vofs (d : Nat) (a : Nat) (b : Nat)
  | vexp (d : Nat) (a : Nat)
  | vlog (d : Nat) (a : Nat)
  | vtanh (d : Nat) (a : Nat)
  | vsigm (d : Nat) (a : Nat)
  | vrcp (d : Nat) (a : Nat)
  | vrsqrt (d : Nat) (a : Nat)
  | vsilu (d : Nat) (a : Nat)
  | vrsum (d : Nat) (a : Nat)
  | vrmax (d : Nat) (a : Nat)
  | vunpk (d : Nat) (a : Nat) (fmt : Nat) (part : Nat)
  | vpack (d : Nat) (a : Nat) (fmt : Nat) (part : Nat)
  | vld (d : Nat) (a : Nat) (imm : Word)
  | vst (a : Nat) (b : Nat) (imm : Word)
  | vbcast (d : Nat) (a : Nat)
  | vmov (d : Nat) (a : Nat)
  | evt (a : Nat) (b : Nat) (q : Nat) (code : Nat)
  deriving DecidableEq, Repr

/-- What an ATS Translation Completion says (R445, R447): a translated address with the page size (2^bits bytes), the permissions granted and the Global bit; or an error, or none in time. -/
inductive AtsRes where
  | ok (taddr bits : Nat) (rd wr glob : Bool)
  | error
  deriving DecidableEq, Repr

/-- How a command of a mailbox ends: the mailbox, and the firmware location where an inconsistency that the firmware found in itself ended it (R394, R400). -/
structure MbxEnd where
  mbx : Nat
  internal : Option Nat
  deriving DecidableEq, Repr

/-- The commands of the part. -/
inductive Instr where
  /-- REGISTER_WRITE (R11): A write to a register field that has no row of its own takes effect under its access code, including W1C, W1S, RW, WO and RWM. -/
  | registerWrite (path : Path) (bar : Nat) (off : Nat) (width : Nat) (v : Dword) (coin : Dword)
  /-- RC_FIELD_READ (R13): A read of an RC field at its own address returns the value and clears it, keeping a coincident new setting. -/
  | rcFieldRead (path : Path) (bar : Nat) (off : Nat) (width : Nat) (coincident : Nat)
  /-- WIDE_COUNTER_LOW_READ (R24): A read of the low word of a counter wider than 32 bits copies the high word into the holding register of that access path. -/
  | wideCounterLowRead (path : Path) (off : Nat)
  /-- PER_SECOND_TICK (R389): Device time reaches a multiple of 1,000,000,000 ns; TIM_SECONDS increments and every per-second action runs. -/
  | perSecondTick
  /-- TIM_SNAP (R390): A write of 1 to TIM_CTRL.SNAP records the device time of arrival in TIM_SNAP and increments TIM_SNAP_SEQ. -/
  | timSnap (t : Nat)
  /-- FAB_BROWNOUT (R42): VDD_FAB stays below 0.45 V for longer than 1 µs; the part raises FAB_BROWNOUT, resets the Thicket die and re-enters S4. -/
  | fabBrownout
  /-- TEL_VL_CTRL_WRITE (R45): A write of BASE or CEIL makes the part recompute the target operating point. -/
  | telVlCtrlWrite (base : Nat) (ceil : Nat)
  /-- GLIDE_READ_VOUT (R55): After the regulator slews, the part reads READ_VOUT, raises ACTIVE for a raise and clears GLIDING. -/
  | glideReadVout (read : Option Nat)
  /-- GLIDE_RETRY (R58): The backoff wait after a failed glide expires and the glide is repeated. -/
  | glideRetry (ack : Bool)
  /-- TEMPO_GATE_END (R60): A tempo monitor gate ends and RATE is written for each bracken. -/
  | tempoGateEnd (counts : List Nat)
  /-- CADENCE_LOWER (R66): The waiting period of consecutive gates without deficit is reached and the hedge's required point falls by one. -/
  | cadenceLower (h : Nat)
  /-- TEMPO_RESTORED (R70): Sixteen consecutive gates without deficit clear DEFICIT and raise TEMPO_RESTORED. -/
  | tempoRestored (h : Nat)
  /-- TEMPO_GATE_WRITE (R62): A write of TEL_TEMPO_CTRL.GATE clears every VALID bit and restarts the measurement. -/
  | tempoGateWrite (gate : Nat)
  /-- CLEAR_MIN (R76): A write of 1 to CLEAR_MIN sets every TEL_TEMPO_MIN_b to the next gate's RATE. -/
  | clearMin
  /-- CLEAR_FAULTS (R76): A write of 1 to CLEAR_FAULTS clears TEL_VL_FAULTS and its SAT bit. -/
  | clearFaults (coin : Nat)
  /-- CADENCE_FLOOR_WRITE (R64): A write of TEL_CADENCE_h FLOOR or ENABLE guards the hedge and recomputes its static point. -/
  | cadenceFloorWrite (h : Nat) (floor : Nat) (enable : Bool)
  /-- BAND_CHANGE (R49): A bracken sensor reading crosses a band edge with hysteresis, changing the governing band and the static points. -/
  | bandChange (b : Nat) (t : Int)
  /-- START_TOKEN (R139): A START control token reaches a stopped frond, which clears its registers and issues address 0. -/
  | startToken (f : Nat)
  /-- STOP_TOKEN (R142): A STOP control token reaches a frond, which stops and abandons any waiting stream or event instruction. -/
  | stopToken (f : Nat)
  /-- PROGRAM_STORE_WRITE (R85): A write reaches a frond's program store and is accepted while stopped, or rejected with STATE while running. -/
  | programStoreWrite (f : Nat) (word : Nat) (v : Dword)
  /-- ROUTER_TOKEN (R101): A token arrives at a bracken router or crossbar and is checked and forwarded or delivered. -/
  | routerToken (b : Nat) (port : Nat) (ch : Chan) (tok : Tok)
  /-- CREDIT_RETURN (R104): A credit return reaches a producer, whose slot counter rises and whose waiting send may proceed. -/
  | creditReturn (h : Nat) (stream : Nat) (dest : Nat)
  /-- HUB_TOKEN (R123): A hub-bound token reaches the hub and is handed to its queue, stream port, loop variable port or event unit. -/
  | hubToken (col : Nat) (tok : Tok)
  /-- FAB_HEDGE_STALL (R129): A watched hedge makes no token progress for LIMIT × 10 µs, setting STALLED and raising FAB_HEDGE_STALL. -/
  | fabHedgeStall (h : Nat) (t : Nat)
  /-- FAB_CLR_CE (R136): A write of 1 to FAB_CLEAR.CLR_CE clears every FAB_CE_b. -/
  | fabClrCe (coin : Nat)
  /-- FAB_CLR_UE (R136): A write of 1 to FAB_CLEAR.CLR_UE clears every FAB_UE_b. -/
  | fabClrUe (coin : Nat)
  /-- FAB_CLR_DROP (R136): A write of 1 to FAB_CLEAR.CLR_DROP clears every FAB_DROP_b and FAB_TEARDOWN_DROPS. -/
  | fabClrDrop (coin : Nat)
  /-- FAB_CLR_GW (R136): A write of 1 to FAB_CLEAR.CLR_GW clears every FAB_GW_OVERRUN_k. -/
  | fabClrGw (coin : Nat)
  /-- GW_ROUTE_WRITE (R121): A write of FAB_GW_ROUTE_k is checked against bracken and channel ownership. -/
  | gwRouteWrite (k : Nat) (v : Dword)
  /-- GW_CONFLICT_CLEAR (R119): A W1C write of FAB_GW_CONFLICT.LOST re-arms GW_ROUTE_CONFLICT for the losing route. -/
  | gwConflictClear (bits : Word) (coin : Word)
  /-- NOP (R150): The frond does nothing for one step. -/
  | fNop (f : Nat)
  /-- BR (R150): The frond branches to IMM 10:0. -/
  | fBr (f : Nat) (target : Nat)
  /-- BEQ (R150): The frond branches when s[A] equals s[B]. -/
  | fBeq (f : Nat) (a : Nat) (b : Nat) (target : Nat)
  /-- BNE (R150): The frond branches when s[A] differs from s[B]. -/
  | fBne (f : Nat) (a : Nat) (b : Nat) (target : Nat)
  /-- BLT (R150): The frond branches when s[A] is less than s[B], signed. -/
  | fBlt (f : Nat) (a : Nat) (b : Nat) (target : Nat)
  /-- LOOP (R151): The frond starts a hardware loop over its body for the given count. -/
  | fLoop (f : Nat) (useReg : Bool) (a : Nat) (count : Nat) (last : Nat)
  /-- HALT (R150): The frond enters the stopped state as on STOP. -/
  | fHalt (f : Nat)
  /-- LI (R153): s[D] takes the immediate. -/
  | fLi (f : Nat) (d : Nat) (imm : Word)
  /-- ADD (R153): s[D] takes s[A] plus s[B], modulo 2^32. -/
  | fAdd (f : Nat) (d : Nat) (a : Nat) (b : Nat)
  /-- SUB (R153): s[D] takes s[A] minus s[B]. -/
  | fSub (f : Nat) (d : Nat) (a : Nat) (b : Nat)
  /-- ADDI (R153): s[D] takes s[A] plus the immediate. -/
  | fAddi (f : Nat) (d : Nat) (a : Nat) (imm : Word)
  /-- MUL (R153): s[D] takes the low 32 bits of s[A] times s[B]. -/
  | fMul (f : Nat) (d : Nat) (a : Nat) (b : Nat)
  /-- AND (R153): s[D] takes the bitwise and of s[A] and s[B]. -/
  | fAnd (f : Nat) (d : Nat) (a : Nat) (b : Nat)
  /-- OR (R153): s[D] takes the bitwise or of s[A] and s[B]. -/
  | fOr (f : Nat) (d : Nat) (a : Nat) (b : Nat)
  /-- XOR (R153): s[D] takes the bitwise exclusive or of s[A] and s[B]. -/
  | fXor (f : Nat) (d : Nat) (a : Nat) (b : Nat)
  /-- SHL (R153): s[D] takes s[A] shifted left by IMM 4:0. -/
  | fShl (f : Nat) (d : Nat) (a : Nat) (n : Nat)
  /-- SHR (R153): s[D] takes s[A] shifted right logically. -/
  | fShr (f : Nat) (d : Nat) (a : Nat) (n : Nat)
  /-- SRA (R153): s[D] takes s[A] shifted right arithmetically. -/
  | fSra (f : Nat) (d : Nat) (a : Nat) (n : Nat)
  /-- LD (R154): s[D] takes the aligned 4-byte activation-store word at s[A] plus IMM. -/
  | fLd (f : Nat) (d : Nat) (a : Nat) (imm : Word)
  /-- ST (R154): s[B] is written to the aligned 4-byte activation-store word. -/
  | fSt (f : Nat) (a : Nat) (b : Nat) (imm : Word)
  /-- GETST (R155): s[D] takes the frond status and POISON_SEEN clears. -/
  | fGetst (f : Nat) (d : Nat)
  /-- TGET (R153): s[D] takes one word of t[A]. -/
  | fTget (f : Nat) (d : Nat) (a : Nat) (k : Nat)
  /-- TSET (R153): One word of t[D] takes s[A]. -/
  | fTset (f : Nat) (d : Nat) (a : Nat) (k : Nat)
  /-- VGET (R153): s[D] takes one lane of v[A]. -/
  | fVget (f : Nat) (d : Nat) (a : Nat) (k : Nat)
  /-- VSET (R153): One lane of v[D] takes s[A]. -/
  | fVset (f : Nat) (d : Nat) (a : Nat) (k : Nat)
  /-- LDT (R154): t[D] takes 32 aligned bytes of the activation store. -/
  | fLdt (f : Nat) (d : Nat) (a : Nat) (imm : Word)
  /-- STT (R154): t[B] is written to 32 aligned bytes of the activation store. -/
  | fStt (f : Nat) (a : Nat) (b : Nat) (imm : Word)
  /-- RECV (R157): The frond dequeues the head token of queue Q and reacts by kind, possibly entering poison state. -/
  | fRecv (f : Nat) (d : Nat) (b : Nat) (q : Nat)
  /-- RECVP (R158): The frond dequeues the head token, handing a POISON payload over without entering poison state. -/
  | fRecvp (f : Nat) (d : Nat) (b : Nat) (q : Nat)
  /-- TEST (R156): s[D] takes the count and head kind of queue Q without dequeuing. -/
  | fTest (f : Nat) (d : Nat) (q : Nat)
  /-- WAITANY (R156): s[D] takes the lowest selected queue that holds a token. -/
  | fWaitany (f : Nat) (d : Nat) (mask : Nat)
  /-- SEND (R156): t[A] is sent as a DATA token on slot Q, consuming a credit. -/
  | fSend (f : Nat) (a : Nat) (q : Nat)
  /-- SENDEOS (R156): An EOS token is sent on slot Q. -/
  | fSendeos (f : Nat) (q : Nat)
  /-- SENDPSN (R161): A POISON token with CAUSE PROGRAM is sent on slot Q. -/
  | fSendpsn (f : Nat) (a : Nat) (b : Nat) (q : Nat)
  /-- FWD (R160): The head token of queue Q is dequeued and sent unchanged in one action. -/
  | fFwd (f : Nat) (d : Nat) (q : Nat) (slot : Nat)
  /-- STREAM_WAIT_RESUME (R148): A stream or event instruction waiting for a token or credit finds it and completes. -/
  | fStreamWaitResume (f : Nat)
  /-- MCFG (R162): MODE takes the weight and activation formats and every accumulator is zeroed. -/
  | fMcfg (f : Nat) (wfmt : Nat) (afmt : Nat)
  /-- MAC (R163): A weight group is multiplied by t[A] and accumulated into ACC. -/
  | fMac (f : Nat) (a : Nat) (b : Nat) (acc : Nat) (z : Bool) (inc : Bool)
  /-- ACCRD (R162): Thirty-two accumulators are converted into v[D], optionally cleared. -/
  | fAccrd (f : Nat) (d : Nat) (acc : Nat) (clr : Bool)
  /-- ACCWR (R162): Thirty-two accumulators take the lanes of v[A]. -/
  | fAccwr (f : Nat) (a : Nat) (acc : Nat)
  /-- VADD (R171): v[D] takes v[A] plus v[B]. -/
  | fVadd (f : Nat) (d : Nat) (a : Nat) (b : Nat)
  /-- VSUB (R171): v[D] takes v[A] minus v[B]. -/
  | fVsub (f : Nat) (d : Nat) (a : Nat) (b : Nat)
  /-- VMUL (R171): v[D] takes v[A] times v[B]. -/
  | fVmul (f : Nat) (d : Nat) (a : Nat) (b : Nat)
  /-- VFMA (R171): v[D] takes v[A] times v[B] plus v[D], rounded once. -/
  | fVfma (f : Nat) (d : Nat) (a : Nat) (b : Nat)
  /-- VMAX (R171): v[D] takes the lane maximum. -/
  | fVmax (f : Nat) (d : Nat) (a : Nat) (b : Nat)
  /-- VMIN (R171): v[D] takes the lane minimum. -/
  | fVmin (f : Nat) (d : Nat) (a : Nat) (b : Nat)
  /-- VSCL (R171): v[D] takes v[A] times s[B]. -/
  | fVscl (f : Nat) (d : Nat) (a : Nat) (b : Nat)
  /-- VOFS (R171): v[D] takes v[A] plus s[B]. -/
  | fVofs (f : Nat) (d : Nat) (a : Nat) (b : Nat)
  /-- VEXP (R173): v[D] takes e^x of each lane. -/
  | fVexp (f : Nat) (d : Nat) (a : Nat)
  /-- VLOG (R173): v[D] takes the natural logarithm of each lane. -/
  | fVlog (f : Nat) (d : Nat) (a : Nat)
  /-- VTANH (R173): v[D] takes tanh of each lane. -/
  | fVtanh (f : Nat) (d : Nat) (a : Nat)
  /-- VSIGM (R173): v[D] takes the sigmoid of each lane. -/
  | fVsigm (f : Nat) (d : Nat) (a : Nat)
  /-- VRCP (R173): v[D] takes the reciprocal of each lane. -/
  | fVrcp (f : Nat) (d : Nat) (a : Nat)
  /-- VRSQRT (R173): v[D] takes the reciprocal square root of each lane. -/
  | fVrsqrt (f : Nat) (d : Nat) (a : Nat)
  /-- VSILU (R173): v[D] takes x / (1 + e^−x) of each lane. -/
  | fVsilu (f : Nat) (d : Nat) (a : Nat)
  /-- VRSUM (R173): Every lane of v[D] takes the pairwise sum of v[A]. -/
  | fVrsum (f : Nat) (d : Nat) (a : Nat)
  /-- VRMAX (R171): Every lane of v[D] takes the largest lane of v[A]. -/
  | fVrmax (f : Nat) (d : Nat) (a : Nat)
  /-- VUNPK (R174): Elements of t[A] are converted into lanes of v[D]. -/
  | fVunpk (f : Nat) (d : Nat) (a : Nat) (fmt : Nat) (part : Nat)
  /-- VPACK (R175): Lanes of v[A] are converted into elements of t[D]. -/
  | fVpack (f : Nat) (d : Nat) (a : Nat) (fmt : Nat) (part : Nat)
  /-- VLD (R172): v[D] takes 128 aligned bytes of the activation store. -/
  | fVld (f : Nat) (d : Nat) (a : Nat) (imm : Word)
  /-- VST (R172): v[B] is written to 128 aligned bytes of the activation store. -/
  | fVst (f : Nat) (a : Nat) (b : Nat) (imm : Word)
  /-- VBCAST (R171): Every lane of v[D] takes s[A]. -/
  | fVbcast (f : Nat) (d : Nat) (a : Nat)
  /-- VMOV (R171): v[D] takes v[A]. -/
  | fVmov (f : Nat) (d : Nat) (a : Nat)
  /-- EVT (R176): An EVENT token with code, frond number and two scalars is sent on slot Q. -/
  | fEvt (f : Nat) (a : Nat) (b : Nat) (q : Nat) (code : Nat)
  /-- IMAGE_FETCH_DONE (R202): A fetch of the bound image from host memory completes and the bind continues with its checks or its load. -/
  | imageFetchDone (m : Nat)
  /-- SCHEDULE_ENTRY_START (R192): A schedule entry's buffer is free and earlier entries of the frond have started, so the entry starts copying. -/
  | scheduleEntryStart (n : Nat) (h : Nat) (e : Nat)
  /-- SCHEDULE_DATA_TOKEN (R193): A schedule DATA token of four words is written into the frond's weight store through its crossbar port. -/
  | scheduleDataToken (n : Nat) (h : Nat) (e : Nat)
  /-- SCHEDULE_ENTRY_DONE (R194): The last word of an entry is written; the buffer becomes full and a ready token is sent. -/
  | scheduleEntryDone (n : Nat) (h : Nat) (e : Nat)
  /-- BUFFER_RELEASE (R196): A release token frees its buffer, or is ignored with SLC_RELEASE_FAULT when it names no full buffer. -/
  | bufferRelease (n : Nat) (h : Nat) (stream : Nat)
  /-- MEMORY_STREAM_READ (R222): The slice controller performs a READ request and sends its data tokens and optional EOS. -/
  | memoryStreamRead (n : Nat) (h : Nat) (stream : Nat)
  /-- MEMORY_STREAM_WRITE (R223): The slice controller performs a WRITE request from the following data tokens, with optional ACK. -/
  | memoryStreamWrite (n : Nat) (h : Nat) (stream : Nat)
  /-- SCRUB_READ (R231): The patrol scrub reads a granule, correcting or poisoning it with MEM_SCRUB_UE. -/
  | scrubRead (n : Nat) (g : Nat)
  /-- STALE_PAGE_FILL (R235): The background fill zeroes an unfilled stale page, clearing the plot's stale bits when all pages are filled. -/
  | stalePageFill (plot : Nat) (page : Nat)
  /-- BAR2_READ (R219): An inbound host read of BAR2 is mapped to a plot and returns after earlier posted writes are performed. -/
  | bar2Read (f : Nat) (off : Nat) (len : Nat) (rid : Nat)
  /-- BAR2_WRITE (R218): An inbound posted write to BAR2 is performed in its plot, or discarded and logged when it fails. -/
  | bar2Write (f : Nat) (off : Nat) (bs : List Byte) (poisoned : Bool) (rid : Nat)
  /-- MEM_HOT (R237): A stack exceeds 95 °C; the slice is limited to 430 GB/s and MEM_HOT raised. -/
  | memHot (n : Nat) (t : Int)
  /-- SLICE_RETRAIN (R241): The backoff wait of a DOWN slice expires and the stack is trained again. -/
  | sliceRetrain (t : Nat) (n : Nat) (ok : Bool)
  /-- MEM_SLICE_DOWN (R242): A running slice loses its stack; the slice goes DOWN and its accesses fail or poison. -/
  | memSliceDown (n : Nat)
  /-- SLC_CLR_CE (R245): A write of 1 to SLC_CLEAR_n.CLR_CE clears SLC_CE_n and its SAT bit. -/
  | slcClrCe (n : Nat) (coin : Nat)
  /-- SLC_CLR_UE (R245): A write of 1 to SLC_CLEAR_n.CLR_UE clears SLC_UE_n and its SAT bit. -/
  | slcClrUe (n : Nat) (coin : Nat)
  /-- PMAP_VF_WRITE (R217): A write of a VF plot-map entry takes effect only when the plot belongs to the VF's hedge. -/
  | pmapVfWrite (v : Nat) (e : Nat) (plot : Nat) (valid : Bool)
  /-- KVC_DECODE (R268): The codec engine decodes each requested block and sends its raw tokens, poisoning corrupt blocks. -/
  | kvcDecode (n : Nat) (h : Nat) (stream : Nat)
  /-- KVC_ENCODE (R269): The codec engine encodes raw tokens into blocks at WPTR and writes their index entries. -/
  | kvcEncode (n : Nat) (h : Nat) (stream : Nat)
  /-- KVC_REGION_ENABLE_WRITE (R247): A write setting a region's ENABLE is accepted only when all region checks hold. -/
  | kvcRegionEnableWrite (n : Nat) (r : Nat) (v : Word)
  /-- KVC_SMAP_WRITE (R249): A write of KVC_SMAP_n_h claims or releases codec streams of the hedge. -/
  | kvcSmapWrite (n : Nat) (h : Nat) (w : Nat) (v : Word)
  /-- CLR_CORRUPT (R292): A write of 1 to KVC_CLEAR_n.CLR_CORRUPT clears KVC_CORRUPT_n. -/
  | clrCorrupt (n : Nat) (coin : Nat)
  /-- CLR_FALLBACK (R292): A write of 1 to KVC_CLEAR_n.CLR_FALLBACK clears KVC_FALLBACK_n. -/
  | clrFallback (n : Nat) (coin : Nat)
  /-- KVC_CLR_FAULTS (R292): A write of 1 to KVC_CLEAR_n.CLR_FAULTS clears KVC_REQ_FAULTS_n. -/
  | kvcClrFaults (n : Nat) (coin : Nat)
  /-- PERST_N_ASSERT (R336): PERST_N is asserted; the Quickset and Thicket dies reset and host-absent is signalled to the loop. -/
  | perstNAssert
  /-- PERST_N_DEASSERT (R336): PERST_N is deasserted; the LTSSM enters Detect and bring-up starts at S1. -/
  | perstNDeassert
  /-- HOT_RESET (R337): A hot reset arrives; the planned-reset flag is sent, then the dies reset and restart at S1. -/
  | hotReset
  /-- LINK_DISABLE (R337): A link disable arrives and the part resets as for a hot reset, waiting while the link is disabled. -/
  | linkDisable
  /-- LINK_DOWN (R337): The link goes down without a hot reset and the part resets as for a hot reset. -/
  | linkDown
  /-- VF_FLR (R338): Initiate Function Level Reset of a VF starts the VF reset sequence for its hedge. -/
  | vfFlr (v : Nat)
  /-- PF0_FLR (R339): Initiate Function Level Reset of PF0 runs the reset sequence for hedge 0 and every VF. -/
  | pf0Flr
  /-- EP_FLR_DONE (R338): The reset function's configuration space and BAR0 are reset and EP_FLR_DONE raised. -/
  | epFlrDone (f : Nat)
  /-- VF_ENABLE_SET (R327): VF Enable is set and the VFs appear in configuration space. -/
  | vfEnableSet
  /-- VF_ENABLE_CLEAR (R328): VF Enable is cleared; every VF runs its FLR and disappears. -/
  | vfEnableClear
  /-- D3HOT_ENTRY (R329): A function enters D3hot; its BAR requests get UR and its outbound requests wait. -/
  | d3hotEntry (f : Nat)
  /-- D0_RETURN (R330): A function returns to D0 and its held requests and pending messages proceed. -/
  | d0Return (f : Nat)
  /-- LINK_TRAINING (R302): Link training from Detect negotiates PCIe or CXL mode and Flit mode. -/
  | linkTraining (speed : Nat) (width : Nat) (flit : Bool) (alt : Bool)
  /-- EP_LINK_DEGRADED (R297): Recovery leaves the link slower or narrower and EP_LINK_DEGRADED is raised. -/
  | epLinkDegraded (speed : Nat) (width : Nat)
  /-- HOST_DIRECTED_RETRAIN (R296): The host directs a speed or width change through Target Link Speed and Retrain Link; EP_LINK_RESTORED may follow. -/
  | hostDirectedRetrain (speed : Nat) (width : Nat)
  /-- MRDLK (R294): An MRdLk is completed with Unsupported Request and logged in AER. -/
  | mrdlk (f : Nat)
  /-- CONFIGURATION_REQUEST (R300): A configuration request is completed, with CRS until S2 ends or during an FLR. -/
  | configurationRequest (f : Nat) (off : Nat) (wr : Option (Nat × Nat))
  /-- ASPM_L1_ENTRY (R301): The link enters ASPM L1 when the host enables it. -/
  | aspmL1Entry
  /-- EXPANSION_ROM_READ (R319): A read through the expansion ROM window returns flash contents, or all ones while the ROM area is written. -/
  | expansionRomRead (off : Nat) (len : Nat) (rid : Nat)
  /-- GBL_VF_IRQ_MASK_WRITE (R326): Unmasking a set GBL_VF_IRQ bit sends VF vector 0. -/
  | gblVfIrqMaskWrite (v : Nat) (m : Nat)
  /-- DB_SQ_TAIL (R365): A write of DB_SQ_TAIL gives new descriptors and starts their fetch. -/
  | dbSqTail (f : Nat) (page : Nat) (width : Nat) (tail : Nat)
  /-- DB_CQ_HEAD (R370): A write of DB_CQ_HEAD frees CQ entries and arms the CQ or sends a pending message. -/
  | dbCqHead (f : Nat) (page : Nat) (width : Nat) (head : Nat)
  /-- DB_WRITE_64 (R367): A 64-bit doorbell write acts as a tail write followed by a head write. -/
  | dbWrite64 (f : Nat) (page : Nat) (tail : Nat) (head : Nat)
  /-- DESCRIPTOR_FETCH_DONE (R347): A descriptor read completes; the descriptors are copied in and the SQ head advances. -/
  | descriptorFetchDone (q : Nat)
  /-- DESC_SEND_DATA (R350): SEND data arrives from the host and the hub injects its tokens as credits allow. -/
  | descSendData (q : Nat)
  /-- EVT_HEAD_WRITE (R371): A write of EVT_HEAD frees ring entries, arms the ring and lets held records be written. -/
  | evtHeadWrite (f : Nat) (r : Nat) (head : Nat)
  /-- EVT_CFG_WRITE (R386): A write of EVT_CFG enables or configures a ring. -/
  | evtCfgWrite (f : Nat) (r : Nat) (v : Word)
  /-- CLR_LOST (R386): A write of 1 to EVT_CLEAR_r.CLR_LOST clears EVT_LOST_r. -/
  | clrLost (f : Nat) (r : Nat) (coin : Nat)
  /-- DB_CLR_FAULTS (R364): A write of 1 to DB_CLEAR.CLR_FAULTS clears DB_FAULTS. -/
  | dbClrFaults (f : Nat) (page : Nat) (coin : Nat)
  /-- MBX_DOORBELL (R400): A write of MBX_DOORBELL.RING copies MBX_REQ and starts the command, or is discarded with DB_LOST. -/
  | mbxDoorbell (m : Nat)
  /-- MBX_COMMAND_DONE (R400): A command ends; MBX_RSP is written, STATE becomes DONE and the response vector may be sent. -/
  | mbxCommandDone (m : MbxEnd)
  /-- IDENTIFY (R414): The command returns the identity record, service level and stage. -/
  | identify (m : Nat)
  /-- STATUS (R414): The command returns service, stage, life cycle, reset cause, hedges, attempts and time. -/
  | status (m : Nat)
  /-- OPCODES (R428): The command returns a map of the opcodes served now. -/
  | opcodes (m : Nat)
  /-- HEDGE_CREATE (R517): The command creates a hedge with its PINNED value, owning nothing. -/
  | hedgeCreate (m : Nat)
  /-- HEDGE_DESTROY (R416): The command unbinds, destroys queues, stops and clears the hedge and releases everything it owns. -/
  | hedgeDestroy (m : Nat)
  /-- HEDGE_ASSIGN (R417): The command assigns or releases brackens, channels, stream ports and the loop variable port, all or none. -/
  | hedgeAssign (m : Nat)
  /-- HEDGE_CADENCE (R63): The command sets the hedge's cadence FLOOR and ENABLE. -/
  | hedgeCadence (m : Nat)
  /-- HEDGE_QUERY (R547): The command returns the hedge's state, resources and OBSERVED flag. -/
  | hedgeQuery (m : Nat)
  /-- QUEUE_ASSIGN (R418): The command gives a queue pair to a hedge or takes it back. -/
  | queueAssign (m : Nat)
  /-- QUEUE_CREATE (R418): The command fixes the queue pair's attributes and creates it. -/
  | queueCreate (m : Nat)
  /-- QUEUE_DESTROY (R348): The command destroys a queue pair and discards its fetched descriptors. -/
  | queueDestroy (m : Nat)
  /-- QUEUE_QUERY (R414): The command returns a queue pair's attributes, owner and state. -/
  | queueQuery (m : Nat)
  /-- IMAGE_BIND (R202): The command checks, loads and starts a Silson image on a hedge. -/
  | imageBind (m : Nat)
  /-- IMAGE_UNBIND (R209): The command disables routes and hub entries, stops schedules and clears the hedge's fronds. -/
  | imageUnbind (m : Nat)
  /-- IMAGE_QUERY (R414): The command returns the bound image's origin, footprint and digest. -/
  | imageQuery (m : Nat)
  /-- MEMORY_PLOTS (R214): The command assigns or releases plots of a slice. -/
  | memoryPlots (m : Nat)
  /-- MEMORY_MAP (R420): The command writes a PF or VF plot-map entry. -/
  | memoryMap (m : Nat)
  /-- MEMORY_BAR2_SIZE (R312): The command writes the BAR2 size code to Lichen NVM. -/
  | memoryBar2Size (m : Nat)
  /-- MEMORY_QUERY (R414): The command returns a slice's state and owned and stale plots. -/
  | memoryQuery (m : Nat)
  /-- KVC_REGION (R421): The command configures and enables or disables a codec region. -/
  | kvcRegion (m : Nat)
  /-- KVC_CLAIM (R249): The command sets a hedge's codec stream claims on an engine. -/
  | kvcClaim (m : Nat)
  /-- KVC_QUERY (R414): The command returns a region's configuration and WPTR. -/
  | kvcQuery (m : Nat)
  /-- ATU_WINDOW (R438): The command writes and enables or disables a window. -/
  | atuWindow (m : Nat)
  /-- ATU_PASID (R442): The command sets or empties a hedge's PASID slot. -/
  | atuPasid (m : Nat)
  /-- ATU_INVALIDATE (R459): The command removes translation cache entries of a PASID range. -/
  | atuInvalidate (m : Nat)
  /-- ATU_QUERY (R471): The command returns a window's configuration and conflicts. -/
  | atuQuery (m : Nat)
  /-- SORUS_CONFIG (R587): The command writes SETTINGS into SOR_CH_c. -/
  | sorusConfig (m : Nat)
  /-- SORUS_TRIGGER (R559): The command writes the trigger source, enable and period. -/
  | sorusTrigger (m : Nat)
  /-- SORUS_SLOW_READ (R585): The command converts channels at 100 kS/s and returns sample words. -/
  | sorusSlowRead (m : Nat) (pins : List (List (Int × Int)))
  /-- SORUS_OPEN_WIRE_TEST (R577): The command tests the named channels for open wires and returns RESULT. -/
  | sorusOpenWireTest (m : Nat) (pins : List (List (Int × Int)))
  /-- SORUS_CALIBRATE (R584): The command self-calibrates the converters of the named channels. -/
  | sorusCalibrate (m : Nat) (trims : List (List (Nat × Nat)))
  /-- SORUS_STATUS (R587): The command returns reference, trigger and owned-channel state. -/
  | sorusStatus (m : Nat)
  /-- LICHEN_LOOP_STATUS (R629): The command returns loop source, faults, headroom and currents. -/
  | lichenLoopStatus (m : Nat)
  /-- LICHEN_LOOP_CONFIG (R622): The command writes the loop configuration to loop NVM. -/
  | lichenLoopConfig (m : Nat)
  /-- LICHEN_LOOP_CALIBRATE (R626): The command drives, trims, commits or aborts a loop calibration point. -/
  | lichenLoopCalibrate (m : Nat)
  /-- LICHEN_ALARM_CONFIG (R642): The command stores an alarm's action and polarity in core NVM. -/
  | lichenAlarmConfig (m : Nat)
  /-- LICHEN_RTC (R638): The command reads or writes the RTC. -/
  | lichenRtc (m : Nat)
  /-- LICHEN_LOG_READ (R653): The command returns records in SEQ order from FIRST. -/
  | lichenLogRead (m : Nat)
  /-- LICHEN_HART_CONFIG (R623): The command writes the HART configuration to loop NVM. -/
  | lichenHartConfig (m : Nat)
  /-- DENBEN_PORT_CONFIG (R720): The command writes a port's settings into FRM_CTRL_p. -/
  | denbenPortConfig (m : Nat)
  /-- DENBEN_PORT_STATUS (R721): The command returns a port's defects, width and latched counters. -/
  | denbenPortStatus (m : Nat)
  /-- DENBEN_DCC_MAP (R709): The command maps a DCC serial port to a channel of a port. -/
  | denbenDccMap (m : Nat)
  /-- DENBEN_RETRAIN (R719): The command starts a retrain or requests a twin port width. -/
  | denbenRetrain (m : Nat)
  /-- TWIN_CONFIG (R728): The command sets the twin mode, delays and limits and returns the digest. -/
  | twinConfig (m : Nat)
  /-- TWIN_ROLE (R736): The command requests PRIMARY, STANDBY or UNPAIRED and returns the term. -/
  | twinRole (m : Nat)
  /-- TWIN_MIRROR (R729): The command sets or removes a mirror region or mirrors a hedge's queues. -/
  | twinMirror (m : Nat)
  /-- TWIN_VETO (R758): The command stops a failover hold and makes the standby UNPAIRED. -/
  | twinVeto (m : Nat)
  /-- TWIN_RESYNC (R760): The command starts a full copy from the named source, exchanging roles if needed. -/
  | twinResync (m : Nat)
  /-- TWIN_STATUS (R762): The command returns role, discords, term and acknowledged epoch. -/
  | twinStatus (m : Nat)
  /-- TELEMETRY_READ (R414): The command returns operating point, band, temperatures, power and VDD_FAB. -/
  | telemetryRead (m : Nat) (mw : Nat)
  /-- TELEMETRY_HEDGE (R414): The command returns the hedge's deficit, minimum rate and floor. -/
  | telemetryHedge (m : Nat)
  /-- DEBUG_STORE_READ (R424): The command copies a frond store range to host memory and sets OBSERVED. -/
  | debugStoreRead (m : Nat)
  /-- DEBUG_STORE_WRITE (R539): The command writes a frond store range from host memory and sets OBSERVED. -/
  | debugStoreWrite (m : Nat)
  /-- DEBUG_FROND (R540): The command halts, resumes or steps a frond. -/
  | debugFrond (m : Nat)
  /-- DEBUG_TRACE (R542): The command starts or stops a token trace. -/
  | debugTrace (m : Nat)
  /-- DEBUG_PROFILE (R543): The command starts or stops profiling of brackens. -/
  | debugProfile (m : Nat)
  /-- LIFECYCLE_READ (R673): The command returns the life-cycle state, PENDING and sequence. -/
  | lifecycleRead (m : Nat)
  /-- LIFECYCLE_TRANSITION (R669): The command starts a power-fail-safe life-cycle transition. -/
  | lifecycleTransition (m : Nat) (fails : Nat)
  /-- LIFECYCLE_KEY_WRITE (R528): The command writes a customer P-384 key slot in PROVISIONED. -/
  | lifecycleKeyWrite (m : Nat)
  /-- FIRMWARE_PUSH (R779): The command authenticates and writes a firmware image to a slot or the ROM area. -/
  | firmwarePush (m : Nat)
  /-- FIRMWARE_STATUS (R783): The command returns slot validity, next and running slot and versions. -/
  | firmwareStatus (m : Nat)
  /-- FIRMWARE_SELECT (R783): The command sets NEXT to a slot. -/
  | firmwareSelect (m : Nat)
  /-- ATS_COMPLETION (R447): An ATS Translation Completion arrives and fills the cache, fails the translation or leads to a page request. -/
  | atsCompletion (id : Nat) (r : AtsRes)
  /-- ATS_INVALIDATE_REQUEST (R458): An Invalidate Request removes overlapping cache entries and waits for users before completing. -/
  | atsInvalidateRequest (f : Nat) (itag : Nat) (pasid : Option Nat) (addr : Nat) (size : Nat) (glob : Bool)
  /-- PAGE_REQUEST_RESPONSE (R455): A Page Request Group Response arrives; success repeats the translation, failure fails the waiting requests. -/
  | pageRequestResponse (slot : Nat) (code : Nat)
  /-- ATU_WIN_LOST_CLEAR (R435): A W1C write of ATU_WIN_LOST_k re-arms WINDOW_CONFLICT for that pair. -/
  | atuWinLostClear (k : Nat) (bits : Dword) (coin : Dword)
  /-- ATU_CLR_FAULTS (R472): A write of 1 to ATU_CLEAR.CLR_FAULTS clears ATU_FAULTS. -/
  | atuClrFaults (coin : Nat)
  /-- OUTBOUND_COMPLETION (R488): A completion for an outbound read or AtomicOp arrives and is returned to its agent, marked failed if it failed. -/
  | outboundCompletion (tag : Nat) (status : Nat) (data : List Byte) (snoops : List (Nat × Bool))
  /-- COMPLETION_TIMEOUT (R487): No completion arrives within the function's completion timeout and the outbound read fails with CPL_TIMEOUT. -/
  | completionTimeout (tag : Nat)
  /-- INBOUND_ATOMICOP (R495): An inbound AtomicOp to BAR2 takes a semaphore entry, locks the granule and completes with the original value. -/
  | inboundAtomicop (f : Nat) (bar : Nat) (off : Nat) (op : Nat) (width : Nat) (operand : Nat) (compare : Nat) (poisoned : Bool) (rid : Nat)
  /-- ATOMIC_WRITEBACK_DONE (R496): An AtomicOp's granule write-back ends, its entry is freed and held accesses proceed. -/
  | atomicWritebackDone (g : Nat)
  /-- LOAD_EXCLUSIVE (R501): A core's load-exclusive reads the granule and records a reservation, or reads natively. -/
  | loadExclusive (c : Nat) (addr : Nat) (width : Nat)
  /-- STORE_EXCLUSIVE (R501): A core's store-exclusive writes when its reservation is intact, or sends a CAS natively. -/
  | storeExclusive (c : Nat) (addr : Nat) (width : Nat) (value : Nat)
  /-- CORE_ATOMIC (R500): A core's single atomic instruction is sent as an AtomicOp or performed as a locked read and write. -/
  | coreAtomic (c : Nat) (op : Nat) (addr : Nat) (width : Nat) (operand : Nat) (compare : Nat)
  /-- RESERVATION_TIMEOUT (R502): A reservation sees no store-exclusive for 100 µs and breaks. -/
  | reservationTimeout (c : Nat)
  /-- TARGET_TIMEOUT (R506): A peripheral target does not answer within its bound and the access fails. -/
  | targetTimeout (who : Nat) (bar : Nat) (off : Nat) (len : Nat) (rid : Nat) (write : Bool) (reason : Nat)
  /-- HBR_CTRL_WRITE (R513): A change of ATOMIC_MODE breaks every core reservation. -/
  | hbrCtrlWrite (v : Word)
  /-- HBR_CLR_RFAILS (R511): A write of 1 to HBR_CLEAR.CLR_RFAILS clears HBR_RFAILS. -/
  | hbrClrRfails (coin : Nat)
  /-- HBR_CLR_WFAILS (R511): A write of 1 to HBR_CLEAR.CLR_WFAILS clears HBR_WFAILS. -/
  | hbrClrWfails (coin : Nat)
  /-- PBR_CLR_RFAILS (R511): A write of 1 to PBR_CLEAR.CLR_RFAILS clears PBR_RFAILS. -/
  | pbrClrRfails (coin : Nat)
  /-- PBR_CLR_WFAILS (R511): A write of 1 to PBR_CLEAR.CLR_WFAILS clears PBR_WFAILS. -/
  | pbrClrWfails (coin : Nat)
  /-- CLR_LV (R511): A write of 1 to PBR_CLEAR.CLR_LV clears PBR_LV_REPLACED. -/
  | clrLv (coin : Nat)
  /-- STORE_APERTURE_READ (R538): A debug aperture read returns one store word of the selected frond and sets OBSERVED. -/
  | storeApertureRead (path : Path) (store : Nat) (off : Nat) (width : Nat)
  /-- STORE_APERTURE_WRITE (R538): A debug aperture write to a weight or activation store word is performed with new check bits. -/
  | storeApertureWrite (path : Path) (store : Nat) (off : Nat) (width : Nat) (v : Dword)
  /-- PROGRAM_APERTURE_WRITE (R539): A debug program-store write is performed while the frond is stopped or halted, otherwise discarded with REJECTED. -/
  | programApertureWrite (path : Path) (off : Nat) (width : Nat) (v : Dword)
  /-- REGISTER_MIRROR_READ (R537): A read through the register mirror returns the register without clearing RC fields, setting OBSERVED where it applies. -/
  | registerMirrorRead (path : Path) (off : Nat) (width : Nat)
  /-- JTAG_DBG_ACCESS (R534): The DBG_ACCESS JTAG instruction reads or writes the debug region. -/
  | jtagDbgAccess (off : Nat) (width : Nat) (wr : Option Dword) (coin : Dword)
  /-- CLR_VIOL (R548): A write of 1 to DBG_CLEAR.CLR_VIOL clears every DBG_VIOL_h. -/
  | clrViol (coin : Nat)
  /-- DBG_CLR_LOST (R548): A write of 1 to DBG_CLEAR.CLR_LOST clears DBG_TRACE_LOST. -/
  | dbgClrLost (coin : Nat)
  /-- TRIG_IN_EDGE (R562): An accepted TRIG_IN edge samples all enabled converters and delivers the samples. -/
  | trigInEdge (t : Nat) (rise : Bool) (pins : List (Int × Int))
  /-- PERIODIC_TRIGGER (R559): Device time meets the PERIOD and PHASE schedule and a trigger is taken. -/
  | periodicTrigger (t : Nat) (pins : List (Int × Int))
  /-- PAIR_TRIGGER (R564): Pair time meets the schedule under SOURCE 4 and a trigger is taken. -/
  | pairTrigger (t : Nat) (pins : List (Int × Int))
  /-- SOFTWARE_TRIGGER (R559): A write of 1 to SOR_TRIG_SW.FIRE under SOURCE 5 takes a trigger. -/
  | softwareTrigger (t : Nat) (pins : List (Int × Int))
  /-- REF_SETTLE (R555): The selected reference meets its settling condition and REF_SETTLED is set. -/
  | refSettle (t : Nat) (refin : Nat) (avdd : Nat)
  /-- REF_WINDOW_LOSS (R555): REFIN or AVDD_SOR leaves its window and REF_SETTLED clears. -/
  | refWindowLoss (refin : Nat) (avdd : Nat)
  /-- REF_SETTLE_TIMEOUT (R556): A reference selection has not settled after 20 ms and SOR_REF_UNSETTLED is raised once. -/
  | refSettleTimeout (t : Nat)
  /-- SOR_CTRL_WRITE (R555): A write of REF_SEL selects a reference and clears REF_SETTLED. -/
  | sorCtrlWrite (sel : Nat)
  /-- SOR_TRIG_WRITE (R561): A change of SOURCE or ENABLE stops the old source before starting the new. -/
  | sorTrigWrite (source : Nat) (enable : Bool) (hold : Bool)
  /-- SOR_CHANNEL_WRITE (R553): A change of range, open-wire currents or selection takes effect at the next trigger, or is held during a test. -/
  | sorChannelWrite (c : Nat) (range : Nat) (mag : Nat) (owP : Nat) (owN : Nat)
  /-- SOR_RING_CFG_WRITE (R570): A write setting a ring's ENABLE is accepted only when its plot and size checks hold. -/
  | sorRingCfgWrite (r : Nat) (v : Word)
  /-- SOR_RING_CH_WRITE (R571): A write of SOR_RING_CH_r masks off unowned channels and applies at the next trigger. -/
  | sorRingChWrite (r : Nat) (ch : Nat)
  /-- SOR_TRIM_WRITE (R590): A write of SOR_TRIM_k_g in MAINTENANCE or PROVISIONED replaces the trim in use. -/
  | sorTrimWrite (k : Nat) (g : Nat) (offset : Nat) (gain : Nat)
  /-- CLR_MISSED (R589): A write of 1 to SOR_CLEAR.CLR_MISSED clears SOR_TRIG_MISSED. -/
  | clrMissed (coin : Nat)
  /-- CLR_RING (R589): A write of 1 to SOR_CLEAR.CLR_RING clears every SOR_RING_LOST_r. -/
  | clrRing (coin : Nat)
  /-- SORUS_RAILS_LOST (R805): AVDD_SOR or DVDD_SOR leaves its window and the Sorus die becomes absent. -/
  | sorusRailsLost
  /-- SORUS_RAILS_RETURN (R805): Both Sorus rails return and factory trims and settings are reloaded. -/
  | sorusRailsReturn
  /-- LOOP_DOMAIN_RESET (R596): CSTORE falls below 3.0 V and the loop domain resets. -/
  | loopDomainReset
  /-- LOOP_DOMAIN_START (R596): CSTORE passes 4.5 V; the loop domain loads its configuration and sets cold start. -/
  | loopDomainStart
  /-- CSTORE_JOB_ADMIT (R594): CSTORE is at 6.0 V or above and a waiting peak job is admitted in priority order. -/
  | cstoreJobAdmit (t : Nat) (mv : Nat)
  /-- LOOP_INPUT_ACCEPT (R607): The loop domain accepts a loop variable, restarts the staleness timer and sets the output, or rejects a NaN. -/
  | loopInputAccept (t : Nat)
  /-- LOOP_STALE (R603): No input is accepted for STALE_MS; FAIL_ACTION drives the loop and LOOP_STALE is raised. -/
  | loopStale (t : Nat)
  /-- LOOP_HOST_ABSENT (R601): The core domain signals host-absent and ABSENT_ACTION applies. -/
  | loopHostAbsent
  /-- CORE_FRAME_TIMEOUT (R601): Ten ms pass without a frame from the core domain and host-absent applies. -/
  | coreFrameTimeout
  /-- OPEN_LOOP (R611): The readback stays below half the set current for 50 ms and OPEN_LOOP is declared. -/
  | openLoop (read : Nat)
  /-- OPEN_LOOP_CLEAR (R611): The readback stays at or above half the set current for 500 ms and OPEN_LOOP clears. -/
  | openLoopClear (read : Nat)
  /-- NO_COMPLIANCE (R612): Headroom stays below 0.8 V for 50 ms and NO_COMPLIANCE is declared. -/
  | noCompliance (mv : Nat)
  /-- NO_COMPLIANCE_CLEAR (R612): Headroom stays at or above 0.9 V for 500 ms and NO_COMPLIANCE clears. -/
  | noComplianceClear (mv : Nat)
  /-- SENSOR_CONVERSION (R609): A measure-direct input completes a conversion at its rate. -/
  | sensorConversion (k : Nat) (v : Word)
  /-- CALIBRATION_TIMEOUT (R627): 600 s pass without a calibration command and the loop calibration ends unchanged. -/
  | calibrationTimeout (t : Nat)
  /-- LOOP_NVM_WRITE_DONE (R624): A loop NVM configuration copy is written and takes effect. -/
  | loopNvmWriteDone
  /-- HART_CMD_0 (R615): HART command 0 returns the manufacturer code, device type and device ID. -/
  | hartCmd0
  /-- HART_CMD_1 (R614): HART universal command 1 is answered. -/
  | hartCmd1
  /-- HART_CMD_2 (R614): HART universal command 2 is answered. -/
  | hartCmd2
  /-- HART_CMD_3 (R615): HART universal command 3 returns the device variables and loop current. -/
  | hartCmd3 (qv : Word)
  /-- HART_CMD_6 (R620): HART command 6 sets the polling address and loop current mode. -/
  | hartCmd6 (addr : Nat) (mode : Nat)
  /-- HART_CMD_7 (R614): HART universal command 7 is answered. -/
  | hartCmd7
  /-- HART_CMD_8 (R614): HART universal command 8 is answered. -/
  | hartCmd8
  /-- HART_CMD_9 (R614): HART universal command 9 is answered. -/
  | hartCmd9 (codes : List Byte) (qv : Word)
  /-- HART_CMD_11 (R614): HART universal command 11 is answered. -/
  | hartCmd11 (tag : List Byte)
  /-- HART_CMD_12 (R614): HART universal command 12 is answered. -/
  | hartCmd12
  /-- HART_CMD_13 (R614): HART universal command 13 is answered. -/
  | hartCmd13
  /-- HART_CMD_14 (R614): HART universal command 14 is answered. -/
  | hartCmd14
  /-- HART_CMD_15 (R619): HART command 15 reports damping 0, range values and write protect in force. -/
  | hartCmd15
  /-- HART_CMD_16 (R614): HART universal command 16 is answered. -/
  | hartCmd16
  /-- HART_CMD_17 (R621): HART write command 17 is stored in loop NVM unless write-protected. -/
  | hartCmd17 (data : List Byte)
  /-- HART_CMD_18 (R621): HART write command 18 is stored in loop NVM unless write-protected. -/
  | hartCmd18 (data : List Byte)
  /-- HART_CMD_19 (R621): HART write command 19 is stored in loop NVM unless write-protected. -/
  | hartCmd19 (data : List Byte)
  /-- HART_CMD_20 (R614): HART universal command 20 is answered. -/
  | hartCmd20
  /-- HART_CMD_21 (R614): HART universal command 21 is answered. -/
  | hartCmd21 (tag : List Byte)
  /-- HART_CMD_22 (R621): HART write command 22 is stored in loop NVM unless write-protected. -/
  | hartCmd22 (data : List Byte)
  /-- HART_CMD_38 (R619): HART command 38 resets the configuration-changed flag unless write-protected. -/
  | hartCmd38
  /-- HART_CMD_48 (R618): HART command 48 returns the additional device status. -/
  | hartCmd48
  /-- HART_READ_LOOP_CONFIGURATION (R616): HART command 128 returns the loop configuration. -/
  | hartReadLoopConfiguration
  /-- HART_WRITE_FAILURE_CONFIG (R616): HART command 129 writes the failure configuration. -/
  | hartWriteFailureConfig (fail : Nat) (absent : Nat) (staleMs : Nat) (down : Nat) (up : Nat)
  /-- HART_SET_FIXED_CURRENT (R617): HART command 130 enters or leaves a fixed current. -/
  | hartSetFixedCurrent (ua : Nat)
  /-- HART_READ_LOOP_DIAGNOSTICS (R616): HART command 131 returns loop diagnostics. -/
  | hartReadLoopDiagnostics
  /-- HART_READ_ACCELERATOR_LINK (R616): HART command 132 returns the accelerator link state. -/
  | hartReadAcceleratorLink
  /-- HART_READ_SENSOR_CONFIGURATION (R616): HART command 133 returns the sensor configuration. -/
  | hartReadSensorConfiguration
  /-- HART_WRITE_SENSOR_CONFIGURATION (R616): HART command 134 writes the sensor configuration. -/
  | hartWriteSensorConfiguration (sens0 : Word) (sens1 : Word) (input : Nat)
  /-- HART_WRITE_RANGE_VALUES (R616): HART command 135 writes LRV, URV and units. -/
  | hartWriteRangeValues (lrv : Word) (urv : Word) (units : Nat)
  /-- HART_READ_ALARM_INPUTS (R616): HART command 136 returns the alarm inputs and actions. -/
  | hartReadAlarmInputs
  /-- HART_UNIMPLEMENTED_COMMAND (R614): Any other HART command returns response code 64. -/
  | hartUnimplementedCommand (cmd : Nat)
  /-- CLR_REJECTED (R630): A write of 1 to LCH_LOOP_CLEAR.CLR_REJECTED clears LCH_LV_REJECTED. -/
  | clrRejected (coin : Nat)
  /-- CLR_HART (R630): A write of 1 to LCH_LOOP_CLEAR.CLR_HART clears LCH_HART_ERRORS. -/
  | clrHart (coin : Nat)
  /-- VSTBY_FALL (R631): VSTBY falls below 2.85 V; the core domain moves to VBAT and holds the Quickset die in reset. -/
  | vstbyFall
  /-- VSTBY_RISE (R634): VSTBY rises to 3.0 V; the core domain returns to VSTBY, measures CHOLD and reaches S0. -/
  | vstbyRise (uf : Nat) (mv : Nat)
  /-- VBAT_LOSS (R635): VBAT falls below 2.2 V with VSTBY absent and RTC and retention RAM are lost. -/
  | vbatLoss (mv : Nat)
  /-- CELL_TEST (R636): A loaded-cell test runs and sets or clears CELL_LOW. -/
  | cellTest (mv : Nat)
  /-- ALARM_SAMPLE (R641): The 10 ms alarm sample wets and reads each input and declares changes. -/
  | alarmSample (closed : Nat)
  /-- OVERTEMP_LATCH_TRIP (R645): Temperature limits hold for 1 ms; OVERTEMP_N goes low and the Quickset die is held in reset. -/
  | overtempLatchTrip (temp : Int)
  /-- OVERTEMP_LATCH_RELEASE (R646): The latch releases below 90 °C with PERST_N asserted or VSTBY cycled. -/
  | overtempLatchRelease (temp : Int)
  /-- RECORD_NVM_WRITE (R649): A retention record is written to the NVM log and freed. -/
  | recordNvmWrite
  /-- LOG_DELIVERY (R651): An undelivered NVM record is delivered to the operator ring once it is enabled. -/
  | logDelivery
  /-- WATCHDOG_KICK (R656): A kick from the management processor restarts the watchdog timeout. -/
  | watchdogKick (timeout : Option Nat)
  /-- WATCHDOG_RESET (R657): The watchdog expires and resets the Quickset and Thicket dies as a hot reset. -/
  | watchdogReset (t : Nat)
  /-- JTAG_CORE_HALT (R656): JTAG halts a management processor core and the watchdog pauses. -/
  | jtagCoreHalt (c : Nat)
  /-- CORE_POWER_UP (R672): At core domain power-up the life-cycle slots are read and the governing state found. -/
  | corePowerUp (torn : Bool)
  /-- LIFECYCLE_REDO (R673): With VSTBY and HOLD_OK, a pending transition's side effects are redone and committed. -/
  | lifecycleRedo
  /-- LIFECYCLE_COMMIT (R669): A transition's side effects end and the commit marker is written; LIFECYCLE_CHANGED follows. -/
  | lifecycleCommit
  /-- FRAME_RECEIVE (R687): A Denben frame is received whole, checked, aligned and its overhead and payload taken. -/
  | frameReceive (p : Nat) (t : Nat) (bytes : List Byte)
  /-- FRAME_TRANSMIT (R699): At the start of a frame period the transmitter sends a payload or fill frame. -/
  | frameTransmit (p : Nat) (t : Nat)
  /-- DLOS_TIMER (R692): Every lane in use lacks a signal for 1 µs, or a lane regains one for 10 µs, declaring or clearing dLOS. -/
  | dlosTimer (p : Nat) (t : Nat) (signal : Nat)
  /-- WIDTH_REQUEST (R715): A lane stays not good for 10 µs and a narrower width is requested. -/
  | widthRequest (t : Nat)
  /-- WIDTH_RESTORE (R715): Every lane of a larger width stays good for 1 s and that width is requested. -/
  | widthRestore (t : Nat)
  /-- RETRAIN_DEFECT_TIMEOUT (R717): dLOS, dLOL or dLOF stands for 10 ms and a retrain starts. -/
  | retrainDefectTimeout (p : Nat) (t : Nat)
  /-- RETRAIN_ATTEMPT_TIMEOUT (R718): A retrain attempt has not succeeded within 10 ms and fails. -/
  | retrainAttemptTimeout (p : Nat) (t : Nat)
  /-- RETRAIN_RETRY (R718): The backoff after a failed retrain attempt expires and a new attempt starts. -/
  | retrainRetry (p : Nat) (t : Nat)
  /-- DCC_EXCHANGE (R711): A DCC serial port exchanges one byte in each direction. -/
  | dccExchange (d : Nat) (rxd : Nat)
  /-- FRM_CLEAR_WRITE (R697): A write of FRM_CLEAR_p clears the selected live counters. -/
  | frmClearWrite (p : Nat) (bits : Nat) (coin : Nat)
  /-- TWIN_REFCLK_LOSS (R808): TWIN_REFCLK is absent; every Denben transmitter is silent and every framer reports dLOS. -/
  | twinRefclkLoss (t : Nat)
  /-- HEARTBEAT_TICK (R739): Every 5 µs of device time HEARTBEAT increments. -/
  | heartbeatTick (t : Nat)
  /-- FENCE_PULSE (R739): Every 10 µs a fence pulse is driven while the fence was refreshed within 1 ms. -/
  | fencePulse (t : Nat)
  /-- FENCE_IN_EDGE (R740): A rising edge arrives on TWIN_FENCE_IN and the fence counts as present. -/
  | fenceInEdge (t : Nat)
  /-- HEARTBEAT_MISSING (R740): Thirty-two heartbeats are missing and PARTNER_LOST with LINK or PARTNER cause applies. -/
  | heartbeatMissing (t : Nat)
  /-- FENCE_ABSENT (R740): No fence edge arrives for 100 µs and PARTNER_LOST with FENCE or PARTNER cause applies. -/
  | fenceAbsent (t : Nat)
  /-- DCC_P_STATUS_MESSAGE (R733): A STATUS message is received on DCC-P and its role, term, digest and flags are compared. -/
  | dccPStatusMessage
  /-- DCC_P_LOOP_MESSAGE (R761): A LOOP message is received; a STANDBY passes a valid source current to its loop domain. -/
  | dccPLoopMessage
  /-- SOURCE_CURRENT_READ (R735): A PRIMARY reads its loop source current each millisecond and sends it in a LOOP message. -/
  | sourceCurrentRead (t : Nat)
  /-- EPOCH_CLOSE (R741): Pair time reaches a multiple of EPOCH_US and the primary sends the epoch's records. -/
  | epochClose (t : Nat)
  /-- MIRROR_DATA_RECORD (R745): The standby writes a received DATA record into its mirror region. -/
  | mirrorDataRecord
  /-- MIRROR_QUEUE_RECORD (R745): The standby holds a received QUEUE record until its CLOSE. -/
  | mirrorQueueRecord
  /-- MIRROR_STALE_RECORD (R741): The standby marks the named plot stale. -/
  | mirrorStaleRecord
  /-- MIRROR_CLOSE_RECORD (R745): The standby checks the counts and acknowledges the epoch or asks for a full copy. -/
  | mirrorCloseRecord
  /-- MIRROR_RESULT_RECORD (R750): A RESULT record is compared with the local unit digest in LOCKSTEP. -/
  | mirrorResultRecord
  /-- SYNC_ROUND (R751): A STANDBY's 1 ms sync round computes the time error and steps or slews PAIR_OFFSET. -/
  | syncRound (t : Nat)
  /-- CONFIG_DISCORD_TIMEOUT (R754): Digests differ for 1 s while paired and the STANDBY becomes UNPAIRED. -/
  | configDiscordTimeout (t : Nat)
  /-- FAILOVER_HOLD_END (R756): The failover hold ends without veto and the new term is written. -/
  | failoverHoldEnd (t : Nat)
  /-- TERM_WRITE_DONE (R726): The core domain has written the new term and the part acts as PRIMARY. -/
  | termWriteDone
  /-- TWN_CLR_LOCAL_WRITES (R764): A write of TWN_CLEAR bit 0 clears TWN_LOCAL_WRITES. -/
  | twnClrLocalWrites (coin : Nat)
  /-- TWN_CLR_RESULT_DISCORDS (R764): A write of TWN_CLEAR bit 1 clears TWN_RESULT_DISCORDS. -/
  | twnClrResultDiscords (coin : Nat)
  /-- STAGE_S2 (R766): The configuration image is completed and served and mailbox 0 answers at MOSS_ROM. -/
  | stageS2 (t : Nat) (link : Bool)
  /-- STAGE_S3 (R766): The chosen slot is authenticated and started, or the other slot tried. -/
  | stageS3 (t : Nat) (facts : List (Nat × Nat × Nat))
  /-- STAGE_S4 (R766): PMBus is set, brackens self-tested and the glide to VL1 confirmed. -/
  | stageS4 (t : Nat) (failed : Nat) (read : Option Nat)
  /-- STAGE_S5 (R766): The stacks are trained and every plot marked stale. -/
  | stageS5 (t : Nat) (failed : Nat)
  /-- STAGE_S6 (R766): Every Denben transmitter and framer is enabled. -/
  | stageS6 (t : Nat)
  /-- STAGE_S7 (R766): The full command set is served and the level set to PARTIAL or FULL. -/
  | stageS7 (t : Nat)
  /-- BOOT_BACKOFF_END (R788): The S3 backoff wait expires and both slots are read and authenticated again. -/
  | bootBackoffEnd (t : Nat) (facts : List (Nat × Nat × Nat))
  /-- LICHEN_LINK_RETRY (R775): The wait after a silent core domain expires and S3 asks again. -/
  | lichenLinkRetry (t : Nat) (link : Bool)
  /-- BRACKEN_RETEST (R790): The wait of a failed bracken expires and it is self-tested again. -/
  | brackenRetest (t : Nat) (b : Nat) (pass : Bool)
  /-- BOOT_CONFIRM (R787): Firmware has run 60 s without a watchdog reset; FAILS is cleared and NEXT set to the running slot. -/
  | bootConfirm (t : Nat)
  /-- BOOT_EVENT_DELIVERY (R794): A buffered boot record is delivered to the operator ring once it is enabled. -/
  | bootEventDelivery
  /-- GBL_IRQ_MASK_WRITE (R798): Unmasking a set GBL_IRQ_STATUS bit sends PF0 vector 0. -/
  | gblIrqMaskWrite (m : Nat)
  /-- RAILS_SETTLED (R803): Every required rail has been in its window for 10 ms and the dies leave reset. -/
  | railsSettled
  /-- RAIL_DIP (R804): A Quickset, serdes, slice or stack rail falls below its window for more than 10 µs and the part resets as for power-up. -/
  | railDip
  /-- SMBUS_IDENTITY (R814): SMBus command 0x00 returns the identity byte 0x72. -/
  | smbusIdentity
  /-- SMBUS_SERVICE (R814): SMBus command 0x01 returns service level and stage. -/
  | smbusService
  /-- SMBUS_TJ_MAX (R814): SMBus command 0x02 returns TJ_MAX. -/
  | smbusTjMax
  /-- SMBUS_STACK_TEMPERATURE (R814): SMBus command 0x03 returns the highest stack temperature. -/
  | smbusStackTemperature
  /-- SMBUS_POWER (R814): SMBus command 0x04 returns the estimated power. -/
  | smbusPower (watts : Nat)
  /-- SMBUS_VDD_FAB (R814): SMBus command 0x05 returns VDD_FAB from READ_VOUT. -/
  | smbusVddFab
  /-- SMBUS_ACTIVE_POINT (R814): SMBus command 0x06 returns the active operating point. -/
  | smbusActivePoint
  /-- SMBUS_LIFE_CYCLE (R814): SMBus command 0x07 returns the life-cycle state. -/
  | smbusLifeCycle
  /-- SMBUS_FLAGS (R814): SMBus command 0x08 returns the fault flags. -/
  | smbusFlags
  /-- SMBUS_OTHER (R814): Any other SMBus command or write data byte is NACKed. -/
  | smbusOther
  /-- STACK_TEMPERATURE_CHANGE (R237): A stack's temperature crosses 85 °C or falls back below 95 °C, changing the slice's guaranteed rate and clearing SLC_STATUS_n.HOT. -/
  | stackTemperatureChange (n : Nat) (t : Int)
  /-- LOOP_PRESENT_LOSS (R630): Fifty ms pass without a frame from the loop domain and the proxy clears LOOP_PRESENT, so loop commands report the loop absent. -/
  | loopPresentLoss
  /-- HART_FRAME_ERROR (R630): A HART frame arrives with a framing, parity or checksum error and is counted in LCH_HART_ERRORS. -/
  | hartFrameError
  /-- JTAG_CORE_RESUME (R656): JTAG releases a halted management processor core and the paused watchdog resumes counting. -/
  | jtagCoreResume (c : Nat)
  /-- TWIN_REFCLK_RETURN (R808): TWIN_REFCLK returns, so the Denben transmitters send again and the framers can leave dLOS. -/
  | twinRefclkReturn (t : Nat)
  /-- LANE_MARKER (R688): A lane marker arrives, or fails to arrive, on one lane, so the lane gains or loses lane lock, including lanes outside LANES and before frame alignment. -/
  | laneMarker (p : Nat) (t : Nat) (lane : Nat) (ok : Bool) (fn : Nat) (ctrl : Nat) (skew : Nat)
  deriving DecidableEq, Repr

end Sys2Proof
end

