-- ==== Sys2Proof/Decode.lean ====
section
/-!
DEFINITION. Sys2Proof/Decode.lean: what a word of the command table spells.
-/

namespace Sys2Proof

/-- The command that a table word spells.
spec/opcode_table.json gives no row any bits: the commands of this part are bus accesses, events and messages, and no word spells one (DEDUCED, notes/assumptions/3.md). -/
def decodeTableWord (_nbits _w : Nat) : Option Instr := none

end Sys2Proof
end

