-- ==== Sys2Proof/Machine/Digest.lean ====
section
/-!
DEFINITION. Sys2Proof/Machine/Digest.lean: the checksums, digests and signatures that the manual names.
CRC-32C and CRC-14 (R254, R257), SHA-256 (R183, R731), SHA-384 and ECDSA P-384 (R529, R530); the algorithms are those of their public standards (PRESUMED, notes/assumptions/15.md).
-/

namespace Sys2Proof.Machine

open Sys2Proof

/-! ### Cyclic redundancy checks -/

/-- One bit of a reflected CRC with the reflected polynomial `poly`. -/
def crcBit (poly c : Nat) : Nat := if c % 2 = 1 then (c / 2) ^^^ poly else c / 2

/-- One byte of a reflected CRC. -/
def crcByte (poly c : Nat) (b : Byte) : Nat :=
  (List.range 8).foldl (fun c _ => crcBit poly c) (c ^^^ b.toNat)

/-- CRC-32C (polynomial 0x1EDC6F41, reflected, initial value and final XOR all ones). -/
def crc32c (bs : List Byte) : Nat := bs.foldl (crcByte 0x82F63B78) 0xFFFFFFFF ^^^ 0xFFFFFFFF

/-- CRC-14 of R254: polynomial 0x0805 reflected in 14 bits, initial value zero, no final XOR. -/
def crc14 (bs : List Byte) : Nat := bs.foldl (crcByte 0x2804) 0

/-! ### SHA-2 -/

/-- The number that a list of bytes spells, first byte highest. -/
def beNat (bs : List Byte) : Nat := bs.foldl (fun n b => n * 256 + b.toNat) 0

/-- A number in `n` bytes, highest first. -/
def natBe (n x : Nat) : List Byte := (List.range n).map fun i => BitVec.ofNat 8 (x >>> (8 * (n - 1 - i)))

/-- The largest number, of those with bits below `n`, whose `e`-th power is at most `x`. -/
def rootBits (e x : Nat) : Nat → Nat → Nat
  | 0, r => r
  | n + 1, r => rootBits e x n (if (r + 2 ^ n) ^ e ≤ x then r + 2 ^ n else r)

/-- The first 64 bits of the fraction of the `e`-th root of `x`. -/
def rootFrac (e x : Nat) : Nat := rootBits e (x * 2 ^ (64 * e)) 70 0 % 2 ^ 64

/-- The primes below 410, of which there are 80: no number from 2 to 20 below one divides it. -/
def shaPrimes : List Nat := (List.range 410).filter fun n => 2 ≤ n && (List.range 21).all fun d => d ≤ 1 || n ≤ d || n % d != 0

/-- The round constants of SHA-384: fractions of the cube roots of the first 80 primes. -/
def roundConsts : List Nat := shaPrimes.map (rootFrac 3)

/-- What tells SHA-256 and SHA-384 apart, for words of `w` bits: the round constants, the initial value (four words of each half), the rotations of Σ0, Σ1, σ0 and σ1, and the shifts of the last two. -/
structure ShaKind (w : Nat) where
  consts : List (BitVec w)
  start : List (BitVec w) × List (BitVec w)
  up0 : List Nat
  up1 : List Nat
  low0 : List Nat × Nat
  low1 : List Nat × Nat

/-- A kind whose constants and initial value begin the fractions of roots of primes: `rounds` of them, from prime number `first` on. -/
def ShaKind.of (w rounds first : Nat) (up0 up1 : List Nat) (low0 low1 : List Nat × Nat) : ShaKind w :=
  let word := fun (x : Nat) => BitVec.ofNat w (x >>> (64 - w))
  let init := ((shaPrimes.drop first).take 8).map fun q => word (rootFrac 2 q)
  { consts := (roundConsts.take rounds).map word, start := init.splitAt 4, up0 := up0, up1 := up1, low0 := low0, low1 := low1 }

/-- SHA-256: words of 32 bits and 64 rounds. -/
def kind256 : ShaKind 32 := ShaKind.of 32 64 0 [2, 13, 22] [6, 11, 25] ([7, 18], 3) ([17, 19], 10)

/-- SHA-384: words of 64 bits and 80 rounds; its initial value begins at the ninth prime. -/
def kind384 : ShaKind 64 := ShaKind.of 64 80 8 [28, 34, 39] [14, 18, 41] ([1, 8], 7) ([19, 61], 6)

/-- Rotations of a word joined, beginning with `z`. -/
def turns {w : Nat} (z : BitVec w) (rs : List Nat) (x : BitVec w) : BitVec w := rs.foldl (fun y r => y ^^^ x.rotateRight r) z

/-- σ0 or σ1: two rotations and a shift. -/
def mixLow {w : Nat} (m : List Nat × Nat) (x : BitVec w) : BitVec w := turns (x >>> m.2) m.1 x

/-- The words of a block followed by `n` more of the schedule; the list is kept with the newest word in front. -/
def shaWords {w : Nat} (k : ShaKind w) : Nat → List (BitVec w) → List (BitVec w)
  | 0, back => back.reverse
  | n + 1, back =>
    let at_ := fun i => back.getD i 0
    shaWords k n ((at_ 15 + at_ 6 + mixLow k.low0 (at_ 14) + mixLow k.low1 (at_ 1)) :: back)

/-- One round, on the last four words of the two halves, newest in front: each half gains a word and loses its oldest. -/
def shaStep {w : Nat} (k : ShaKind w) (v : List (BitVec w) × List (BitVec w)) (x : BitVec w) : List (BitVec w) × List (BitVec w) :=
  let hi := fun i => v.1.getD i 0
  let lo := fun i => v.2.getD i 0
  let choice := lo 2 ^^^ (lo 0 &&& (lo 1 ^^^ lo 2))
  let most := (hi 0 &&& (hi 1 ||| hi 2)) ||| (hi 1 &&& hi 2)
  let push := x + lo 3 + choice + turns 0 k.up1 (lo 0)
  ((push + most + turns 0 k.up0 (hi 0)) :: v.1.take 3, (push + hi 3) :: v.2.take 3)

/-- The value after one more block. -/
def shaAbsorb {w : Nat} (k : ShaKind w) (v : List (BitVec w) × List (BitVec w)) (block : List Byte) : List (BitVec w) × List (BitVec w) :=
  let first := (List.range 16).map fun i => BitVec.ofNat w (beNat ((block.drop (i * (w / 8))).take (w / 8)))
  let rounds := List.zipWith (· + ·) k.consts (shaWords k (k.consts.length - 16) first.reverse)
  let out := rounds.foldl (shaStep k) v
  (List.zipWith (· + ·) v.1 out.1, List.zipWith (· + ·) v.2 out.2)

/-- The padded message of SHA-2 with blocks of `blk` bytes: a one, zeros, and the length in bits. -/
def shaPad (blk : Nat) (bs : List Byte) : List Byte :=
  let n := bs.length
  let z := (2 * blk - (n + 1 + blk / 8) % blk) % blk
  bs ++ [0x80] ++ List.replicate z 0 ++ natBe (blk / 8) (8 * n)

/-- The words of a message's digest. -/
def shaValue {w : Nat} (k : ShaKind w) (bs : List Byte) : List Nat :=
  let m := shaPad (2 * w) bs
  let v := (List.range (m.length / (2 * w))).foldl (fun v i => shaAbsorb k v ((m.drop (2 * w * i)).take (2 * w))) k.start
  (v.1 ++ v.2).map fun x => x.toNat

/-- SHA-256: 32 bytes. -/
def sha256 (bs : List Byte) : List Byte := (shaValue kind256 bs).flatMap (natBe 4)

/-- SHA-384: the first 48 bytes. -/
def sha384 (bs : List Byte) : List Byte := ((shaValue kind384 bs).take 6).flatMap (natBe 8)

/-! ### ECDSA over P-384 -/

/-- The field prime of P-384. -/
def p384 : Nat := 2 ^ 384 - 2 ^ 128 - 2 ^ 96 + 2 ^ 32 - 1
/-- The order of its base point. -/
def n384 : Nat := 0xffffffffffffffffffffffffffffffffffffffffffffffffc7634d81f4372ddf581a0db248b0a77aecec196accc52973
/-- The coefficient b of the curve y² = x³ − 3x + b. -/
def b384 : Nat := 0xb3312fa7e23ee7e4988e056be3f82d19181d9c6efe8141120314088f5013875ac656398d8a2ed19d2a85c8edd3ec2aef
/-- The base point. -/
def g384 : Nat × Nat :=
  (0xaa87ca22be8b05378eb1c71ef320ad746e1d3b628ba79b9859f741e082542a385502f25dbf55296c3a545e3872760ab7,
   0x3617de4a96262c6f5d9e98bf9292dc29f8f41dbd289a147ce9da3113b5f0b8c00a60b1ce1d7e819d7a431d7c90ea0e5f)

/-- b^e modulo m, over `fuel` bits of e. -/
def powMod (m : Nat) : Nat → Nat → Nat → Nat
  | 0, _, _ => 1 % m
  | fuel + 1, b, e =>
    let r := powMod m fuel (b * b % m) (e / 2)
    if e % 2 = 1 then r * b % m else r

/-- The inverse modulo a prime. -/
def invMod (m x : Nat) : Nat := powMod m 384 (x % m) (m - 2)

/-- The sum of two points of the curve; none is the point at infinity. -/
def ptAdd (a b : Option (Nat × Nat)) : Option (Nat × Nat) :=
  match a, b with
  | none, b => b
  | a, none => a
  | some (x1, y1), some (x2, y2) =>
    if x1 = x2 ∧ (y1 + y2) % p384 = 0 then none
    else
      let l := if x1 = x2 then (3 * x1 * x1 + (p384 - 3)) * invMod p384 (2 * y1) % p384
        else (y2 + p384 - y1) * invMod p384 (x2 + p384 - x1) % p384
      let x3 := (l * l + 2 * p384 - x1 - x2) % p384
      some (x3, (l * (x1 + p384 - x3) + p384 - y1) % p384)

/-- k times a point, over `fuel` bits of k. -/
def ptMul : Nat → Nat → Option (Nat × Nat) → Option (Nat × Nat)
  | 0, _, _ => none
  | fuel + 1, k, q =>
    let r := ptMul fuel (k / 2) (ptAdd q q)
    if k % 2 = 1 then ptAdd r q else r

/-- Whether (x, y) is a point of the curve. -/
def onCurve (x y : Nat) : Bool :=
  decide (x < p384 ∧ y < p384) && (y * y % p384 == (x * x % p384 * x + (p384 - 3) * x + b384) % p384)

/-- Whether `sig` (r then s, 48 bytes each, highest byte first) is a valid ECDSA P-384 signature of a SHA-384 digest under a public key (x then y, 48 bytes each, highest byte first). -/
def ecdsaOk (key digest sig : List Byte) : Bool :=
  let x := beNat (key.take 48)
  let y := beNat (key.drop 48)
  let r := beNat (sig.take 48)
  let s := beNat (sig.drop 48)
  if key.length = 96 ∧ sig.length = 96 ∧ onCurve x y ∧ 0 < r ∧ r < n384 ∧ 0 < s ∧ s < n384 then
    let w := invMod n384 s
    match ptAdd (ptMul 384 (beNat digest * w % n384) (some g384)) (ptMul 384 (r * w % n384) (some (x, y))) with
    | some (px, _) => px % n384 == r
    | none => false
  else false

end Sys2Proof.Machine
end

