-- ==== Sys2Proof/Config.lean ====
section
/-!
DEFINITION. Sys2Proof/Config.lean: what one implementation fixes and the values that the manual leaves open.
Every opaque constant here has no body: no proof can see its value, so a claim holds whatever it is.
-/

namespace Sys2Proof.Config

/-- A choice among equally good candidates where the manual fixes none: the n-th free choice of a run.
DESIGN CHOICE, logged in notes/assumptions/4.md. -/
opaque pick : Nat → Nat

/-- The n-th free value of a run, where the manual gives an effect but no value. DESIGN CHOICE, logged in notes/assumptions/4.md. -/
opaque freeValue : Nat → BitVec 64

/-- A numeric choice that the manual leaves to a frond's units: the bits of a NaN, which of several zeros a maximum gives, and which result within its bound a nonlinear function gives. A function of the operation and its operands alone, since a program's results depend on nothing else (R149). DEDUCED, logged in notes/assumptions/13.md. -/
opaque numeric : List Nat → Nat

/-- The element bits of an MXQ group whose scale is 0xFF (R275): a function of MXTYPE and the raw group, since the same raw data always produces the same bytes. DEDUCED, logged in notes/assumptions/16.md. -/
opaque mxBody : Nat → Nat → Nat

/-- The bytes of the factory's ROM area that the manual does not give (R318), by window offset. DEDUCED, logged in notes/assumptions/19.md. -/
opaque romByte : Nat → BitVec 8

/-- Where the PCIR structure of the factory's expansion ROM image lies (R318), which its header's pointer names: the n-th 4-byte place after the 28-byte header. DEDUCED, logged in notes/assumptions/19.md. -/
opaque pcirPlace : Nat

/-- Whether the part sets Relaxed Ordering in the requests of an agent while Device Control allows it (R298). DEDUCED, logged in notes/assumptions/94.md. -/
opaque relaxed : Nat → Bool

/-- Whether the part sets No Snoop in the requests of an agent while Device Control allows it (R298). DEDUCED, logged in notes/assumptions/94.md. -/
opaque noSnoop : Nat → Bool

/-- The requester ID that the host's register accesses carry, which the rows do not give (R491). DESIGN CHOICE, logged in notes/assumptions/104.md. -/
opaque hostRid : Nat

/-- The bytes of HART answers that the manufacturer fixes and the manual does not give: revisions, profiles, classifications, transducer data. PRESUMED, logged in notes/assumptions/23.md. -/
opaque hartByte : Nat → BitVec 8

/-- The public keys of Pladordo in key slots 0 and 1 (R527), by slot and byte: X then Y, lowest byte first. DEDUCED, logged in notes/assumptions/47.md. -/
opaque factoryKey : Nat → Nat → BitVec 8

end Sys2Proof.Config
end

