-- ==== Sys2Proof/Machine/Tab.lean ====
section
/-!
DEFINITION. Sys2Proof/Machine/Tab.lean: sparse tables by number.
A table is a list of (key, value) pairs, keys strictly rising, no value equal to what an unlisted key reads as.
Registers, fronds, slots, cache entries and the memory of the stacks are all held this way, so that equal tables are equal data.
-/

namespace Sys2Proof.Machine

/-- A sparse table: what is not listed reads as the default that its reader names. -/
abbrev Tab (α : Type) := List (Nat × α)

/-- The value at `k`; `d` where the table lists none. -/
def Tab.get {α : Type} (d : α) (k : Nat) : Tab α → α
  | [] => d
  | (k', v) :: t => if k' = k then v else Tab.get d k t

/-- The table without an entry at `k`. -/
def Tab.del {α : Type} (k : Nat) : Tab α → Tab α
  | [] => []
  | (k', v) :: t => if k' = k then Tab.del k t else (k', v) :: Tab.del k t

/-- The table with an entry for `k` put in at its place in the rising order. -/
def Tab.ins {α : Type} (k : Nat) (v : α) : Tab α → Tab α
  | [] => [(k, v)]
  | (k', v') :: t => if k < k' then (k, v) :: (k', v') :: t else (k', v') :: Tab.ins k v t

/-- The table with `v` at `k`; a value equal to the default leaves no entry. -/
def Tab.put {α : Type} [DecidableEq α] (d : α) (k : Nat) (v : α) (m : Tab α) : Tab α :=
  if v = d then Tab.del k m else Tab.ins k v (Tab.del k m)

/-- The table with `f` applied to the value at `k`. -/
def Tab.upd {α : Type} [DecidableEq α] (d : α) (k : Nat) (f : α → α) (m : Tab α) : Tab α :=
  Tab.put d k (f (Tab.get d k m)) m

/-- Whether the table lists `k`. -/
def Tab.has {α : Type} (k : Nat) : Tab α → Bool
  | [] => false
  | (k', _) :: t => if k' = k then true else Tab.has k t

/-- The canonical form: keys strictly rising, and no listed value equal to the default. -/
abbrev Tab.wf {α : Type} (d : α) (m : Tab α) : Prop :=
  m.Pairwise (fun a b => a.1 < b.1) ∧ ∀ e ∈ m, e.2 ≠ d

/-- The numbers `0 … n-1` for which `p` holds. -/
def upTo (n : Nat) (p : Nat → Bool) : List Nat := (List.range n).filter p

/-- `f` applied for every number below `n`, in rising order. -/
def forN {σ : Type} (n : Nat) (f : Nat → σ → σ) (s : σ) : σ :=
  (List.range n).foldl (fun t i => f i t) s

/-- `f` applied for every item of a list, first item first. -/
def forIn' {σ β : Type} (l : List β) (f : β → σ → σ) (s : σ) : σ :=
  l.foldl (fun t i => f i t) s

end Sys2Proof.Machine
end

