-- ==== Sys2Proof/Machine/Blocks.lean ====
section
/-!
DEFINITION. Sys2Proof/Machine/Blocks.lean: the state of each block of the part beside its registers.
What a register of the manual's tables holds is in the register file (Machine/Regs.lean); everything else is here.
-/

namespace Sys2Proof.Machine

open Sys2Proof

/-! ### What the part emits -/

/-- Everything that leaves the part, in the order in which it leaves it.
A model record, never read back by the part. -/
inductive Out where
  /-- A posted memory write of function `fn`: address, PASID where it carries one, whether the address is translated, its attributes (bit 0 Relaxed Ordering, bit 1 No Snoop, R298), and bytes. -/
  | write (fn addr : Nat) (pasid : Option Nat) (translated : Bool) (attr : Nat) (bytes : List Byte)
  /-- A non-posted request of function `fn` with its tag: kind 0 a read, 1 FetchAdd, 2 Swap, 3 CAS, with the operands of an AtomicOp, and its attributes; over CXL.cache (R463), kind 4 a read of lines, 5 ownership of a line with its data, 6 ownership without its data. -/
  | request (fn tag kind addr len : Nat) (pasid : Option Nat) (translated : Bool) (attr operand compare : Nat)
  /-- The write-back of a modified line of the coherence cache over CXL.cache (R463, R464). -/
  | coh (line : Nat) (bytes : List Byte)
  /-- The initial flow-control credits that the endpoint advertises (R477): posted headers and data, non-posted headers and data, and completion headers and data, of which none stands for an infinite number. -/
  | credits (ph pd nph npd : Nat) (cplh cpld : Option Nat)
  /-- The MSI-X message of vector `vec` of function `fn` (R369). -/
  | msi (fn vec : Nat)
  /-- The value that a read returned over an access path. -/
  | value (path addr : Nat) (v : Nat)
  /-- The completion of an inbound request: status 0 success, 1 Unsupported Request, 2 Completer Abort, 3 CRS. -/
  | completion (path status : Nat) (bytes : List Byte)
  /-- A PMBus command to the fabric regulator: code and value (R53). -/
  | pmbus (cmd value : Nat)
  /-- A token handed on by a bracken router at a port towards a place that the model does not step on its own. -/
  | token (place port : Nat) (data : Nat)
  /-- A message of the ATU (kind, function, PASID, address): 0 a Translation Request; 1 a Page Request, with its group in bits 8:0, write access in bit 9 and Last Page Request in bit 10 of the address; 3 an Invalidate Completion; 4 a Stop Marker. -/
  | ats (kind fn pasid addr : Nat)
  /-- A byte string sent on a serial link: DCC port number, or 16 for the HART terminals, and contents. -/
  | serial (link : Nat) (bytes : List Byte)
  /-- A Denben frame or lane control word sent by framer `p`. -/
  | frame (p : Nat) (bytes : List Byte)
  /-- A level or pulse driven on an output pin. -/
  | pin (name value : Nat)
  /-- The loop current set, in µA (R600). -/
  | loopCurrent (ua : Nat)
  deriving DecidableEq, Repr

/-! ### Event unit (R372 to R382) -/

/-- One event record before it is written to a ring (R373). -/
structure EvRec where
  source : Nat
  code : Nat
  seq : Nat
  time : Nat
  sev : Nat
  hedge : Option Nat
  detail : Nat
  deriving DecidableEq, Repr

/-- The queue of one event ring: records not yet written, whether the next record carries LOST (R375), and whether a record was written since the last loss (R376). -/
structure RingQ where
  held : List EvRec := []
  lostNext : Bool := false
  wrote : Bool := false
  deriving DecidableEq, Repr

/-! ### Operating points and cadence guard (R40 to R80) -/

/-- The cadence guard's working state of one hedge (R65 to R70): required point, gates since the last deficit (up to 4,096), gates towards the next lowering, waiting period, and gates that ended since the last lowering (257 at first, and 257 for any more). -/
structure Guard where
  req : Nat := 0
  clean : Nat := 0
  toward : Nat := 0
  period : Nat := 256
  since : Nat := 257
  deriving DecidableEq, Repr

/-- Fabric supply and operating-point control: VDD_FAB last read in mV, the last point confirmed by READ_VOUT (R56), the retry wait in ms and whether a retry is waiting (R58), the bands that each bracken's sensor counts in (R49: bit 0 C, 1 N, 2 H; unlisted brackens count in N), the guards, and a CLEAR_MIN waiting for the next gate (R76). -/
structure Vl where
  vdd : Nat := 0
  confirmed : Nat := 0
  retryMs : Nat := 0
  retrying : Bool := false
  bands : Tab Nat := []
  guards : Tab Guard := []
  clearMin : Bool := false
  deriving DecidableEq, Repr

/-! ### Hedges (R514 to R548) -/

/-- The image bound to a hedge (R180 to R210): origin, footprint in brackens, digest, suggested floor, the gateway routes that its inputs took and the streams of those inputs, the stream ports and loop variable port that its outputs name. -/
structure Image where
  row : Nat := 0
  col : Nat := 0
  rows : Nat := 0
  cols : Nat := 0
  digest : List Byte := []
  floor : Nat := 0
  routes : List Nat := []
  inputs : List Nat := []
  ports : Nat := 0
  loop : Bool := false
  deriving DecidableEq, Repr

/-- One hedge partition. Its brackens, plots and queue pairs are named by the ownership registers. -/
structure Hedge where
  image : Option Image := none
  exist : Bool := false
  pinned : Bool := false
  resetting : Bool := false
  streamPorts : Nat := 0
  loopPort : Bool := false
  channels : Nat := 0
  deriving DecidableEq, Repr

/-! ### Endpoint (R293 to R342) -/

/-- One entry of an MSI-X table: message address and data, its mask bit (set until software clears it) and its pending bit. -/
structure MsixVec where
  addr : Nat := 0
  data : Nat := 0
  masked : Bool := true
  pend : Bool := false
  deriving DecidableEq, Repr

/-- One PCIe function: the configuration registers that were written (unlisted ones read the image, R305), the MSI-X table, whether it is in D3hot, and whether an FLR of it runs (R338). -/
structure Func where
  cfg : Tab (Option Nat) := []
  vecs : Tab MsixVec := []
  d3 : Bool := false
  resetting : Bool := false
  deriving DecidableEq, Repr

/-- The flow-control credits that the endpoint has advertised for what the host sends (R477): posted headers, posted data, non-posted headers, non-posted data, and completion headers and data, none where they are infinite. A data credit is 16 bytes. -/
structure Credits where
  ph : Nat := 0
  pd : Nat := 0
  nph : Nat := 0
  npd : Nat := 0
  cplh : Option Nat := some 0
  cpld : Option Nat := some 0
  deriving DecidableEq, Repr

/-- The endpoint: functions, VF Enable, AVAILABLE flags by feature ID (R315), link state, configuration readiness (R300), identity of the part and of its firmware (R314), and the BAR2 size code and serial number in use and in NVM (R312, R775). -/
structure Ep where
  funcs : Tab Func := []
  vfEnable : Bool := false
  avail : Nat := 0
  perst : Bool := true
  linkDisabled : Bool := false
  linkUp : Bool := false
  speed : Nat := 0
  width : Nat := 0
  upSpeed : Nat := 0
  upWidth : Nat := 0
  flit : Bool := false
  cxl : Bool := false
  degraded : Bool := false
  /-- The flow-control credits advertised on the link (R477). -/
  credits : Credits := {}
  aspmL1 : Bool := false
  crs : Bool := true
  bar2Code : Nat := 0
  bar2Nvm : Nat := 0
  serial : Nat := 0
  serialNvm : Nat := 0
  suffixG : Bool := false
  romVersion : Nat := 0
  cfgImage : Nat := 0
  fwif : Nat := 0
  fwVersion : Nat := 0
  /-- DIR_GEN of each VF's directory (R313, R317; notes/assumptions/54.md). -/
  vfGen : Tab Nat := []
  /-- The bytes of the ROM area of the flash (R318) by window offset, once a FIRMWARE_PUSH wrote them. -/
  rom : Tab (Option Nat) := []
  deriving DecidableEq, Repr

/-! ### Fronds (R81 to R88, R138 to R179) -/

/-- One input stream queue: its stream, its depth, and the tokens it holds, oldest first (kind and payload). -/
structure FQueue where
  bound : Bool := false
  stream : Nat := 0
  depth : Nat := 0
  toks : List (Nat × Payload) := []
  deriving DecidableEq, Repr

/-- One output slot: the stream it sends. Its credit counter is the stream's (one producer per stream, P3). -/
structure FSlot where
  bound : Bool := false
  stream : Nat := 0
  deriving DecidableEq, Repr

/-- One hardware loop in progress (R151): first and last body address, and passes left. -/
structure LoopEnt where
  first : Nat
  last : Nat
  left : Nat
  deriving DecidableEq, Repr

/-- One frond. Registers and stores list only what is not zero; vector lane i of v[r] has key 32 × r + i. -/
structure Frond where
  running : Bool := false
  /-- Halted by the operator's debug access (R540). -/
  halted : Bool := false
  /-- The stream or event instruction that waits for a token or for credit (R148). -/
  wait : Option FOp := none
  pc : Nat := 0
  s : Tab Word := []
  t : Tab Payload := []
  v : Tab Word := []
  acc : Tab Word := []
  wfmt : Nat := 0
  afmt : Nat := 0
  loops : List LoopEnt := []
  /-- The payload of the poison that set poison state (R111, R112). -/
  poison : Option Payload := none
  seen : Bool := false
  /-- The input queues open when poison state was set and not ended since (R113). -/
  eosWait : List Nat := []
  /-- The input queues and output slots whose streams are not open (R143). -/
  closedIn : List Nat := []
  closedOut : List Nat := []
  /-- Weight store (49,152 words), activation store (8,192 words) and program store (2,048 words) of 64 bits. -/
  wst : Tab Dword := []
  ast : Tab Dword := []
  pst : Tab Dword := []
  /-- Words whose check bits show an error: key 65,536 × store + word (0 weight, 1 activation, 2 program); 1 correctable, 2 uncorrectable (R86 to R88). -/
  ecc : Tab Nat := []
  queues : Tab FQueue := []
  slots : Tab FSlot := []
  /-- Whether the frond stopped on a program-store error and its program store was not reloaded since (R88). -/
  needLoad : Bool := false
  /-- Tokens that the frond still owes before it stops on a program-store error (R88): slot, kind, payload. -/
  owed : List (Nat × Nat × Payload) := []
  deriving DecidableEq, Repr

/-! ### Mesh, gateway and hub (R89 to R137) -/

/-- A token between two places of the mesh: at bracken `b` (64 + c: at the hub, from column c), entered through `port` (0 to 47 a frond, 48 N, 49 E, 50 S, 51 W, 52 slice; 64 + 4 × i + d: at the port of frond i of that bracken on its side d, R95), on its channel, and the outputs that it still has to take once the router has looked at it. -/
structure Flight where
  b : Nat
  port : Nat
  ch : Chan
  tok : Tok
  todo : Option Nat := none
  deriving DecidableEq, Repr

/-- The credit account of one stream (R102 to R104): the producer's counter, the destinations, and the returns that each destination has made and that wait for the others. -/
structure StreamCr where
  credit : Nat := 0
  dests : List Nat := []
  returned : Tab Nat := []
  deriving DecidableEq, Repr

/-- The destination that the hub table names for a hedge and stream (R123). -/
inductive HubDest where
  | none
  | queue (q : Nat)
  | port (k : Nat)
  | loop
  | events
  deriving DecidableEq, Repr

/-- One gateway route's buffer of tokens that wait for credit, and the triggers dropped since the last token (R122). -/
structure GwBuf where
  toks : List Payload := []
  dropped : Nat := 0
  deriving DecidableEq, Repr

/-- The fabric beside its fronds: route tables (key 256 × bracken + stream; the mask names fronds in bits 0 to 47, N, E, S, W in 48 to 51, the slice port in 52, the hub in 53), tokens and credit returns in flight (hedge, stream, destination), credit accounts (key 256 × hedge + stream), hub table (the same key), gateway buffers, the pairs of routes whose conflict was raised (R119), the round-robin places of the outputs (key 64 × bracken + output: the input that is looked at first, R100) and of the mesh links (key 4 × bracken + direction: 1 when the system channel goes first, R99), and the clock time at which a frond of each hedge last consumed or sent a token (R129). -/
structure Fab where
  fronds : Tab Frond := []
  routes : Tab (Option Nat) := []
  flight : List Flight := []
  returns : List (Nat × Nat × Nat) := []
  streams : Tab StreamCr := []
  hub : Tab HubDest := []
  gw : Tab GwBuf := []
  /-- Tokens that wait at the hub for their destination, by stream (kind, payload), oldest first (R352). -/
  hubWait : Tab (List (Nat × Payload)) := []
  conflicts : List (Nat × Nat) := []
  turns : Tab Nat := []
  links : Tab Nat := []
  moved : Tab Nat := []
  deriving DecidableEq, Repr

/-! ### Memory slices and the KV codec (R191 to R290) -/

/-- A token that waits at a slice port (R220): the bracken it came through, its kind and payload. -/
structure SlTok where
  brk : Nat
  kind : Nat
  pay : Payload
  deriving DecidableEq, Repr

/-- A request that a slice controller or its codec engine performs (R221, R267): op 1 READ, 2 WRITE, 3 DECODE, 4 ENCODE. -/
structure SReq where
  op : Nat
  reply : Nat
  /-- END of a READ or DECODE, ACK of a WRITE or ENCODE. -/
  fin : Bool
  word0 : Nat
  /-- READ and WRITE: the memory address of the next byte, and the bytes still to come. -/
  addr : Nat := 0
  left : Nat := 0
  /-- Bytes written, or blocks written. -/
  done : Nat := 0
  /-- Tokens taken and not yet written. -/
  buf : List SlTok := []
  /-- Tokens produced and not yet sent on REPLY. -/
  out : List (Nat × Payload) := []
  /-- Codec: region, next block, blocks left, MODE, MXTYPE, blocks stored under R276, and the ACK status. -/
  region : Nat := 0
  block : Nat := 0
  blocks : Nat := 0
  mode : Nat := 0
  mxtype : Nat := 0
  stored : Nat := 0
  status : Nat := 0
  /-- The bracken that the request came through. -/
  brk : Nat := 0
  deriving DecidableEq, Repr

/-- One entry of a weight schedule, translated (R186, R193): memory address, length, frond, buffer. -/
structure SEntry where
  addr : Nat
  len : Nat
  frond : Nat
  buffer : Nat
  deriving DecidableEq, Repr

/-- An entry that is being copied: bytes written, its pass, the first failing slice address (R197), and the second half of a granule that was read whole (R199). -/
structure SAct where
  written : Nat
  pass : Nat
  bad : Option Nat
  half : Option (List Byte) := none
  deriving DecidableEq, Repr

/-- The weight window of one frond (R191 to R198): its buffers, base word, words of a buffer, ready and release streams, the state of each buffer (0 free, 1 filling, 2 full), the next of the frond's own entries, its pass, and tokens that wait for credit. -/
structure Window where
  buffers : Nat := 0
  base : Nat := 0
  words : Nat := 0
  ready : Nat := 0
  release : Nat := 0
  state : Tab Nat := []
  next : Nat := 0
  pass : Nat := 0
  owed : List (Nat × Payload) := []
  deriving DecidableEq, Repr

/-- The schedule of one hedge in one slice: its entries, and the entries being copied. -/
structure Sched where
  entries : List SEntry := []
  active : Tab (Option SAct) := []
  deriving DecidableEq, Repr

/-- The memory slices beside the bytes they hold. -/
structure Slices where
  /-- By granule number (address / 64): 0 good, 1 correctable error, 2 uncorrectable error, 3 poison marker, 4 poison marker with MEM_POISON_WRITE raised (R227 to R230). -/
  ecc : Tab Nat := []
  /-- The filled pages of each stale plot (R234, R235). -/
  filled : Tab (List Nat) := []
  /-- Input queues, key 4,096 × slice + 256 × hedge + stream (R220). -/
  inq : Tab (List SlTok) := []
  /-- The streams that are discarded up to their next EOS (R225, R226, R272). -/
  discard : List Nat := []
  reqs : Tab (Option SReq) := []
  /-- Weight windows by frond, and schedules by key 8 × hedge + slice. -/
  windows : Tab Window := []
  scheds : Tab Sched := []
  /-- By slice: the schedule entry served last (key 8,192 × hedge + entry) and the bytes of its turn (R201). -/
  turns : Tab (Nat × Nat) := []
  /-- Corrected errors of the present second, and whether MEM_CE_STORM was raised in it (R227). -/
  ceSec : Tab (Nat × Bool) := []
  /-- The backoff wait in ms of a DOWN slice (R241), and training failures in a row in S5. -/
  backoff : Tab Nat := []
  fails : Tab Nat := []
  deriving DecidableEq, Repr

end Sys2Proof.Machine
end

