-- ==== Sys2Proof/Machine/HostBlocks.lean ====
section
/-!
DEFINITION. Sys2Proof/Machine/HostBlocks.lean: the state of the host side: translation, bridges, queue pairs and mailboxes (R343 to R513).
-/

namespace Sys2Proof.Machine

open Sys2Proof

/-! ### Outbound requests and their translation (R431 to R470) -/

/-- The agent that makes an outbound request (R468, R488): descriptor fetch, SEND read of a descriptor, RECV write of a stream, completion write, event record write, the command of a mailbox, a management processor core, the trace of R542 and the profile of R543. -/
inductive Agent where
  | fetch (q : Nat)
  | send (q d : Nat)
  | recv (q s : Nat)
  | cpl (q : Nat)
  | evt (r : Nat)
  | mp (m : Nat)
  | core (c : Nat)
  | trace
  | profile
  /-- An agent that is gone while its read was out (R348, R360, R406). -/
  | gone
  deriving DecidableEq, Repr

/-- What a translation gives: it is not there yet, it failed, or where the access goes; the last of a host bus access is the number of the cache entry that it used. -/
inductive XRes where
  | wait
  | fail (reason : Nat)
  | bus (addr : Nat) (pasid : Option Nat) (translated : Bool) (used : Option Nat)
  | coh (addr : Nat)
  | loc (addr : Nat)
  deriving DecidableEq, Repr

/-- Where a translation that is under way stands (R447 to R456): its Translation Request waits in the bridge (R330) or is out under an id (`stale` once an Invalidate Request overlapped it, R448), it waits on page request slot `n` or for a free one, it failed, it was granted by cache entry `id`, it starts again, or it has ended and its access waits for something else (R440); `r` then holds the answer for the page's first byte. -/
inductive XPhase where
  | held
  | ats (id : Nat) (stale : Bool)
  | pri (slot : Nat)
  | priWait
  | failed (reason : Nat)
  | grant (taddr id : Nat)
  | again
  | done (r : XRes)
  deriving DecidableEq, Repr

/-- One translation in progress: who asks, for which page of host memory and access, the page requests made so far, and the page of the device address that it began from. -/
structure Xlate where
  agent : Agent
  hedge : Nat
  fn : Nat
  pasid : Nat
  page : Nat
  write : Bool
  tries : Nat
  phase : XPhase
  dev : Nat := 0
  deriving DecidableEq, Repr

/-- One entry of the address translation cache (R445): its number, and what it holds; the page size is 2^bits bytes. -/
structure AtcEnt where
  id : Nat
  fn : Nat
  pasid : Nat
  page : Nat
  bits : Nat
  rd : Bool
  wr : Bool
  glob : Bool
  taddr : Nat
  deriving DecidableEq, Repr

/-- An outstanding page request (R452): function, PASID and page, and the hedge that holds it. -/
structure PageReq where
  fn : Nat
  pasid : Nat
  page : Nat
  hedge : Nat
  deriving DecidableEq, Repr

/-- Where an outbound non-posted request stands: it waits in the bridge, it is out, or it came back.
What came back has, for each 32 bytes, the cause of their failure (0 where they are good) and its origin. -/
inductive NpPhase where
  | hold
  | sent
  | back (data : List Byte) (bad : List (Nat × Nat))
  deriving DecidableEq, Repr

/-- An outbound non-posted request (R478): its kind as in `Out.request` (0 a read, 1 to 3 an AtomicOp, 4 to 6 over CXL.cache), the address that left, its length, PASID and attributes, whether the address is translated and by which cache entry, and the operands of an AtomicOp.
Of what a read of lines brings, the agent asked for `want` bytes from byte `skip`. -/
structure NpReq where
  agent : Agent
  hedge : Nat
  fn : Nat
  kind : Nat := 0
  addr : Nat
  len : Nat
  pasid : Option Nat := none
  trans : Bool := false
  used : Option Nat := none
  attr : Nat := 0
  operand : Nat := 0
  compare : Nat := 0
  skip : Nat := 0
  want : Nat := 0
  phase : NpPhase := .hold
  deriving DecidableEq, Repr

/-- An outbound posted write that waits in the host bridge (R330, R476), one entry of at most 512 bytes. -/
structure Posted where
  fn : Nat
  addr : Nat
  pasid : Option Nat
  trans : Bool
  attr : Nat
  used : Option Nat
  bytes : List Byte
  deriving DecidableEq, Repr

/-- An Invalidate Request that waits for what used the entries it removed (R458). -/
structure Inval where
  fn : Nat
  itag : Nat
  ents : List Nat
  deriving DecidableEq, Repr

/-- One line of the coherence cache (R463): its 64 bytes, none while it is owned without its data; whether it is owned, and whether it is modified. -/
structure CohLine where
  data : List Byte
  own : Bool
  dirty : Bool
  deriving DecidableEq, Repr

/-- The ATU and the coherence cache beside their registers. `coh` holds the lines of the coherence cache by line number (host address / 64). -/
structure Atu where
  atc : List AtcEnt := []
  xl : List Xlate := []
  preqs : Tab (Option PageReq) := []
  nextId : Nat := 0
  np : Tab (Option NpReq) := []
  nextTag : Nat := 0
  invals : List Inval := []
  /-- Pairs of windows whose conflict was raised (R435): loser, winner. -/
  conflicts : List (Nat × Nat) := []
  coh : Tab (Option CohLine) := []
  /-- Posted writes that wait in the host bridge while their function is in D3hot (R330). -/
  posted : List Posted := []
  deriving DecidableEq, Repr

/-! ### Bridges (R473 to R513) -/

/-- What a core's load-exclusive left (R500, R501): the address and width, the value it read, and in emulated mode the granule that its semaphore entry reserves. -/
structure Reserv where
  addr : Nat
  width : Nat
  value : Nat
  granule : Option Nat
  deriving DecidableEq, Repr

/-- What a core waits for (R500, R501): kind 0 a load-exclusive, 1 the CAS of a store-exclusive, 2 an AtomicOp, 3 the locked read of an emulated atomic, 4 and 5 a store-exclusive and an atomic on a line of the coherence cache. -/
structure CoreOp where
  kind : Nat
  op : Nat
  width : Nat
  addr : Nat
  out : Nat
  operand : Nat
  compare : Nat
  deriving DecidableEq, Repr

/-- An AtomicOp as it arrives (R495): op 0 FetchAdd, 1 Swap, 2 CAS; width in bytes; operand and compare value. -/
structure AtomicReq where
  fn : Nat
  bar : Nat
  off : Nat
  op : Nat
  width : Nat
  operand : Nat
  compare : Nat
  poisoned : Bool
  rid : Nat
  deriving DecidableEq, Repr

/-- An access that waits for a locked granule, or an AtomicOp that waits for an entry (R496, R497): an inbound AtomicOp, an inbound read and write of BAR2 (the write with its memory address), a scrub read of a granule, and a page fill. -/
inductive HeldReq where
  | atomic (r : AtomicReq)
  | read (fn off len rid : Nat)
  | write (fn addr off rid : Nat) (bs : List Byte)
  | scrub (g : Nat)
  | fill (plot page : Nat)
  deriving DecidableEq, Repr

/-- The bridges beside their registers: what each core reserved and waits for, granules of host addresses locked by an emulated atomic (with the core), granules of the stacks locked by AtomicOps (entries 4 to 63), accesses that wait for them in their order of arrival, the pending loop variable (R508), and what each core last received: its value, and whether it succeeded. -/
structure Bridges where
  reserv : Tab (Option Reserv) := []
  pend : Tab (Option CoreOp) := []
  pairs : List (Nat × Nat) := []
  locked : List Nat := []
  waiting : List HeldReq := []
  lv : Option Nat := none
  core : Tab (Nat × Bool) := []
  deriving DecidableEq, Repr

/-! ### Queue pairs (R343 to R370) -/

/-- A fetched descriptor that has not completed (R349), with what it has done so far: bytes moved, tokens read and not yet injected, poison counted, and its fault. -/
structure Desc where
  id : Nat
  op : Nat
  eos : Bool
  irq : Bool
  fence : Bool
  stream : Nat
  tag : Nat
  addr : Nat
  len : Nat
  bad : Bool
  raw : List Byte := []
  /-- 0 not started, 1 started, 2 a SEND that holds its stream (R353). -/
  stage : Nat := 0
  moved : Nat := 0
  toks : List (Nat × Payload) := []
  poisons : Nat := 0
  status : Nat := 0
  cause : Nat := 0
  origin : Nat := 0
  detail : Nat := 0
  flags : Nat := 0
  deriving DecidableEq, Repr

/-- A completion that has not been written (R356): its 32 bytes but for SQ_HEAD and PHASE, the epoch of a mirrored hedge (R361), and whether it asks for an interrupt. -/
structure Cpl where
  tag : Nat
  bytes : Nat
  status : Nat
  flags : Nat
  stream : Nat
  op : Nat
  origin : Nat
  cause : Nat
  poisons : Nat
  detail : Nat
  epoch : Option Nat
  irq : Bool
  deriving DecidableEq, Repr

/-- A queue pair beside its doorbell registers (R343, R347): owner, whether it exists, attributes, indices, descriptors, the read of descriptors that is out, whether fetching or completion writes wait for a doorbell (R469), completions held, and the streams discarded up to an EOS (R358). -/
structure QPair where
  owner : Option Nat := none
  exist : Bool := false
  sqBase : Nat := 0
  sqSize : Nat := 0
  cqBase : Nat := 0
  cqSize : Nat := 0
  vector : Nat := 0
  sqTail : Nat := 0
  cqHead : Nat := 0
  descs : List Desc := []
  nextId : Nat := 0
  fetching : Option Nat := none
  fetchStop : Bool := false
  cplStop : Bool := false
  cqFull : Bool := false
  held : List Cpl := []
  discard : List Nat := []
  deriving DecidableEq, Repr

/-! ### Mailboxes (R395 to R429) -/

/-- A mailbox: MBX_REQ as the driver writes it, the copy that runs (R400), MBX_RSP, the order in which its doorbell arrived (R404), whether the command has ended with its response waiting, and what a command of several parts keeps: how far it is, and the reads that it waits for. -/
structure Mbox where
  req : Tab Nat := []
  run : List Byte := []
  rsp : List Byte := []
  order : Nat := 0
  ended : Bool := false
  step : Nat := 0
  waits : List Nat := []
  deriving DecidableEq, Repr

/-- A read of host memory for a command: the bind that runs on a mailbox (R202), a firmware push or a debug store write. Its mailbox and hedge, the origin, address and size, which of its two fetches runs, the bytes that it has brought, the first fetch once it is complete, and the read that is out. -/
structure Bind where
  mbx : Nat
  hedge : Nat
  row : Nat
  col : Nat
  addr : Nat
  size : Nat
  stage : Nat
  got : List Byte := []
  first : List Byte := []
  tag : Option Nat := none
  deriving DecidableEq, Repr

/-- The host side as a whole. -/
structure HostSide where
  atu : Atu := {}
  br : Bridges := {}
  qps : Tab QPair := []
  mbx : Tab Mbox := []
  /-- Doorbells so far, for the order of R404. -/
  rung : Nat := 0
  binds : Tab (Option Bind) := []
  /-- The streams whose QUEUE_NO_DEST was raised (R348), by key 256 × hedge + stream. -/
  noDest : List Nat := []
  deriving DecidableEq, Repr

end Sys2Proof.Machine
end

