-- ==== Sys2Proof/Machine/TwinBlocks.lean ====
section
/-!
DEFINITION. Sys2Proof/Machine/TwinBlocks.lean: the state of the twin function beside its registers (R725 to R764).
-/

namespace Sys2Proof.Machine

open Sys2Proof

/-- The partner's last STATUS message (R733). -/
structure Partner where
  major : Nat
  minor : Nat
  role : Nat
  request : Nat
  term : Nat
  digest : List Byte
  flags : Nat
  deriving DecidableEq, Repr

/-- A unit of a stream whose digest is known (R750): hedge, stream, number, digest, and the epoch in which it ended. -/
structure UnitRes where
  hedge : Nat
  stream : Nat
  unit : Nat
  digest : List Byte
  epoch : Nat
  deriving DecidableEq, Repr

/-- A QUEUE record as the standby holds it (R743): queue pair, SQ head, CQ tail and phase, and the descriptors that had not completed. -/
structure QueueRec where
  qp : Nat
  sqHead : Nat
  cqTail : Nat
  phase : Nat
  descs : List (List Byte)
  deriving DecidableEq, Repr

/-- A role change that waits for the core domain to write its term (R726): the cause of R763, the term, and the mailbox of the command. -/
structure Promote where
  cause : Nat
  term : Nat
  mbx : Option Nat
  deriving DecidableEq, Repr

/-- The twin function: its configuration (R728, R729), the partner, the pair, mirroring on either side, lockstep results, shared time, and failover. -/
structure Twin where
  delay : Nat := 0
  epochUs : Nat := 0
  limitNs : Nat := 1000
  mirrored : Nat := 0
  /-- When MODE was last set, and the term last received. -/
  since : Nat := 0
  partnerTerm : Nat := 0
  partner : Option Partner := none
  /-- Whether the pair is formed (R737). -/
  formed : Bool := false
  /-- Whether VERSION_DISCORD was raised since the partner appeared, the partner digest that CONFIG_DISCORD was last raised for, whether SPLIT_BRAIN was met since the last pair formed and whether it stands now, and since when digests differ while paired (R754). -/
  versionRaised : Bool := false
  configRaised : List Byte := []
  split : Bool := false
  splitNow : Bool := false
  differ : Option Nat := none
  promote : Option Promote := none
  /-- The mailbox of a TWIN_RESYNC that waits for the exchange of roles (R760). -/
  resync : Option Nat := none
  heartbeat : Nat := 0
  /-- The last heartbeat value received and when a new one came, the last fence edge, the conditions of R740, and when the hold began. -/
  beat : Option Nat := none
  beatAt : Option Nat := none
  missing : Bool := false
  fenceAt : Option Nat := none
  fenceAbsent : Bool := false
  planned : Bool := false
  holdAt : Nat := 0
  /-- Whether a pair has formed since the configuration was empty (R741). -/
  opened : Bool := false
  /-- Memory pages (address / 4,096) of mirror regions written in the open epoch, plots marked stale in it, whether a full copy starts at the next close. -/
  dirty : List Nat := []
  stale : List Nat := []
  copy : Bool := false
  /-- Records that wait to be sent in twin payload frames, and received records and DCC-P messages that wait for the twin function (R732, R743). -/
  outbox : List (List Byte) := []
  inbox : List (List Byte) := []
  slot : List Byte := []
  messages : List (List Byte) := []
  /-- The message that DCC-P is sending. -/
  sending : List Byte := []
  /-- The standby: QUEUE records and counts since the last CLOSE, the records of the last acknowledged epoch, and the epoch that its frames acknowledge. -/
  heldRecs : List QueueRec := []
  gotGranules : Nat := 0
  gotQueues : Nat := 0
  ackedRecs : List QueueRec := []
  ack : Nat := 0
  /-- Lockstep: the tokens of the open unit of each stream, the unit numbers, units ended in the open epoch, and the results of each part that the other's have not met. -/
  open_ : Tab (List Byte) := []
  unitNo : Tab Nat := []
  ended : List UnitRes := []
  mine : List UnitRes := []
  theirs : List UnitRes := []
  /-- Streams whose RESULT_DISCORD was raised in the open epoch. -/
  raised : List Nat := []
  /-- Shared time: twice θ of the frames of the present multiframe, whether a round has run since the pair formed, rounds in a row beyond the limit and within it, and the partner's PAIR_OFFSET. -/
  thetas : List Int := []
  synced1 : Bool := false
  badRounds : Nat := 0
  goodRounds : Nat := 0
  partnerOffset : Int := 0
  /-- The loop: the source current that a PRIMARY sends with its SEQ, when it was read, and the last SEQ that a STANDBY passed on (R735, R761). -/
  srcUa : Nat := 0
  srcValid : Bool := false
  srcSeq : Nat := 0
  srcAt : Nat := 0
  passedSeq : Option Nat := none
  deriving DecidableEq, Repr

/-! ### Debug (R534 to R548) -/

/-- A trace that runs (R542): hedges, ring address and size, and the offset of the next record. -/
structure Trace where
  mask : Nat
  addr : Nat
  size : Nat
  wr : Nat := 0
  deriving DecidableEq, Repr

/-- Profiling that runs (R543): brackens, address, the next slot, and by bracken the steps issued, and the tokens delivered and sent, in the open gate. -/
structure Profile where
  brackens : Nat
  addr : Nat
  slot : Nat := 0
  steps : Tab Nat := []
  delivered : Tab Nat := []
  sent : Tab Nat := []
  deriving DecidableEq, Repr

/-- Debug access: the frond that each path selected (R536), by 0 PF0, 1 the management processor, 2 JTAG. -/
structure Debug where
  sel : Tab Nat := []
  trace : Option Trace := none
  profile : Option Profile := none
  deriving DecidableEq, Repr

end Sys2Proof.Machine
end

