-- ==== Sys2Proof/Machine/RigBlocks.lean ====
section
/-!
DEFINITION. Sys2Proof/Machine/RigBlocks.lean: the state of Sorus acquisition, of the Lichen loop and of the Lichen core beside their registers (R549 to R676).
-/

namespace Sys2Proof.Machine

open Sys2Proof

/-! ### Sorus (R549 to R590) -/

/-- The Sorus die: its rails, the voltages last seen on REFIN and AVDD_SOR in mV, when each was last seen outside its window, when the reference was selected or powered, whether R556's 20 ms check is over, which only a selection starts, the last accepted trigger and the last change of source, each scan's next input, drops by ring (R574), converters that a test or a calibration holds, the settings that those converters keep meanwhile (R581), the mailbox of that command, and the factory trims (R583). -/
structure Sorus where
  rails : Bool := false
  refin : Nat := 0
  avdd : Nat := 0
  refinOut : Nat := 0
  avddOut : Nat := 0
  selAt : Nat := 0
  late : Bool := true
  last : Option Nat := none
  changed : Option Nat := none
  scan : Tab Nat := []
  dropped : Tab Nat := []
  /-- The plot of each enabled ring (R570). -/
  ringAt : Tab (Option Nat) := []
  busy : Nat := 0
  inUse : Tab (Option Dword) := []
  user : Option Nat := none
  factory : Tab Dword := []
  deriving DecidableEq, Repr

/-! ### The loop domain (R591 to R630) -/

/-- What loop NVM holds (R622, R623): the two configurations of 64 bytes, the HART message of 24 bytes, and the final assembly number. -/
structure LoopCfg where
  loop : List Byte
  hart : List Byte
  message : List Byte
  assembly : Nat
  deriving DecidableEq, Repr

/-- A loop calibration (R626): the point that it drives in µA, both records, and when its last command came. -/
structure LoopCal where
  point : Nat
  four : Option Nat := none
  twenty : Option Nat := none
  last : Nat
  deriving DecidableEq, Repr

/-- A write of loop NVM that waits or runs (R621): the configuration it stores, the trims of a calibration, the mailbox of a host command, whether CSTORE admitted it. -/
structure LoopWrite where
  cfg : LoopCfg
  trims : Option (Nat × Nat)
  mbx : Option Nat
  admitted : Bool
  deriving DecidableEq, Repr

/-- The default configurations (R622, R623). -/
def defaultCfg : LoopCfg where
  loop := [0, 1, 1, 0, 0xE8, 3, 0, 0, 0, 0, 0, 0, 0, 0, 0x80, 0x3F, 0xDE, 0x0D, 0xFC, 0x53, 0xE0, 0x2E, 0, 0,
    0, 0, 0, 1, 0, 0, 0, 1] ++ List.replicate 32 0
  hart := [0, 1, 0, 0, 5] ++ List.replicate 59 0
  message := List.replicate 24 0
  assembly := 0

/-- The loop domain: whether it runs, the two NVM copies with their sequence numbers (R624), what is in force, calibration, the HART fixed current (R617), the last accepted input or source current, sensor values with their counts towards SENSOR_FAULT (R610), host-absent, stale, the staleness timer's start, the level in force with the current set in µA, the last one that a source level set (R598), the one that levels 4 to 8 give now (R602), a source current with its PV that waits for its millisecond (R607), the free current before any input (DESIGN CHOICE, notes/assumptions/20.md), faults, and the jobs that wait for CSTORE (R594). -/
structure Loop where
  running : Bool := false
  copyA : Option (Nat × LoopCfg) := none
  copyB : Option (Nat × LoopCfg) := none
  cfg : LoopCfg := defaultCfg
  trims : Option (Nat × Nat) := none
  cal : Option LoopCal := none
  fixed : Option Nat := none
  pv : Option Word := none
  dcc : Option Nat := none
  noInput : Nat := 0
  sens : Tab (Option Word) := []
  /-- Conversions in a row beyond range (positive) or within it (negative), and whether SENSOR_FAULT stands, by input. -/
  bad : Tab (Int × Bool) := []
  absent : Bool := false
  stale : Bool := false
  timer : Nat := 0
  accepted : Option Nat := none
  level : Nat := 0
  setUa : Nat := 3550
  /-- Whether the condition of LOOP_STALE drives the loop (R603, R628). -/
  failing : Bool := false
  source : Option Nat := none
  given : Option Nat := none
  dccNext : Option (Nat × Nat) := none
  saturated : Bool := false
  openLoop : Bool := false
  noCompliance : Bool := false
  replies : List (List Byte) := []
  writes : List LoopWrite := []
  due : Tab Nat := []
  converting : List Nat := []
  spent : List (Nat × Nat) := []
  changed : Bool := false
  cold : Bool := false
  counter : Nat := 0
  /-- Written at the factory (R615): manufacturer identification code and expanded device type. -/
  maker : Nat := 0
  devType : Nat := 0
  deriving DecidableEq, Repr

/-! ### The core domain (R631 to R676) -/

/-- A record of retention RAM or of the NVM log (R647), but for its CRC; `cell`: latched while the cell alone powered the core domain (R654). -/
structure CoreRec where
  seq : Nat
  code : Nat
  flags : Nat
  rtc : Nat
  detail : Nat
  cell : Bool := false
  deriving DecidableEq, Repr

/-- A valid life-cycle slot (R667): state, SEQ, the state left, and whether its commit marker matches. -/
structure LcSlot where
  state : Nat
  seq : Nat
  prev : Nat
  committed : Bool
  deriving DecidableEq, Repr

/-- The core domain: the required rails, VBAT in mV, the RTC as its value at a time of the model's clock, retention RAM and NVM log (oldest first), whether a failed cell test forbids NVM writes, samples in a row that differ from each alarm's declared state, the Lichen sensor, the watchdog's expiry or what was left of it when it paused, cores halted by JTAG, the reset cause, life-cycle slots A and B, the transition that runs (slot, and its mailbox), LOOP_DEFAULTS_PENDING, the public keys of the key slots, and whether it answers on the isolated link. -/
structure Core where
  rails : Bool := false
  vbat : Nat := 0
  rtcBase : Nat := 0
  rtcAt : Nat := 0
  ret : List CoreRec := []
  log : List CoreRec := []
  cellFailed : Bool := false
  cellOk : Bool := false
  /-- Whether the core domain is without power, or has lost what it kept (R635). -/
  dead : Bool := true
  /-- Whether VSTBY was cycled since the over-temperature latch tripped (R646). -/
  cycled : Bool := false
  diff : Tab Nat := []
  closed : Nat := 0
  temp : Int := 25
  expiry : Option Nat := none
  left : Nat := 0
  halted : Nat := 0
  cause : Nat := 0
  slotA : Option LcSlot := some ⟨1, 1, 0, true⟩
  slotB : Option LcSlot := none
  run : Option (Nat × Option Nat) := none
  loopDefaults : Bool := false
  keys : Tab (List Byte) := []
  deriving DecidableEq, Repr

end Sys2Proof.Machine
end

