-- ==== Sys2Proof/Machine/LinkBlocks.lean ====
section
/-!
DEFINITION. Sys2Proof/Machine/LinkBlocks.lean: the state of the Denben framers and of bring-up beside their registers (R677 to R724, R765 to R798).
-/

namespace Sys2Proof.Machine

open Sys2Proof

/-- Payload frames of a stream port that were lost or repeated since the last SLIP token (R702). -/
structure Loss where
  frames : Nat
  cause : Nat
  tokens : Option Nat
  first : Nat
  deriving DecidableEq, Repr

/-- A framer beside its registers: its transmitter, its receiver, lane control, width change and retrain. -/
structure Framer where
  /-- Transmitter: frame number, multiframe counter, PSN, BIP of the last frame sent, width code and lanes, fill frames still to send after a switch, unacknowledged twin payload frames, the PSN to resend from, whether the peer's REPLAY entry was served. -/
  fn : Nat := 0
  mfc : Nat := 0
  psn : Nat := 0
  bip : Nat := 0
  txW : Nat := 0
  txL : Nat := 1
  fill : Nat := 0
  hist : List (Nat × List Byte) := []
  resend : Option Nat := none
  replaySeen : Bool := false
  /-- Alignment (R688 to R691): the parameters of the present search (FAW_TOL, FAW_N, FAW_M), whether it stands, FAWs confirmed or errored in a row; multiframe alignment with the FN expected next, and frames in a row for and against it. -/
  par : Nat × Nat × Nat := (0, 3, 4)
  aligned : Bool := false
  confirm : Nat := 0
  badFaw : Nat := 0
  mf : Bool := false
  mfNext : Option Nat := none
  mfBad : Nat := 0
  /-- Good frames in a row with AIS or RDI as `1` or against it (R692), and the RDI last read. -/
  ais : Nat := 0
  rdi : Nat := 0
  rdiNow : Bool := false
  /-- BIP of the last frame received, errors to return in REI, T_TX and arrival of the last good frame, its FLAGS and RPSN. -/
  bipPrev : Option Nat := none
  rei : Nat := 0
  echoTx : Nat := 0
  echoRx : Nat := 0
  flags : Nat := 0
  rpsn : Nat := 0
  /-- Payload: the PSN expected, losses to report, an errored frame of unknown PSN, a defect or retrain since the last payload, REPLAY state; slip buffer in whole frames, a slip that is due (drop or repeat) with the frames it has waited, whether the last frame read was fill, and its PSN. -/
  expect : Option Nat := none
  loss : Option Loss := none
  errored : Bool := false
  broke : Bool := false
  replay : Bool := false
  buf : Nat := 1
  due : Option (Bool × Nat) := none
  lastFill : Bool := true
  lastPsn : Nat := 0
  /-- Tokens received that wait for credit (stream, kind, payload), and tokens of the owner hedge that wait to be sent. -/
  rxq : List (Nat × Nat × Payload) := []
  txq : List Tok := []
  /-- Markers in a row by lane: right ones above zero, wrong ones below; the skew between lanes in words. -/
  marks : Tab Int := []
  skew : Nat := 0
  /-- The frame number of the last right marker (R684), and the DCC byte of the last frame read, with its channel. -/
  markFn : Nat := 0
  lastDcc : Option (Nat × Nat) := none
  /-- Lane control (R685): the word read last, and the one acted on. -/
  word : Option Nat := none
  acted : Nat := 0
  /-- Width change (R713): own OP with WIDTH, LANES and TOKEN, frames in which it was sent, the ACK that follows a WITHDRAW, cause and lost collision (R724); what both sides agreed, SWITCH sent, the transmitter switched, the peer's SWITCH read, frames received at the new width, and whether step 5 ended while this side's transmitter has still to switch. -/
  op : Nat := 0
  opW : Nat := 0
  opL : Nat := 0
  token : Nat := 0
  sent : Nat := 0
  ackNext : Option (Nat × Nat × Nat) := none
  cause : Nat := 0
  collided : Bool := false
  agreed : Option (Nat × Nat) := none
  switchTx : Bool := false
  switched : Bool := false
  switchRx : Bool := false
  quiet : Option Nat := none
  rxDone : Bool := false
  /-- Retrain (R717, R718): its cause, frames of RETRAIN still to send, start of the attempt, whether an attempt failed and when, the wait in ms; since when a defect stands that leads to one. -/
  retrain : Nat := 0
  retrainSend : Nat := 0
  attemptAt : Nat := 0
  failedAt : Option Nat := none
  waitMs : Nat := 0
  defectAt : Option Nat := none
  deriving DecidableEq, Repr

/-- The Denben function: the framers, whether TWIN_REFCLK is present (R808), whether stage S6 has enabled the ports, and each DCC serial port's FIFOs towards TXD and from RXD (R711) with the framer and channel that it carries now (R709). -/
structure Denben where
  framers : Tab Framer := [(0, { txW := 3, txL := 0xFF })]
  refclk : Bool := true
  up : Bool := false
  toTxd : Tab (List Byte) := []
  fromRxd : Tab (List Byte) := []
  live : Tab (Option (Nat × Nat)) := []
  deriving DecidableEq, Repr

/-- A boot record (R794): code, low half of its detail, device time of the occurrence. -/
structure BootRec where
  code : Nat
  low : Nat
  time : Nat
  deriving DecidableEq, Repr

/-- A firmware push (R779 to R781): the slot, BOOT, ADDR and SIZE, the mailbox that waits for it, and the image once it has been read and authenticated. -/
structure Push where
  slot : Nat
  boot : Bool
  addr : Nat
  size : Nat
  mbx : Option Nat
  img : Option (List Byte) := none
  deriving DecidableEq, Repr

/-- Bring-up beside its registers (R765 to R794). -/
structure Boot where
  /-- The last stage that ended since the reset, 1 from the start of S1; 0 while the dies are held in reset. -/
  stage : Nat := 0
  /-- The boot records that wait for the operator ring, oldest first, and whether older ones were discarded. -/
  recs : List BootRec := []
  lost : Bool := false
  /-- When the wait of S3 began and its length in ms (R788), and the wait for a silent core domain in ms (R775). -/
  waitAt : Nat := 0
  waitMs : Nat := 0
  silentMs : Nat := 0
  /-- By slot (0 A, 1 B, 2 ROM area): 0 invalid, 1 valid, 2 unchecked since the reset; and FW_VERSION of a valid one. -/
  slots : Tab Nat := [(0, 2), (1, 2)]
  versions : Tab Nat := []
  /-- What a push left in a slot (R779 to R781): its image, or a header that is erased; an unlisted slot holds what it held before. -/
  images : Tab (List Byte) := []
  push : Option Push := none
  /-- The slot that a push restart boots (R784). -/
  force : Option Nat := none
  startedAt : Nat := 0
  /-- Whether S4 or S7 glides to VL1, the stage that a repeated S4 returns to (R772), whether S5 trained the stacks and whether hedge 0 was given bracken 0 since the reset. -/
  rising : Bool := false
  back : Nat := 0
  trained : Bool := false
  granted : Bool := false
  /-- The wait in ms of each bracken that waits for a retest (R790). -/
  retest : Tab Nat := []
  deriving DecidableEq, Repr

end Sys2Proof.Machine
end

