-- ==== Sys2Proof/Machine/Regs.lean ====
section
/-!
DEFINITION. Sys2Proof/Machine/Regs.lean: the register map of the part.
Each register of the manual's register tables has its key, its fields with access code, reset value and legal encodings.
A register's key is its PF0 BAR0 offset; the VF status block of VF v (R325) has its VF BAR0 offset plus 0x1000_0000 × v.
Written from the register tables of the chapters; each group cites the rule of its table.
-/
namespace Sys2Proof.Machine

/-- The access codes of R11. -/
inductive Access where
  | ro | rw | w1c | w1s | rc | wo | rwm
  deriving DecidableEq, Repr

/-- One field of one register: the register's key, the lowest bit and the width. -/
structure Fld where
  reg : Nat
  lo : Nat
  w : Nat
  deriving DecidableEq, Repr

/-- A field's row of a register table: place, access code, reset value, legal encodings (empty: all), and whether a command row of its own performs the write. -/
structure FieldDesc where
  lo : Nat
  w : Nat
  acc : Access
  reset : Nat
  legal : List (Nat × Nat)
  own : Bool
  deriving DecidableEq, Repr

/-- A register's row: first key, the two repeat counts with their strides, width in bits, and fields. -/
structure RegDesc where
  base : Nat
  stride1 : Nat
  count1 : Nat
  stride2 : Nat
  count2 : Nat
  width : Nat
  fields : List FieldDesc
  deriving DecidableEq, Repr

/-- Register DIR_MAGIC (R313). -/
def DIR_MAGIC : Nat := 0
/-- Field DIR_MAGIC.VALUE, RO (R313). -/
def DIR_MAGIC_VALUE : Fld := ⟨DIR_MAGIC, 0, 32⟩
/-- Register DIR_VERSION (R313). -/
def DIR_VERSION : Nat := 4
/-- Field DIR_VERSION.VALUE, RO (R313). -/
def DIR_VERSION_VALUE : Fld := ⟨DIR_VERSION, 0, 32⟩
/-- Register DIR_COUNT (R313). -/
def DIR_COUNT : Nat := 8
/-- Field DIR_COUNT.COUNT, RO (R313). -/
def DIR_COUNT_COUNT : Fld := ⟨DIR_COUNT, 0, 32⟩
/-- Register DIR_GEN (R313). -/
def DIR_GEN : Nat := 0xc
/-- Field DIR_GEN.GEN, RO (R313). -/
def DIR_GEN_GEN : Fld := ⟨DIR_GEN, 0, 32⟩
/-- Register GBL_STATUS (R796). -/
def GBL_STATUS : Nat := 0x10000
/-- Field GBL_STATUS.SERVICE, RO (R796). -/
def GBL_STATUS_SERVICE : Fld := ⟨GBL_STATUS, 0, 2⟩
/-- Field GBL_STATUS.LEVEL_CHANGED, W1C (R796). -/
def GBL_STATUS_LEVEL_CHANGED : Fld := ⟨GBL_STATUS, 3, 1⟩
/-- Field GBL_STATUS.STAGE, RO (R796). -/
def GBL_STATUS_STAGE : Fld := ⟨GBL_STATUS, 4, 3⟩
/-- Field GBL_STATUS.WORKING, RO (R796). -/
def GBL_STATUS_WORKING : Fld := ⟨GBL_STATUS, 8, 3⟩
/-- Field GBL_STATUS.RETRYING, RO (R796). -/
def GBL_STATUS_RETRYING : Fld := ⟨GBL_STATUS, 11, 1⟩
/-- Field GBL_STATUS.WAIT_PUSH, RO (R796). -/
def GBL_STATUS_WAIT_PUSH : Fld := ⟨GBL_STATUS, 12, 1⟩
/-- Field GBL_STATUS.LC_HOLD, RO (R796). -/
def GBL_STATUS_LC_HOLD : Fld := ⟨GBL_STATUS, 13, 1⟩
/-- Field GBL_STATUS.LICHEN_LINK, RO (R796). -/
def GBL_STATUS_LICHEN_LINK : Fld := ⟨GBL_STATUS, 14, 1⟩
/-- Field GBL_STATUS.RUNNING, RO (R796). -/
def GBL_STATUS_RUNNING : Fld := ⟨GBL_STATUS, 16, 2⟩
/-- Field GBL_STATUS.SLICES_DOWN, RO (R796). -/
def GBL_STATUS_SLICES_DOWN : Fld := ⟨GBL_STATUS, 24, 8⟩
/-- Register GBL_BRK_FAIL (R796). -/
def GBL_BRK_FAIL : Nat := 0x10008
/-- Field GBL_BRK_FAIL.FAILED, RO (R796). -/
def GBL_BRK_FAIL_FAILED : Fld := ⟨GBL_BRK_FAIL, 0, 64⟩
/-- Register GBL_RESET_CAUSE (R342). -/
def GBL_RESET_CAUSE : Nat := 0x10010
/-- Field GBL_RESET_CAUSE.CAUSE, RO (R342). -/
def GBL_RESET_CAUSE_CAUSE : Fld := ⟨GBL_RESET_CAUSE, 0, 4⟩
/-- Register GBL_BOOT (R796). -/
def GBL_BOOT : Nat := 0x10014
/-- Field GBL_BOOT.NEXT, RO (R796). -/
def GBL_BOOT_NEXT : Fld := ⟨GBL_BOOT, 0, 1⟩
/-- Field GBL_BOOT.FAILS, RO (R796). -/
def GBL_BOOT_FAILS : Fld := ⟨GBL_BOOT, 8, 8⟩
/-- Field GBL_BOOT.SAT, RO (R796). -/
def GBL_BOOT_SAT : Fld := ⟨GBL_BOOT, 16, 1⟩
/-- Field GBL_BOOT.CONFIRMED, RO (R796). -/
def GBL_BOOT_CONFIRMED : Fld := ⟨GBL_BOOT, 17, 1⟩
/-- Field GBL_BOOT.WAIT, RO (R796). -/
def GBL_BOOT_WAIT : Fld := ⟨GBL_BOOT, 20, 12⟩
/-- Register GBL_IRQ_STATUS (R798). -/
def GBL_IRQ_STATUS : Nat := 0x10020
/-- Field GBL_IRQ_STATUS.BITS, RO (R798). -/
def GBL_IRQ_STATUS_BITS : Fld := ⟨GBL_IRQ_STATUS, 0, 4⟩
/-- Register GBL_IRQ_MASK (R798). -/
def GBL_IRQ_MASK : Nat := 0x10024
/-- Field GBL_IRQ_MASK.MASK, RW (R798). -/
def GBL_IRQ_MASK_MASK : Fld := ⟨GBL_IRQ_MASK, 0, 4⟩
/-- Register DB_SQ_TAIL (R364). -/
def DB_SQ_TAIL (i : Nat) : Nat := 0x100000 + 0x1000 * i
/-- Field DB_SQ_TAIL.TAIL, WO (R364). -/
def DB_SQ_TAIL_TAIL (i : Nat) : Fld := ⟨DB_SQ_TAIL i, 0, 16⟩
/-- Register DB_CQ_HEAD (R364). -/
def DB_CQ_HEAD (i : Nat) : Nat := 0x100004 + 0x1000 * i
/-- Field DB_CQ_HEAD.HEAD, WO (R364). -/
def DB_CQ_HEAD_HEAD (i : Nat) : Fld := ⟨DB_CQ_HEAD i, 0, 16⟩
/-- Register DB_SQ_HEAD (R364). -/
def DB_SQ_HEAD (i : Nat) : Nat := 0x100008 + 0x1000 * i
/-- Field DB_SQ_HEAD.HEAD, RO (R364). -/
def DB_SQ_HEAD_HEAD (i : Nat) : Fld := ⟨DB_SQ_HEAD i, 0, 16⟩
/-- Register DB_CQ_TAIL (R364). -/
def DB_CQ_TAIL (i : Nat) : Nat := 0x10000c + 0x1000 * i
/-- Field DB_CQ_TAIL.TAIL, RO (R364). -/
def DB_CQ_TAIL_TAIL (i : Nat) : Fld := ⟨DB_CQ_TAIL i, 0, 16⟩
/-- Field DB_CQ_TAIL.PHASE, RO (R364). -/
def DB_CQ_TAIL_PHASE (i : Nat) : Fld := ⟨DB_CQ_TAIL i, 16, 1⟩
/-- Register DB_STATE (R364). -/
def DB_STATE (i : Nat) : Nat := 0x100010 + 0x1000 * i
/-- Field DB_STATE.STATE, RO (R364). -/
def DB_STATE_STATE (i : Nat) : Fld := ⟨DB_STATE i, 0, 2⟩
/-- Field DB_STATE.ARMED, RO (R364). -/
def DB_STATE_ARMED (i : Nat) : Fld := ⟨DB_STATE i, 4, 1⟩
/-- Field DB_STATE.PENDING, RO (R364). -/
def DB_STATE_PENDING (i : Nat) : Fld := ⟨DB_STATE i, 5, 1⟩
/-- Field DB_STATE.OUTSTANDING, RO (R364). -/
def DB_STATE_OUTSTANDING (i : Nat) : Fld := ⟨DB_STATE i, 8, 7⟩
/-- Field DB_STATE.HEDGE, RO (R364). -/
def DB_STATE_HEDGE (i : Nat) : Fld := ⟨DB_STATE i, 16, 4⟩
/-- Register DB_DONE (R364). -/
def DB_DONE (i : Nat) : Nat := 0x100018 + 0x1000 * i
/-- Field DB_DONE.TOTAL, RO (R364). -/
def DB_DONE_TOTAL (i : Nat) : Fld := ⟨DB_DONE i, 0, 64⟩
/-- Register DB_BYTES_SENT (R364). -/
def DB_BYTES_SENT (i : Nat) : Nat := 0x100020 + 0x1000 * i
/-- Field DB_BYTES_SENT.TOTAL, RO (R364). -/
def DB_BYTES_SENT_TOTAL (i : Nat) : Fld := ⟨DB_BYTES_SENT i, 0, 64⟩
/-- Register DB_BYTES_RECEIVED (R364). -/
def DB_BYTES_RECEIVED (i : Nat) : Nat := 0x100028 + 0x1000 * i
/-- Field DB_BYTES_RECEIVED.TOTAL, RO (R364). -/
def DB_BYTES_RECEIVED_TOTAL (i : Nat) : Fld := ⟨DB_BYTES_RECEIVED i, 0, 64⟩
/-- Register DB_FAULTS (R364). -/
def DB_FAULTS (i : Nat) : Nat := 0x100030 + 0x1000 * i
/-- Field DB_FAULTS.COUNT, RO (R364). -/
def DB_FAULTS_COUNT (i : Nat) : Fld := ⟨DB_FAULTS i, 0, 31⟩
/-- Field DB_FAULTS.SAT, RO (R364). -/
def DB_FAULTS_SAT (i : Nat) : Fld := ⟨DB_FAULTS i, 31, 1⟩
/-- Register DB_CLEAR (R364). -/
def DB_CLEAR (i : Nat) : Nat := 0x100034 + 0x1000 * i
/-- Field DB_CLEAR.CLR_FAULTS, WO (R364). -/
def DB_CLEAR_CLR_FAULTS (i : Nat) : Fld := ⟨DB_CLEAR i, 0, 1⟩
/-- Register MBX_DOORBELL (R396). -/
def MBX_DOORBELL (i : Nat) : Nat := 0x202000 + 0x4000 * i
/-- Field MBX_DOORBELL.RING, WO (R396). -/
def MBX_DOORBELL_RING (i : Nat) : Fld := ⟨MBX_DOORBELL i, 0, 1⟩
/-- Register MBX_STATUS (R396). -/
def MBX_STATUS (i : Nat) : Nat := 0x202004 + 0x4000 * i
/-- Field MBX_STATUS.STATE, RO (R396). -/
def MBX_STATUS_STATE (i : Nat) : Fld := ⟨MBX_STATUS i, 0, 2⟩
/-- Field MBX_STATUS.DB_LOST, W1C (R396). -/
def MBX_STATUS_DB_LOST (i : Nat) : Fld := ⟨MBX_STATUS i, 4, 1⟩
/-- Field MBX_STATUS.SEQ, RO (R396). -/
def MBX_STATUS_SEQ (i : Nat) : Fld := ⟨MBX_STATUS i, 16, 16⟩
/-- Register MBX_DONE (R396). -/
def MBX_DONE (i : Nat) : Nat := 0x202008 + 0x4000 * i
/-- Field MBX_DONE.COUNT, RO (R396). -/
def MBX_DONE_COUNT (i : Nat) : Fld := ⟨MBX_DONE i, 0, 32⟩
/-- Register ATU_CTRL (R472). -/
def ATU_CTRL : Nat := 0x300000
/-- Field ATU_CTRL.FALLBACK, RW (R472). -/
def ATU_CTRL_FALLBACK : Fld := ⟨ATU_CTRL, 0, 1⟩
/-- Register ATU_STATUS (R472). -/
def ATU_STATUS : Nat := 0x300004
/-- Field ATU_STATUS.COH_WINDOWS, RO (R472). -/
def ATU_STATUS_COH_WINDOWS : Fld := ⟨ATU_STATUS, 0, 5⟩
/-- Field ATU_STATUS.LINK_CXL, RO (R472). -/
def ATU_STATUS_LINK_CXL : Fld := ⟨ATU_STATUS, 8, 1⟩
/-- Field ATU_STATUS.PRI_OUT, RO (R472). -/
def ATU_STATUS_PRI_OUT : Fld := ⟨ATU_STATUS, 16, 10⟩
/-- Register ATU_CONFLICT (R472). -/
def ATU_CONFLICT : Nat := 0x300008
/-- Field ATU_CONFLICT.LOST, RO (R472). -/
def ATU_CONFLICT_LOST : Fld := ⟨ATU_CONFLICT, 0, 64⟩
/-- Register ATU_ATC_HITS (R472). -/
def ATU_ATC_HITS : Nat := 0x300010
/-- Field ATU_ATC_HITS.TOTAL, RO (R472). -/
def ATU_ATC_HITS_TOTAL : Fld := ⟨ATU_ATC_HITS, 0, 64⟩
/-- Register ATU_ATC_MISSES (R472). -/
def ATU_ATC_MISSES : Nat := 0x300018
/-- Field ATU_ATC_MISSES.TOTAL, RO (R472). -/
def ATU_ATC_MISSES_TOTAL : Fld := ⟨ATU_ATC_MISSES, 0, 64⟩
/-- Register ATU_PRI_REQS (R472). -/
def ATU_PRI_REQS : Nat := 0x300020
/-- Field ATU_PRI_REQS.TOTAL, RO (R472). -/
def ATU_PRI_REQS_TOTAL : Fld := ⟨ATU_PRI_REQS, 0, 64⟩
/-- Register ATU_INVALS (R472). -/
def ATU_INVALS : Nat := 0x300028
/-- Field ATU_INVALS.TOTAL, RO (R472). -/
def ATU_INVALS_TOTAL : Fld := ⟨ATU_INVALS, 0, 64⟩
/-- Register ATU_FAULTS (R472). -/
def ATU_FAULTS : Nat := 0x300030
/-- Field ATU_FAULTS.COUNT, RO (R472). -/
def ATU_FAULTS_COUNT : Fld := ⟨ATU_FAULTS, 0, 31⟩
/-- Field ATU_FAULTS.SAT, RO (R472). -/
def ATU_FAULTS_SAT : Fld := ⟨ATU_FAULTS, 31, 1⟩
/-- Register ATU_CLEAR (R472). -/
def ATU_CLEAR : Nat := 0x300034
/-- Field ATU_CLEAR.CLR_FAULTS, WO (R472). -/
def ATU_CLEAR_CLR_FAULTS : Fld := ⟨ATU_CLEAR, 0, 1⟩
/-- Register ATU_WIN_CFG (R472). -/
def ATU_WIN_CFG (i : Nat) : Nat := 0x301000 + 0x20 * i
/-- Field ATU_WIN_CFG.ENABLE, RO (R472). -/
def ATU_WIN_CFG_ENABLE (i : Nat) : Fld := ⟨ATU_WIN_CFG i, 0, 1⟩
/-- Field ATU_WIN_CFG.TYPE, RO (R472). -/
def ATU_WIN_CFG_TYPE (i : Nat) : Fld := ⟨ATU_WIN_CFG i, 1, 3⟩
/-- Field ATU_WIN_CFG.PSLOT, RO (R472). -/
def ATU_WIN_CFG_PSLOT (i : Nat) : Fld := ⟨ATU_WIN_CFG i, 4, 2⟩
/-- Field ATU_WIN_CFG.PRIORITY, RO (R472). -/
def ATU_WIN_CFG_PRIORITY (i : Nat) : Fld := ⟨ATU_WIN_CFG i, 8, 3⟩
/-- Field ATU_WIN_CFG.HEDGE_MASK, RO (R472). -/
def ATU_WIN_CFG_HEDGE_MASK (i : Nat) : Fld := ⟨ATU_WIN_CFG i, 16, 16⟩
/-- Register ATU_WIN_BASE (R472). -/
def ATU_WIN_BASE (i : Nat) : Nat := 0x301008 + 0x20 * i
/-- Field ATU_WIN_BASE.ADDR, RO (R472). -/
def ATU_WIN_BASE_ADDR (i : Nat) : Fld := ⟨ATU_WIN_BASE i, 0, 64⟩
/-- Register ATU_WIN_LIMIT (R472). -/
def ATU_WIN_LIMIT (i : Nat) : Nat := 0x301010 + 0x20 * i
/-- Field ATU_WIN_LIMIT.ADDR, RO (R472). -/
def ATU_WIN_LIMIT_ADDR (i : Nat) : Fld := ⟨ATU_WIN_LIMIT i, 0, 64⟩
/-- Register ATU_WIN_TARGET (R472). -/
def ATU_WIN_TARGET (i : Nat) : Nat := 0x301018 + 0x20 * i
/-- Field ATU_WIN_TARGET.ADDR, RO (R472). -/
def ATU_WIN_TARGET_ADDR (i : Nat) : Fld := ⟨ATU_WIN_TARGET i, 0, 64⟩
/-- Register ATU_WIN_LOST (R472). -/
def ATU_WIN_LOST (i : Nat) : Nat := 0x302000 + 8 * i
/-- Field ATU_WIN_LOST.BY, W1C (R472). -/
def ATU_WIN_LOST_BY (i : Nat) : Fld := ⟨ATU_WIN_LOST i, 0, 64⟩
/-- Register ATU_HEDGE (R472). -/
def ATU_HEDGE (i : Nat) : Nat := 0x303000 + 0x20 * i
/-- Field ATU_HEDGE.PINNED, RO (R472). -/
def ATU_HEDGE_PINNED (i : Nat) : Fld := ⟨ATU_HEDGE i, 0, 1⟩
/-- Field ATU_HEDGE.PRI_QUOTA, RW (R472). -/
def ATU_HEDGE_PRI_QUOTA (i : Nat) : Fld := ⟨ATU_HEDGE i, 8, 8⟩
/-- Field ATU_HEDGE.PRI_OUT, RO (R472). -/
def ATU_HEDGE_PRI_OUT (i : Nat) : Fld := ⟨ATU_HEDGE i, 16, 8⟩
/-- Field ATU_HEDGE.STALLED, RO (R472). -/
def ATU_HEDGE_STALLED (i : Nat) : Fld := ⟨ATU_HEDGE i, 31, 1⟩
/-- Register ATU_FAULT (R472). -/
def ATU_FAULT (i : Nat) : Nat := 0x303008 + 0x20 * i
/-- Field ATU_FAULT.DETAIL, RO (R472). -/
def ATU_FAULT_DETAIL (i : Nat) : Fld := ⟨ATU_FAULT i, 0, 64⟩
/-- Register ATU_PASID (R472). -/
def ATU_PASID (i j : Nat) : Nat := 0x303010 + 0x20 * i + 4 * j
/-- Field ATU_PASID.PASID, RO (R472). -/
def ATU_PASID_PASID (i j : Nat) : Fld := ⟨ATU_PASID i j, 0, 20⟩
/-- Field ATU_PASID.VALID, RO (R472). -/
def ATU_PASID_VALID (i j : Nat) : Fld := ⟨ATU_PASID i j, 31, 1⟩
/-- Register HBR_STATUS (R511). -/
def HBR_STATUS : Nat := 0x340000
/-- Field HBR_STATUS.RFAIL, W1C (R511). -/
def HBR_STATUS_RFAIL : Fld := ⟨HBR_STATUS, 0, 1⟩
/-- Field HBR_STATUS.WFAIL, W1C (R511). -/
def HBR_STATUS_WFAIL : Fld := ⟨HBR_STATUS, 1, 1⟩
/-- Field HBR_STATUS.ATOMIC_UR, W1C (R511). -/
def HBR_STATUS_ATOMIC_UR : Fld := ⟨HBR_STATUS, 2, 1⟩
/-- Register HBR_CTRL (R511). -/
def HBR_CTRL : Nat := 0x340004
/-- Field HBR_CTRL.ATOMIC_MODE, RW (R511). -/
def HBR_CTRL_ATOMIC_MODE : Fld := ⟨HBR_CTRL, 0, 1⟩
/-- Register HBR_RFAILS (R511). -/
def HBR_RFAILS : Nat := 0x340008
/-- Field HBR_RFAILS.COUNT, RO (R511). -/
def HBR_RFAILS_COUNT : Fld := ⟨HBR_RFAILS, 0, 31⟩
/-- Field HBR_RFAILS.SAT, RO (R511). -/
def HBR_RFAILS_SAT : Fld := ⟨HBR_RFAILS, 31, 1⟩
/-- Register HBR_WFAILS (R511). -/
def HBR_WFAILS : Nat := 0x34000c
/-- Field HBR_WFAILS.COUNT, RO (R511). -/
def HBR_WFAILS_COUNT : Fld := ⟨HBR_WFAILS, 0, 31⟩
/-- Field HBR_WFAILS.SAT, RO (R511). -/
def HBR_WFAILS_SAT : Fld := ⟨HBR_WFAILS, 31, 1⟩
/-- Register HBR_CLEAR (R511). -/
def HBR_CLEAR : Nat := 0x340010
/-- Field HBR_CLEAR.CLR_RFAILS, WO (R511). -/
def HBR_CLEAR_CLR_RFAILS : Fld := ⟨HBR_CLEAR, 0, 1⟩
/-- Field HBR_CLEAR.CLR_WFAILS, WO (R511). -/
def HBR_CLEAR_CLR_WFAILS : Fld := ⟨HBR_CLEAR, 1, 1⟩
/-- Register HBR_LOG_SEQ (R511). -/
def HBR_LOG_SEQ : Nat := 0x340014
/-- Field HBR_LOG_SEQ.SEQ, RO (R511). -/
def HBR_LOG_SEQ_SEQ : Fld := ⟨HBR_LOG_SEQ, 0, 32⟩
/-- Register HBR_SEM (R511). -/
def HBR_SEM : Nat := 0x340018
/-- Field HBR_SEM.RESERVED_BY, RO (R511). -/
def HBR_SEM_RESERVED_BY : Fld := ⟨HBR_SEM, 0, 4⟩
/-- Field HBR_SEM.ATOMIC_BUSY, RO (R511). -/
def HBR_SEM_ATOMIC_BUSY : Fld := ⟨HBR_SEM, 8, 7⟩
/-- Field HBR_SEM.WAITING, RO (R511). -/
def HBR_SEM_WAITING : Fld := ⟨HBR_SEM, 16, 9⟩
/-- Register HBR_ATOMICS (R511). -/
def HBR_ATOMICS : Nat := 0x340020
/-- Field HBR_ATOMICS.TOTAL, RO (R511). -/
def HBR_ATOMICS_TOTAL : Fld := ⟨HBR_ATOMICS, 0, 64⟩
/-- Register HBR_STX_FAILS (R511). -/
def HBR_STX_FAILS : Nat := 0x340028
/-- Field HBR_STX_FAILS.TOTAL, RO (R511). -/
def HBR_STX_FAILS_TOTAL : Fld := ⟨HBR_STX_FAILS, 0, 64⟩
/-- Register HBR_RDERR (R511). -/
def HBR_RDERR (i : Nat) : Nat := 0x340100 + 4 * i
/-- Field HBR_RDERR.BAR0, RW (R511). -/
def HBR_RDERR_BAR0 (i : Nat) : Fld := ⟨HBR_RDERR i, 0, 1⟩
/-- Field HBR_RDERR.BAR2, RW (R511). -/
def HBR_RDERR_BAR2 (i : Nat) : Fld := ⟨HBR_RDERR i, 1, 1⟩
/-- Field HBR_RDERR.BAR4, RW (R511). -/
def HBR_RDERR_BAR4 (i : Nat) : Fld := ⟨HBR_RDERR i, 2, 1⟩
/-- Register HBR_LOG (R511). -/
def HBR_LOG (i j : Nat) : Nat := 0x341000 + 0x20 * i + 8 * j
/-- Field HBR_LOG.RECORD, RO (R511). -/
def HBR_LOG_RECORD (i j : Nat) : Fld := ⟨HBR_LOG i j, 0, 64⟩
/-- Register PBR_STATUS (R511). -/
def PBR_STATUS : Nat := 0x360000
/-- Field PBR_STATUS.RFAIL, W1C (R511). -/
def PBR_STATUS_RFAIL : Fld := ⟨PBR_STATUS, 0, 1⟩
/-- Field PBR_STATUS.WFAIL, W1C (R511). -/
def PBR_STATUS_WFAIL : Fld := ⟨PBR_STATUS, 1, 1⟩
/-- Register PBR_RFAILS (R511). -/
def PBR_RFAILS : Nat := 0x360008
/-- Field PBR_RFAILS.COUNT, RO (R511). -/
def PBR_RFAILS_COUNT : Fld := ⟨PBR_RFAILS, 0, 31⟩
/-- Field PBR_RFAILS.SAT, RO (R511). -/
def PBR_RFAILS_SAT : Fld := ⟨PBR_RFAILS, 31, 1⟩
/-- Register PBR_WFAILS (R511). -/
def PBR_WFAILS : Nat := 0x36000c
/-- Field PBR_WFAILS.COUNT, RO (R511). -/
def PBR_WFAILS_COUNT : Fld := ⟨PBR_WFAILS, 0, 31⟩
/-- Field PBR_WFAILS.SAT, RO (R511). -/
def PBR_WFAILS_SAT : Fld := ⟨PBR_WFAILS, 31, 1⟩
/-- Register PBR_CLEAR (R511). -/
def PBR_CLEAR : Nat := 0x360010
/-- Field PBR_CLEAR.CLR_RFAILS, WO (R511). -/
def PBR_CLEAR_CLR_RFAILS : Fld := ⟨PBR_CLEAR, 0, 1⟩
/-- Field PBR_CLEAR.CLR_WFAILS, WO (R511). -/
def PBR_CLEAR_CLR_WFAILS : Fld := ⟨PBR_CLEAR, 1, 1⟩
/-- Field PBR_CLEAR.CLR_LV, WO (R511). -/
def PBR_CLEAR_CLR_LV : Fld := ⟨PBR_CLEAR, 2, 1⟩
/-- Register PBR_LOG_SEQ (R511). -/
def PBR_LOG_SEQ : Nat := 0x360014
/-- Field PBR_LOG_SEQ.SEQ, RO (R511). -/
def PBR_LOG_SEQ_SEQ : Fld := ⟨PBR_LOG_SEQ, 0, 32⟩
/-- Register PBR_LV_REPLACED (R511). -/
def PBR_LV_REPLACED : Nat := 0x360018
/-- Field PBR_LV_REPLACED.COUNT, RO (R511). -/
def PBR_LV_REPLACED_COUNT : Fld := ⟨PBR_LV_REPLACED, 0, 31⟩
/-- Field PBR_LV_REPLACED.SAT, RO (R511). -/
def PBR_LV_REPLACED_SAT : Fld := ⟨PBR_LV_REPLACED, 31, 1⟩
/-- Register PBR_LOG (R511). -/
def PBR_LOG (i j : Nat) : Nat := 0x361000 + 0x20 * i + 8 * j
/-- Field PBR_LOG.RECORD, RO (R511). -/
def PBR_LOG_RECORD (i j : Nat) : Fld := ⟨PBR_LOG i j, 0, 64⟩
/-- Register EVT_BASE (R386). -/
def EVT_BASE (i : Nat) : Nat := 0x380000 + 0x100 * i
/-- Field EVT_BASE.ADDR, RW (R386). -/
def EVT_BASE_ADDR (i : Nat) : Fld := ⟨EVT_BASE i, 12, 52⟩
/-- Register EVT_CFG (R386). -/
def EVT_CFG (i : Nat) : Nat := 0x380008 + 0x100 * i
/-- Field EVT_CFG.SIZE_LOG2, RW (R386). -/
def EVT_CFG_SIZE_LOG2 (i : Nat) : Fld := ⟨EVT_CFG i, 0, 5⟩
/-- Field EVT_CFG.ENABLE, RW (R386). -/
def EVT_CFG_ENABLE (i : Nat) : Fld := ⟨EVT_CFG i, 8, 1⟩
/-- Field EVT_CFG.VECTOR, RW (R386). -/
def EVT_CFG_VECTOR (i : Nat) : Fld := ⟨EVT_CFG i, 16, 9⟩
/-- Field EVT_CFG.IRQ_SEV, RW (R386). -/
def EVT_CFG_IRQ_SEV (i : Nat) : Fld := ⟨EVT_CFG i, 28, 3⟩
/-- Register EVT_HEAD (R386). -/
def EVT_HEAD (i : Nat) : Nat := 0x38000c + 0x100 * i
/-- Field EVT_HEAD.HEAD, RW (R386). -/
def EVT_HEAD_HEAD (i : Nat) : Fld := ⟨EVT_HEAD i, 0, 16⟩
/-- Register EVT_TAIL (R386). -/
def EVT_TAIL (i : Nat) : Nat := 0x380010 + 0x100 * i
/-- Field EVT_TAIL.TAIL, RO (R386). -/
def EVT_TAIL_TAIL (i : Nat) : Fld := ⟨EVT_TAIL i, 0, 16⟩
/-- Field EVT_TAIL.PHASE, RO (R386). -/
def EVT_TAIL_PHASE (i : Nat) : Fld := ⟨EVT_TAIL i, 16, 1⟩
/-- Register EVT_LOST (R386). -/
def EVT_LOST (i : Nat) : Nat := 0x380014 + 0x100 * i
/-- Field EVT_LOST.COUNT, RO (R386). -/
def EVT_LOST_COUNT (i : Nat) : Fld := ⟨EVT_LOST i, 0, 31⟩
/-- Field EVT_LOST.SAT, RO (R386). -/
def EVT_LOST_SAT (i : Nat) : Fld := ⟨EVT_LOST i, 31, 1⟩
/-- Register EVT_CLEAR (R386). -/
def EVT_CLEAR (i : Nat) : Nat := 0x380018 + 0x100 * i
/-- Field EVT_CLEAR.CLR_LOST, WO (R386). -/
def EVT_CLEAR_CLR_LOST (i : Nat) : Fld := ⟨EVT_CLEAR i, 0, 1⟩
/-- Register EVT_STATUS (R386). -/
def EVT_STATUS (i : Nat) : Nat := 0x38001c + 0x100 * i
/-- Field EVT_STATUS.ARMED, RO (R386). -/
def EVT_STATUS_ARMED (i : Nat) : Fld := ⟨EVT_STATUS i, 0, 1⟩
/-- Field EVT_STATUS.PENDING, RO (R386). -/
def EVT_STATUS_PENDING (i : Nat) : Fld := ⟨EVT_STATUS i, 1, 1⟩
/-- Field EVT_STATUS.HELD, RO (R386). -/
def EVT_STATUS_HELD (i : Nat) : Fld := ⟨EVT_STATUS i, 8, 7⟩
/-- Register FRM_CTRL (R723). -/
def FRM_CTRL (i : Nat) : Nat := 0x400000 + 0x1000 * i
/-- Field FRM_CTRL.ENABLE, RW (R723). -/
def FRM_CTRL_ENABLE (i : Nat) : Fld := ⟨FRM_CTRL i, 0, 1⟩
/-- Field FRM_CTRL.FORCE_AIS, RW (R723). -/
def FRM_CTRL_FORCE_AIS (i : Nat) : Fld := ⟨FRM_CTRL i, 1, 1⟩
/-- Field FRM_CTRL.MAX_WIDTH, RW (R723). -/
def FRM_CTRL_MAX_WIDTH (i : Nat) : Fld := ⟨FRM_CTRL i, 2, 2⟩
/-- Field FRM_CTRL.FAW_TOL, RW (R723). -/
def FRM_CTRL_FAW_TOL (i : Nat) : Fld := ⟨FRM_CTRL i, 4, 2⟩
/-- Field FRM_CTRL.FAW_N, RW (R723). -/
def FRM_CTRL_FAW_N (i : Nat) : Fld := ⟨FRM_CTRL i, 8, 4⟩
/-- Field FRM_CTRL.FAW_M, RW (R723). -/
def FRM_CTRL_FAW_M (i : Nat) : Fld := ⟨FRM_CTRL i, 12, 4⟩
/-- Field FRM_CTRL.AUTO_WIDTH, RW (R723). -/
def FRM_CTRL_AUTO_WIDTH (i : Nat) : Fld := ⟨FRM_CTRL i, 16, 1⟩
/-- Field FRM_CTRL.SLIP_STREAM, RW (R723). -/
def FRM_CTRL_SLIP_STREAM (i : Nat) : Fld := ⟨FRM_CTRL i, 24, 8⟩
/-- Register FRM_STATUS (R723). -/
def FRM_STATUS (i : Nat) : Nat := 0x400004 + 0x1000 * i
/-- Field FRM_STATUS.DEFECTS, RO (R723). -/
def FRM_STATUS_DEFECTS (i : Nat) : Fld := ⟨FRM_STATUS i, 0, 6⟩
/-- Field FRM_STATUS.WIDTH, RO (R723). -/
def FRM_STATUS_WIDTH (i : Nat) : Fld := ⟨FRM_STATUS i, 8, 2⟩
/-- Field FRM_STATUS.LANES, RO (R723). -/
def FRM_STATUS_LANES (i : Nat) : Fld := ⟨FRM_STATUS i, 16, 8⟩
/-- Field FRM_STATUS.SWITCHING, RO (R723). -/
def FRM_STATUS_SWITCHING (i : Nat) : Fld := ⟨FRM_STATUS i, 24, 1⟩
/-- Field FRM_STATUS.RETRAINING, RO (R723). -/
def FRM_STATUS_RETRAINING (i : Nat) : Fld := ⟨FRM_STATUS i, 25, 1⟩
/-- Field FRM_STATUS.BUFFER, RO (R723). -/
def FRM_STATUS_BUFFER (i : Nat) : Fld := ⟨FRM_STATUS i, 28, 2⟩
/-- Register FRM_LANES (R723). -/
def FRM_LANES (i : Nat) : Nat := 0x400008 + 0x1000 * i
/-- Field FRM_LANES.NO_SIGNAL, RO (R723). -/
def FRM_LANES_NO_SIGNAL (i : Nat) : Fld := ⟨FRM_LANES i, 0, 8⟩
/-- Field FRM_LANES.LOCK, RO (R723). -/
def FRM_LANES_LOCK (i : Nat) : Fld := ⟨FRM_LANES i, 8, 8⟩
/-- Field FRM_LANES.GOOD, RO (R723). -/
def FRM_LANES_GOOD (i : Nat) : Fld := ⟨FRM_LANES i, 16, 8⟩
/-- Field FRM_LANES.PEER_GOOD, RO (R723). -/
def FRM_LANES_PEER_GOOD (i : Nat) : Fld := ⟨FRM_LANES i, 24, 8⟩
/-- Register FRM_CLEAR (R723). -/
def FRM_CLEAR (i : Nat) : Nat := 0x40000c + 0x1000 * i
/-- Field FRM_CLEAR.CLR, WO (R723). -/
def FRM_CLEAR_CLR (i : Nat) : Fld := ⟨FRM_CLEAR i, 0, 8⟩
/-- Register FRM_CNT (R723). -/
def FRM_CNT (i j : Nat) : Nat := 0x400010 + 0x1000 * i + 4 * j
/-- Field FRM_CNT.COUNT, RO (R723). -/
def FRM_CNT_COUNT (i j : Nat) : Fld := ⟨FRM_CNT i j, 0, 31⟩
/-- Field FRM_CNT.SAT, RO (R723). -/
def FRM_CNT_SAT (i j : Nat) : Fld := ⟨FRM_CNT i j, 31, 1⟩
/-- Register FRM_LAT (R723). -/
def FRM_LAT (i j : Nat) : Nat := 0x400030 + 0x1000 * i + 4 * j
/-- Field FRM_LAT.COUNT, RO (R723). -/
def FRM_LAT_COUNT (i j : Nat) : Fld := ⟨FRM_LAT i j, 0, 31⟩
/-- Field FRM_LAT.SAT, RO (R723). -/
def FRM_LAT_SAT (i j : Nat) : Fld := ⟨FRM_LAT i j, 31, 1⟩
/-- Register FRM_RETRAINS (R723). -/
def FRM_RETRAINS (i : Nat) : Nat := 0x400050 + 0x1000 * i
/-- Field FRM_RETRAINS.COUNT, RO (R723). -/
def FRM_RETRAINS_COUNT (i : Nat) : Fld := ⟨FRM_RETRAINS i, 0, 24⟩
/-- Register FRM_PEER_SERIAL (R723). -/
def FRM_PEER_SERIAL (i : Nat) : Nat := 0x400058 + 0x1000 * i
/-- Field FRM_PEER_SERIAL.SERIAL, RO (R723). -/
def FRM_PEER_SERIAL_SERIAL (i : Nat) : Fld := ⟨FRM_PEER_SERIAL i, 0, 64⟩
/-- Register FRM_DCC (R723). -/
def FRM_DCC (i : Nat) : Nat := 0x409000 + 4 * i
/-- Field FRM_DCC.PORT, RO (R723). -/
def FRM_DCC_PORT (i : Nat) : Fld := ⟨FRM_DCC i, 0, 4⟩
/-- Field FRM_DCC.CHANNEL, RO (R723). -/
def FRM_DCC_CHANNEL (i : Nat) : Fld := ⟨FRM_DCC i, 4, 1⟩
/-- Field FRM_DCC.ENABLE, RO (R723). -/
def FRM_DCC_ENABLE (i : Nat) : Fld := ⟨FRM_DCC i, 5, 1⟩
/-- Field FRM_DCC.RATE, RW (R723). -/
def FRM_DCC_RATE (i : Nat) : Fld := ⟨FRM_DCC i, 8, 2⟩
/-- Field FRM_DCC.SUSPENDED, RO (R723). -/
def FRM_DCC_SUSPENDED (i : Nat) : Fld := ⟨FRM_DCC i, 10, 1⟩
/-- Register TWN_CTRL (R764). -/
def TWN_CTRL : Nat := 0x40a000
/-- Field TWN_CTRL.PLANNED_HOLD, RW (R764). -/
def TWN_CTRL_PLANNED_HOLD : Fld := ⟨TWN_CTRL, 0, 10⟩
/-- Register TWN_STATUS (R764). -/
def TWN_STATUS : Nat := 0x40a004
/-- Field TWN_STATUS.ROLE, RO (R764). -/
def TWN_STATUS_ROLE : Fld := ⟨TWN_STATUS, 0, 2⟩
/-- Field TWN_STATUS.REQUEST, RO (R764). -/
def TWN_STATUS_REQUEST : Fld := ⟨TWN_STATUS, 2, 2⟩
/-- Field TWN_STATUS.MODE, RO (R764). -/
def TWN_STATUS_MODE : Fld := ⟨TWN_STATUS, 4, 2⟩
/-- Field TWN_STATUS.SYNCED, RO (R764). -/
def TWN_STATUS_SYNCED : Fld := ⟨TWN_STATUS, 6, 1⟩
/-- Field TWN_STATUS.HOLD, RO (R764). -/
def TWN_STATUS_HOLD : Fld := ⟨TWN_STATUS, 7, 1⟩
/-- Field TWN_STATUS.FENCE_FAULT, RO (R764). -/
def TWN_STATUS_FENCE_FAULT : Fld := ⟨TWN_STATUS, 8, 1⟩
/-- Field TWN_STATUS.LINK_DOWN, RO (R764). -/
def TWN_STATUS_LINK_DOWN : Fld := ⟨TWN_STATUS, 9, 1⟩
/-- Field TWN_STATUS.TIME_DISCORD, RO (R764). -/
def TWN_STATUS_TIME_DISCORD : Fld := ⟨TWN_STATUS, 10, 1⟩
/-- Register TWN_EPOCH (R764). -/
def TWN_EPOCH : Nat := 0x40a008
/-- Field TWN_EPOCH.EPOCH, RO (R764). -/
def TWN_EPOCH_EPOCH : Fld := ⟨TWN_EPOCH, 0, 32⟩
/-- Register TWN_EPOCH_ACKED (R764). -/
def TWN_EPOCH_ACKED : Nat := 0x40a00c
/-- Field TWN_EPOCH_ACKED.EPOCH, RO (R764). -/
def TWN_EPOCH_ACKED_EPOCH : Fld := ⟨TWN_EPOCH_ACKED, 0, 32⟩
/-- Register TWN_PAIR_TIME (R764). -/
def TWN_PAIR_TIME : Nat := 0x40a010
/-- Field TWN_PAIR_TIME.TIME, RO (R764). -/
def TWN_PAIR_TIME_TIME : Fld := ⟨TWN_PAIR_TIME, 0, 64⟩
/-- Register TWN_PAIR_OFFSET (R764). -/
def TWN_PAIR_OFFSET : Nat := 0x40a018
/-- Field TWN_PAIR_OFFSET.OFFSET, RO (R764). -/
def TWN_PAIR_OFFSET_OFFSET : Fld := ⟨TWN_PAIR_OFFSET, 0, 64⟩
/-- Register TWN_TIME_ERR (R764). -/
def TWN_TIME_ERR : Nat := 0x40a020
/-- Field TWN_TIME_ERR.ERR, RO (R764). -/
def TWN_TIME_ERR_ERR : Fld := ⟨TWN_TIME_ERR, 0, 32⟩
/-- Register TWN_LAG (R764). -/
def TWN_LAG : Nat := 0x40a024
/-- Field TWN_LAG.EPOCHS, RO (R764). -/
def TWN_LAG_EPOCHS : Fld := ⟨TWN_LAG, 0, 16⟩
/-- Register TWN_LOCAL_WRITES (R764). -/
def TWN_LOCAL_WRITES : Nat := 0x40a028
/-- Field TWN_LOCAL_WRITES.COUNT, RO (R764). -/
def TWN_LOCAL_WRITES_COUNT : Fld := ⟨TWN_LOCAL_WRITES, 0, 31⟩
/-- Field TWN_LOCAL_WRITES.SAT, RO (R764). -/
def TWN_LOCAL_WRITES_SAT : Fld := ⟨TWN_LOCAL_WRITES, 31, 1⟩
/-- Register TWN_RESULT_DISCORDS (R764). -/
def TWN_RESULT_DISCORDS : Nat := 0x40a02c
/-- Field TWN_RESULT_DISCORDS.COUNT, RO (R764). -/
def TWN_RESULT_DISCORDS_COUNT : Fld := ⟨TWN_RESULT_DISCORDS, 0, 31⟩
/-- Field TWN_RESULT_DISCORDS.SAT, RO (R764). -/
def TWN_RESULT_DISCORDS_SAT : Fld := ⟨TWN_RESULT_DISCORDS, 31, 1⟩
/-- Register TWN_CLEAR (R764). -/
def TWN_CLEAR : Nat := 0x40a030
/-- Field TWN_CLEAR.CLR_LOCAL_WRITES, WO (R764). -/
def TWN_CLEAR_CLR_LOCAL_WRITES : Fld := ⟨TWN_CLEAR, 0, 1⟩
/-- Field TWN_CLEAR.CLR_RESULT_DISCORDS, WO (R764). -/
def TWN_CLEAR_CLR_RESULT_DISCORDS : Fld := ⟨TWN_CLEAR, 1, 1⟩
/-- Register TWN_FAILOVERS (R764). -/
def TWN_FAILOVERS : Nat := 0x40a034
/-- Field TWN_FAILOVERS.COUNT, RO (R764). -/
def TWN_FAILOVERS_COUNT : Fld := ⟨TWN_FAILOVERS, 0, 24⟩
/-- Register TWN_MIR (R764). -/
def TWN_MIR (i : Nat) : Nat := 0x40a400 + 0x10 * i
/-- Field TWN_MIR.PLOT, RO (R764). -/
def TWN_MIR_PLOT (i : Nat) : Fld := ⟨TWN_MIR i, 0, 9⟩
/-- Field TWN_MIR.HEDGE, RO (R764). -/
def TWN_MIR_HEDGE (i : Nat) : Fld := ⟨TWN_MIR i, 12, 4⟩
/-- Field TWN_MIR.VALID, RO (R764). -/
def TWN_MIR_VALID (i : Nat) : Fld := ⟨TWN_MIR i, 16, 1⟩
/-- Field TWN_MIR.OFFSET, RO (R764). -/
def TWN_MIR_OFFSET (i : Nat) : Fld := ⟨TWN_MIR i, 32, 32⟩
/-- Register TWN_MIR_HI (R764). -/
def TWN_MIR_HI (i : Nat) : Nat := 0x40a408 + 0x10 * i
/-- Field TWN_MIR_HI.SIZE, RO (R764). -/
def TWN_MIR_HI_SIZE (i : Nat) : Fld := ⟨TWN_MIR_HI i, 0, 32⟩
/-- Register SOR_CTRL (R589). -/
def SOR_CTRL : Nat := 0x480000
/-- Field SOR_CTRL.REF_SEL, RW (R589). -/
def SOR_CTRL_REF_SEL : Fld := ⟨SOR_CTRL, 0, 2⟩
/-- Register SOR_STATUS (R589). -/
def SOR_STATUS : Nat := 0x480004
/-- Field SOR_STATUS.REF_SETTLED, RO (R589). -/
def SOR_STATUS_REF_SETTLED : Fld := ⟨SOR_STATUS, 0, 1⟩
/-- Field SOR_STATUS.TRIG_RUNNING, RO (R589). -/
def SOR_STATUS_TRIG_RUNNING : Fld := ⟨SOR_STATUS, 1, 1⟩
/-- Field SOR_STATUS.PAIR_ALIGNED, RO (R589). -/
def SOR_STATUS_PAIR_ALIGNED : Fld := ⟨SOR_STATUS, 2, 1⟩
/-- Field SOR_STATUS.BUSY, RO (R589). -/
def SOR_STATUS_BUSY : Fld := ⟨SOR_STATUS, 3, 1⟩
/-- Field SOR_STATUS.CAL_SELF, RO (R589). -/
def SOR_STATUS_CAL_SELF : Fld := ⟨SOR_STATUS, 8, 8⟩
/-- Field SOR_STATUS.REF_MV, RO (R589). -/
def SOR_STATUS_REF_MV : Fld := ⟨SOR_STATUS, 16, 16⟩
/-- Register SOR_TRIG (R589). -/
def SOR_TRIG : Nat := 0x480008
/-- Field SOR_TRIG.SOURCE, RW (R589). -/
def SOR_TRIG_SOURCE : Fld := ⟨SOR_TRIG, 0, 3⟩
/-- Field SOR_TRIG.ENABLE, RW (R589). -/
def SOR_TRIG_ENABLE : Fld := ⟨SOR_TRIG, 3, 1⟩
/-- Field SOR_TRIG.PAIR_HOLD, RW (R589). -/
def SOR_TRIG_PAIR_HOLD : Fld := ⟨SOR_TRIG, 4, 1⟩
/-- Register SOR_TRIG_PERIOD (R589). -/
def SOR_TRIG_PERIOD : Nat := 0x48000c
/-- Field SOR_TRIG_PERIOD.PERIOD, RW (R589). -/
def SOR_TRIG_PERIOD_PERIOD : Fld := ⟨SOR_TRIG_PERIOD, 0, 32⟩
/-- Register SOR_TRIG_PHASE (R589). -/
def SOR_TRIG_PHASE : Nat := 0x480010
/-- Field SOR_TRIG_PHASE.PHASE, RW (R589). -/
def SOR_TRIG_PHASE_PHASE : Fld := ⟨SOR_TRIG_PHASE, 0, 32⟩
/-- Register SOR_TSEQ (R589). -/
def SOR_TSEQ : Nat := 0x480014
/-- Field SOR_TSEQ.TSEQ, RO (R589). -/
def SOR_TSEQ_TSEQ : Fld := ⟨SOR_TSEQ, 0, 32⟩
/-- Register SOR_TRIG_SW (R589). -/
def SOR_TRIG_SW : Nat := 0x480018
/-- Field SOR_TRIG_SW.FIRE, WO (R589). -/
def SOR_TRIG_SW_FIRE : Fld := ⟨SOR_TRIG_SW, 0, 1⟩
/-- Register SOR_TRIG_MISSED (R589). -/
def SOR_TRIG_MISSED : Nat := 0x48001c
/-- Field SOR_TRIG_MISSED.COUNT, RO (R589). -/
def SOR_TRIG_MISSED_COUNT : Fld := ⟨SOR_TRIG_MISSED, 0, 31⟩
/-- Field SOR_TRIG_MISSED.SAT, RO (R589). -/
def SOR_TRIG_MISSED_SAT : Fld := ⟨SOR_TRIG_MISSED, 31, 1⟩
/-- Register SOR_OVR (R589). -/
def SOR_OVR : Nat := 0x480020
/-- Field SOR_OVR.CH, W1C (R589). -/
def SOR_OVR_CH : Fld := ⟨SOR_OVR, 0, 32⟩
/-- Register SOR_OW_CTRL (R589). -/
def SOR_OW_CTRL : Nat := 0x480024
/-- Field SOR_OW_CTRL.DWELL, RW (R589). -/
def SOR_OW_CTRL_DWELL : Fld := ⟨SOR_OW_CTRL, 0, 7⟩
/-- Field SOR_OW_CTRL.TH, RW (R589). -/
def SOR_OW_CTRL_TH : Fld := ⟨SOR_OW_CTRL, 8, 8⟩
/-- Register SOR_CLEAR (R589). -/
def SOR_CLEAR : Nat := 0x480028
/-- Field SOR_CLEAR.CLR_MISSED, WO (R589). -/
def SOR_CLEAR_CLR_MISSED : Fld := ⟨SOR_CLEAR, 0, 1⟩
/-- Field SOR_CLEAR.CLR_RING, WO (R589). -/
def SOR_CLEAR_CLR_RING : Fld := ⟨SOR_CLEAR, 1, 1⟩
/-- Register SOR_CONV (R589). -/
def SOR_CONV (i : Nat) : Nat := 0x480100 + 4 * i
/-- Field SOR_CONV.ENABLE, RW (R589). -/
def SOR_CONV_ENABLE (i : Nat) : Fld := ⟨SOR_CONV i, 0, 1⟩
/-- Field SOR_CONV.SELECT, RW (R589). -/
def SOR_CONV_SELECT (i : Nat) : Fld := ⟨SOR_CONV i, 4, 2⟩
/-- Field SOR_CONV.SCAN_MASK, RW (R589). -/
def SOR_CONV_SCAN_MASK (i : Nat) : Fld := ⟨SOR_CONV i, 8, 4⟩
/-- Field SOR_CONV.SCAN, RW (R589). -/
def SOR_CONV_SCAN (i : Nat) : Fld := ⟨SOR_CONV i, 12, 1⟩
/-- Register SOR_CH (R589). -/
def SOR_CH (i : Nat) : Nat := 0x480200 + 8 * i
/-- Field SOR_CH.RANGE, RW (R589). -/
def SOR_CH_RANGE (i : Nat) : Fld := ⟨SOR_CH i, 0, 2⟩
/-- Field SOR_CH.OW_MAG, RW (R589). -/
def SOR_CH_OW_MAG (i : Nat) : Fld := ⟨SOR_CH i, 2, 2⟩
/-- Field SOR_CH.OW_P, RW (R589). -/
def SOR_CH_OW_P (i : Nat) : Fld := ⟨SOR_CH i, 4, 2⟩
/-- Field SOR_CH.OW_N, RW (R589). -/
def SOR_CH_OW_N (i : Nat) : Fld := ⟨SOR_CH i, 6, 2⟩
/-- Register SOR_RING_CFG (R589). -/
def SOR_RING_CFG (i : Nat) : Nat := 0x480400 + 0x20 * i
/-- Field SOR_RING_CFG.ENABLE, RW (R589). -/
def SOR_RING_CFG_ENABLE (i : Nat) : Fld := ⟨SOR_RING_CFG i, 0, 1⟩
/-- Field SOR_RING_CFG.HEDGE, RW (R589). -/
def SOR_RING_CFG_HEDGE (i : Nat) : Fld := ⟨SOR_RING_CFG i, 1, 4⟩
/-- Field SOR_RING_CFG.SLICE, RW (R589). -/
def SOR_RING_CFG_SLICE (i : Nat) : Fld := ⟨SOR_RING_CFG i, 8, 3⟩
/-- Field SOR_RING_CFG.RANK, RW (R589). -/
def SOR_RING_CFG_RANK (i : Nat) : Fld := ⟨SOR_RING_CFG i, 12, 6⟩
/-- Field SOR_RING_CFG.SIZE_LOG2, RW (R589). -/
def SOR_RING_CFG_SIZE_LOG2 (i : Nat) : Fld := ⟨SOR_RING_CFG i, 24, 5⟩
/-- Register SOR_RING_OFS (R589). -/
def SOR_RING_OFS (i : Nat) : Nat := 0x480404 + 0x20 * i
/-- Field SOR_RING_OFS.OFFSET, RW (R589). -/
def SOR_RING_OFS_OFFSET (i : Nat) : Fld := ⟨SOR_RING_OFS i, 0, 30⟩
/-- Register SOR_RING_CH (R589). -/
def SOR_RING_CH (i : Nat) : Nat := 0x480408 + 0x20 * i
/-- Field SOR_RING_CH.CHANNELS, RW (R589). -/
def SOR_RING_CH_CHANNELS (i : Nat) : Fld := ⟨SOR_RING_CH i, 0, 32⟩
/-- Register SOR_RING_LOST (R589). -/
def SOR_RING_LOST (i : Nat) : Nat := 0x48040c + 0x20 * i
/-- Field SOR_RING_LOST.COUNT, RO (R589). -/
def SOR_RING_LOST_COUNT (i : Nat) : Fld := ⟨SOR_RING_LOST i, 0, 31⟩
/-- Field SOR_RING_LOST.SAT, RO (R589). -/
def SOR_RING_LOST_SAT (i : Nat) : Fld := ⟨SOR_RING_LOST i, 31, 1⟩
/-- Register SOR_TRIM (R590). -/
def SOR_TRIM (i j : Nat) : Nat := 0x480500 + 0x20 * i + 8 * j
/-- Field SOR_TRIM.OFFSET, RWM (R590). -/
def SOR_TRIM_OFFSET (i j : Nat) : Fld := ⟨SOR_TRIM i j, 0, 16⟩
/-- Field SOR_TRIM.GAIN, RWM (R590). -/
def SOR_TRIM_GAIN (i j : Nat) : Fld := ⟨SOR_TRIM i j, 32, 16⟩
/-- Register LCH_LOOP_STATUS (R630). -/
def LCH_LOOP_STATUS : Nat := 0x4c0000
/-- Field LCH_LOOP_STATUS.LOOP_PRESENT, RO (R630). -/
def LCH_LOOP_STATUS_LOOP_PRESENT : Fld := ⟨LCH_LOOP_STATUS, 0, 1⟩
/-- Field LCH_LOOP_STATUS.LEVEL, RO (R630). -/
def LCH_LOOP_STATUS_LEVEL : Fld := ⟨LCH_LOOP_STATUS, 1, 4⟩
/-- Field LCH_LOOP_STATUS.SOURCE, RO (R630). -/
def LCH_LOOP_STATUS_SOURCE : Fld := ⟨LCH_LOOP_STATUS, 5, 2⟩
/-- Field LCH_LOOP_STATUS.FAULTS, RO (R630). -/
def LCH_LOOP_STATUS_FAULTS : Fld := ⟨LCH_LOOP_STATUS, 7, 7⟩
/-- Field LCH_LOOP_STATUS.WP, RO (R630). -/
def LCH_LOOP_STATUS_WP : Fld := ⟨LCH_LOOP_STATUS, 14, 1⟩
/-- Field LCH_LOOP_STATUS.POLL_ADDR, RO (R630). -/
def LCH_LOOP_STATUS_POLL_ADDR : Fld := ⟨LCH_LOOP_STATUS, 16, 6⟩
/-- Register LCH_LOOP_CURRENT (R630). -/
def LCH_LOOP_CURRENT : Nat := 0x4c0004
/-- Field LCH_LOOP_CURRENT.SET_UA, RO (R630). -/
def LCH_LOOP_CURRENT_SET_UA : Fld := ⟨LCH_LOOP_CURRENT, 0, 16⟩
/-- Field LCH_LOOP_CURRENT.READ_UA, RO (R630). -/
def LCH_LOOP_CURRENT_READ_UA : Fld := ⟨LCH_LOOP_CURRENT, 16, 16⟩
/-- Register LCH_LOOP_AUX (R630). -/
def LCH_LOOP_AUX : Nat := 0x4c0008
/-- Field LCH_LOOP_AUX.HEADROOM_MV, RO (R630). -/
def LCH_LOOP_AUX_HEADROOM_MV : Fld := ⟨LCH_LOOP_AUX, 0, 16⟩
/-- Field LCH_LOOP_AUX.CSTORE_MV, RO (R630). -/
def LCH_LOOP_AUX_CSTORE_MV : Fld := ⟨LCH_LOOP_AUX, 16, 16⟩
/-- Register LCH_LOOP_PV (R630). -/
def LCH_LOOP_PV : Nat := 0x4c000c
/-- Field LCH_LOOP_PV.PV, RO (R630). -/
def LCH_LOOP_PV_PV : Fld := ⟨LCH_LOOP_PV, 0, 32⟩
/-- Register LCH_LV_ACCEPTED (R630). -/
def LCH_LV_ACCEPTED : Nat := 0x4c0010
/-- Field LCH_LV_ACCEPTED.TOTAL, RO (R630). -/
def LCH_LV_ACCEPTED_TOTAL : Fld := ⟨LCH_LV_ACCEPTED, 0, 32⟩
/-- Register LCH_LV_REJECTED (R630). -/
def LCH_LV_REJECTED : Nat := 0x4c0014
/-- Field LCH_LV_REJECTED.COUNT, RO (R630). -/
def LCH_LV_REJECTED_COUNT : Fld := ⟨LCH_LV_REJECTED, 0, 31⟩
/-- Field LCH_LV_REJECTED.SAT, RO (R630). -/
def LCH_LV_REJECTED_SAT : Fld := ⟨LCH_LV_REJECTED, 31, 1⟩
/-- Register LCH_HART_ERRORS (R630). -/
def LCH_HART_ERRORS : Nat := 0x4c0018
/-- Field LCH_HART_ERRORS.COUNT, RO (R630). -/
def LCH_HART_ERRORS_COUNT : Fld := ⟨LCH_HART_ERRORS, 0, 31⟩
/-- Field LCH_HART_ERRORS.SAT, RO (R630). -/
def LCH_HART_ERRORS_SAT : Fld := ⟨LCH_HART_ERRORS, 31, 1⟩
/-- Register LCH_LOOP_RESTARTS (R630). -/
def LCH_LOOP_RESTARTS : Nat := 0x4c001c
/-- Field LCH_LOOP_RESTARTS.COUNT, RO (R630). -/
def LCH_LOOP_RESTARTS_COUNT : Fld := ⟨LCH_LOOP_RESTARTS, 0, 24⟩
/-- Register LCH_LOOP_NVM_WRITES (R630). -/
def LCH_LOOP_NVM_WRITES : Nat := 0x4c0020
/-- Field LCH_LOOP_NVM_WRITES.COUNT, RO (R630). -/
def LCH_LOOP_NVM_WRITES_COUNT : Fld := ⟨LCH_LOOP_NVM_WRITES, 0, 24⟩
/-- Register LCH_LOOP_CLEAR (R630). -/
def LCH_LOOP_CLEAR : Nat := 0x4c0024
/-- Field LCH_LOOP_CLEAR.CLR_REJECTED, WO (R630). -/
def LCH_LOOP_CLEAR_CLR_REJECTED : Fld := ⟨LCH_LOOP_CLEAR, 0, 1⟩
/-- Field LCH_LOOP_CLEAR.CLR_HART, WO (R630). -/
def LCH_LOOP_CLEAR_CLR_HART : Fld := ⟨LCH_LOOP_CLEAR, 1, 1⟩
/-- Register LCH_CORE_STATUS (R676). -/
def LCH_CORE_STATUS : Nat := 0x4c0100
/-- Field LCH_CORE_STATUS.VSTBY_OK, RO (R676). -/
def LCH_CORE_STATUS_VSTBY_OK : Fld := ⟨LCH_CORE_STATUS, 0, 1⟩
/-- Field LCH_CORE_STATUS.ON_CELL, RO (R676). -/
def LCH_CORE_STATUS_ON_CELL : Fld := ⟨LCH_CORE_STATUS, 1, 1⟩
/-- Field LCH_CORE_STATUS.RTC_VALID, RO (R676). -/
def LCH_CORE_STATUS_RTC_VALID : Fld := ⟨LCH_CORE_STATUS, 2, 1⟩
/-- Field LCH_CORE_STATUS.CELL_LOW, RO (R676). -/
def LCH_CORE_STATUS_CELL_LOW : Fld := ⟨LCH_CORE_STATUS, 3, 1⟩
/-- Field LCH_CORE_STATUS.HOLD_OK, RO (R676). -/
def LCH_CORE_STATUS_HOLD_OK : Fld := ⟨LCH_CORE_STATUS, 4, 1⟩
/-- Field LCH_CORE_STATUS.OVERTEMP, RO (R676). -/
def LCH_CORE_STATUS_OVERTEMP : Fld := ⟨LCH_CORE_STATUS, 5, 1⟩
/-- Field LCH_CORE_STATUS.ALARM, RO (R676). -/
def LCH_CORE_STATUS_ALARM : Fld := ⟨LCH_CORE_STATUS, 8, 5⟩
/-- Field LCH_CORE_STATUS.RET_COUNT, RO (R676). -/
def LCH_CORE_STATUS_RET_COUNT : Fld := ⟨LCH_CORE_STATUS, 16, 6⟩
/-- Field LCH_CORE_STATUS.VBAT, RO (R676). -/
def LCH_CORE_STATUS_VBAT : Fld := ⟨LCH_CORE_STATUS, 24, 8⟩
/-- Register LCH_ALARM_CFG (R676). -/
def LCH_ALARM_CFG : Nat := 0x4c0104
/-- Field LCH_ALARM_CFG.CFG, RO (R676). -/
def LCH_ALARM_CFG_CFG : Fld := ⟨LCH_ALARM_CFG, 0, 20⟩
/-- Register LCH_RTC (R676). -/
def LCH_RTC : Nat := 0x4c0108
/-- Field LCH_RTC.RTC, RO (R676). -/
def LCH_RTC_RTC : Fld := ⟨LCH_RTC, 0, 64⟩
/-- Register LCH_WDT (R676). -/
def LCH_WDT : Nat := 0x4c0110
/-- Field LCH_WDT.TIMEOUT_MS, RO (R676). -/
def LCH_WDT_TIMEOUT_MS : Fld := ⟨LCH_WDT, 0, 16⟩
/-- Field LCH_WDT.ARMED, RO (R676). -/
def LCH_WDT_ARMED : Fld := ⟨LCH_WDT, 16, 1⟩
/-- Field LCH_WDT.PAUSED, RO (R676). -/
def LCH_WDT_PAUSED : Fld := ⟨LCH_WDT, 17, 1⟩
/-- Register LCH_LIFECYCLE (R676). -/
def LCH_LIFECYCLE : Nat := 0x4c0114
/-- Field LCH_LIFECYCLE.STATE, RO (R676). -/
def LCH_LIFECYCLE_STATE : Fld := ⟨LCH_LIFECYCLE, 0, 3⟩
/-- Field LCH_LIFECYCLE.PENDING, RO (R676). -/
def LCH_LIFECYCLE_PENDING : Fld := ⟨LCH_LIFECYCLE, 3, 1⟩
/-- Field LCH_LIFECYCLE.BUSY, RO (R676). -/
def LCH_LIFECYCLE_BUSY : Fld := ⟨LCH_LIFECYCLE, 4, 1⟩
/-- Register LCH_LOG_SEQ (R676). -/
def LCH_LOG_SEQ : Nat := 0x4c0118
/-- Field LCH_LOG_SEQ.SEQ, RO (R676). -/
def LCH_LOG_SEQ_SEQ : Fld := ⟨LCH_LOG_SEQ, 0, 32⟩
/-- Register LCH_LOG_DELIVERED (R676). -/
def LCH_LOG_DELIVERED : Nat := 0x4c011c
/-- Field LCH_LOG_DELIVERED.SEQ, RO (R676). -/
def LCH_LOG_DELIVERED_SEQ : Fld := ⟨LCH_LOG_DELIVERED, 0, 32⟩
/-- Register LCH_BOOT_ATTEMPTS (R676). -/
def LCH_BOOT_ATTEMPTS : Nat := 0x4c0120
/-- Field LCH_BOOT_ATTEMPTS.COUNT, RO (R676). -/
def LCH_BOOT_ATTEMPTS_COUNT : Fld := ⟨LCH_BOOT_ATTEMPTS, 0, 24⟩
/-- Register LCH_NVM_WRITES (R676). -/
def LCH_NVM_WRITES : Nat := 0x4c0124
/-- Field LCH_NVM_WRITES.COUNT, RO (R676). -/
def LCH_NVM_WRITES_COUNT : Fld := ⟨LCH_NVM_WRITES, 0, 24⟩
/-- Register LCH_RET_OVERFLOW (R676). -/
def LCH_RET_OVERFLOW : Nat := 0x4c0128
/-- Field LCH_RET_OVERFLOW.COUNT, RO (R676). -/
def LCH_RET_OVERFLOW_COUNT : Fld := ⟨LCH_RET_OVERFLOW, 0, 24⟩
/-- Register LCH_TERM (R676). -/
def LCH_TERM : Nat := 0x4c012c
/-- Field LCH_TERM.TERM, RO (R676). -/
def LCH_TERM_TERM : Fld := ⟨LCH_TERM, 0, 32⟩
/-- Register TIM_NOW (R388). -/
def TIM_NOW : Nat := 0x500000
/-- Field TIM_NOW.TIME, RO (R388). -/
def TIM_NOW_TIME : Fld := ⟨TIM_NOW, 0, 64⟩
/-- Register TIM_SECONDS (R388). -/
def TIM_SECONDS : Nat := 0x500008
/-- Field TIM_SECONDS.COUNT, RO (R388). -/
def TIM_SECONDS_COUNT : Fld := ⟨TIM_SECONDS, 0, 32⟩
/-- Register TIM_CTRL (R388). -/
def TIM_CTRL : Nat := 0x50000c
/-- Field TIM_CTRL.SNAP, WO (R388). -/
def TIM_CTRL_SNAP : Fld := ⟨TIM_CTRL, 0, 1⟩
/-- Register TIM_SNAP (R388). -/
def TIM_SNAP : Nat := 0x500010
/-- Field TIM_SNAP.TIME, RO (R388). -/
def TIM_SNAP_TIME : Fld := ⟨TIM_SNAP, 0, 64⟩
/-- Register TIM_SNAP_SEQ (R388). -/
def TIM_SNAP_SEQ : Nat := 0x500018
/-- Field TIM_SNAP_SEQ.COUNT, RO (R388). -/
def TIM_SNAP_SEQ_COUNT : Fld := ⟨TIM_SNAP_SEQ, 0, 32⟩
/-- Register TEL_VL_CTRL (R74). -/
def TEL_VL_CTRL : Nat := 0x600000
/-- Field TEL_VL_CTRL.BASE, RW (R74). -/
def TEL_VL_CTRL_BASE : Fld := ⟨TEL_VL_CTRL, 0, 3⟩
/-- Field TEL_VL_CTRL.CEIL, RW (R74). -/
def TEL_VL_CTRL_CEIL : Fld := ⟨TEL_VL_CTRL, 4, 3⟩
/-- Register TEL_VL_STATUS (R75). -/
def TEL_VL_STATUS : Nat := 0x600004
/-- Field TEL_VL_STATUS.ACTIVE, RO (R75). -/
def TEL_VL_STATUS_ACTIVE : Fld := ⟨TEL_VL_STATUS, 0, 3⟩
/-- Field TEL_VL_STATUS.TARGET, RO (R75). -/
def TEL_VL_STATUS_TARGET : Fld := ⟨TEL_VL_STATUS, 4, 3⟩
/-- Field TEL_VL_STATUS.GLIDING, RO (R75). -/
def TEL_VL_STATUS_GLIDING : Fld := ⟨TEL_VL_STATUS, 8, 1⟩
/-- Field TEL_VL_STATUS.VOUT_FAULT, W1C (R75). -/
def TEL_VL_STATUS_VOUT_FAULT : Fld := ⟨TEL_VL_STATUS, 9, 1⟩
/-- Field TEL_VL_STATUS.BAND, RO (R75). -/
def TEL_VL_STATUS_BAND : Fld := ⟨TEL_VL_STATUS, 10, 2⟩
/-- Field TEL_VL_STATUS.TJ_MAX, RO (R75). -/
def TEL_VL_STATUS_TJ_MAX : Fld := ⟨TEL_VL_STATUS, 16, 8⟩
/-- Register TEL_TEMPO_CTRL (R76). -/
def TEL_TEMPO_CTRL : Nat := 0x600008
/-- Field TEL_TEMPO_CTRL.GATE, RW (R76). -/
def TEL_TEMPO_CTRL_GATE : Fld := ⟨TEL_TEMPO_CTRL, 0, 4⟩
/-- Field TEL_TEMPO_CTRL.CLEAR_MIN, WO (R76). -/
def TEL_TEMPO_CTRL_CLEAR_MIN : Fld := ⟨TEL_TEMPO_CTRL, 8, 1⟩
/-- Field TEL_TEMPO_CTRL.CLEAR_FAULTS, WO (R76). -/
def TEL_TEMPO_CTRL_CLEAR_FAULTS : Fld := ⟨TEL_TEMPO_CTRL, 9, 1⟩
/-- Register TEL_VL_FAULTS (R76). -/
def TEL_VL_FAULTS : Nat := 0x60000c
/-- Field TEL_VL_FAULTS.COUNT, RO (R76). -/
def TEL_VL_FAULTS_COUNT : Fld := ⟨TEL_VL_FAULTS, 0, 31⟩
/-- Field TEL_VL_FAULTS.SAT, RO (R76). -/
def TEL_VL_FAULTS_SAT : Fld := ⟨TEL_VL_FAULTS, 31, 1⟩
/-- Register TEL_CADENCE (R77). -/
def TEL_CADENCE (i : Nat) : Nat := 0x600100 + 4 * i
/-- Field TEL_CADENCE.FLOOR, RW (R77). -/
def TEL_CADENCE_FLOOR (i : Nat) : Fld := ⟨TEL_CADENCE i, 0, 16⟩
/-- Field TEL_CADENCE.ENABLE, RW (R77). -/
def TEL_CADENCE_ENABLE (i : Nat) : Fld := ⟨TEL_CADENCE i, 16, 1⟩
/-- Field TEL_CADENCE.DEFICIT, RO (R77). -/
def TEL_CADENCE_DEFICIT (i : Nat) : Fld := ⟨TEL_CADENCE i, 17, 1⟩
/-- Field TEL_CADENCE.DEFICIT_SEEN, W1C (R77). -/
def TEL_CADENCE_DEFICIT_SEEN (i : Nat) : Fld := ⟨TEL_CADENCE i, 18, 1⟩
/-- Register TEL_TEMPO (R78). -/
def TEL_TEMPO (i : Nat) : Nat := 0x600200 + 4 * i
/-- Field TEL_TEMPO.RATE, RO (R78). -/
def TEL_TEMPO_RATE (i : Nat) : Fld := ⟨TEL_TEMPO i, 0, 16⟩
/-- Field TEL_TEMPO.TJ, RO (R78). -/
def TEL_TEMPO_TJ (i : Nat) : Fld := ⟨TEL_TEMPO i, 16, 8⟩
/-- Field TEL_TEMPO.VALID, RO (R78). -/
def TEL_TEMPO_VALID (i : Nat) : Fld := ⟨TEL_TEMPO i, 31, 1⟩
/-- Register TEL_TEMPO_MIN (R78). -/
def TEL_TEMPO_MIN (i : Nat) : Nat := 0x600300 + 4 * i
/-- Field TEL_TEMPO_MIN.MIN_RATE, RO (R78). -/
def TEL_TEMPO_MIN_MIN_RATE (i : Nat) : Fld := ⟨TEL_TEMPO_MIN i, 0, 16⟩
/-- Field TEL_TEMPO_MIN.VALID, RO (R78). -/
def TEL_TEMPO_MIN_VALID (i : Nat) : Fld := ⟨TEL_TEMPO_MIN i, 31, 1⟩
/-- Register FAB_BRK_OWNER (R135). -/
def FAB_BRK_OWNER (i : Nat) : Nat := 0x601000 + 4 * i
/-- Field FAB_BRK_OWNER.HEDGE, RO (R135). -/
def FAB_BRK_OWNER_HEDGE (i : Nat) : Fld := ⟨FAB_BRK_OWNER i, 0, 4⟩
/-- Field FAB_BRK_OWNER.OWNED, RO (R135). -/
def FAB_BRK_OWNER_OWNED (i : Nat) : Fld := ⟨FAB_BRK_OWNER i, 4, 1⟩
/-- Register FAB_STALL (R135). -/
def FAB_STALL (i : Nat) : Nat := 0x601100 + 4 * i
/-- Field FAB_STALL.LIMIT, RW (R135). -/
def FAB_STALL_LIMIT (i : Nat) : Fld := ⟨FAB_STALL i, 0, 16⟩
/-- Field FAB_STALL.STALLED, RO (R135). -/
def FAB_STALL_STALLED (i : Nat) : Fld := ⟨FAB_STALL i, 16, 1⟩
/-- Field FAB_STALL.STALL_SEEN, W1C (R135). -/
def FAB_STALL_STALL_SEEN (i : Nat) : Fld := ⟨FAB_STALL i, 17, 1⟩
/-- Register FAB_CE (R136). -/
def FAB_CE (i : Nat) : Nat := 0x601200 + 4 * i
/-- Field FAB_CE.COUNT, RO (R136). -/
def FAB_CE_COUNT (i : Nat) : Fld := ⟨FAB_CE i, 0, 31⟩
/-- Field FAB_CE.SAT, RO (R136). -/
def FAB_CE_SAT (i : Nat) : Fld := ⟨FAB_CE i, 31, 1⟩
/-- Register FAB_UE (R136). -/
def FAB_UE (i : Nat) : Nat := 0x601300 + 4 * i
/-- Field FAB_UE.COUNT, RO (R136). -/
def FAB_UE_COUNT (i : Nat) : Fld := ⟨FAB_UE i, 0, 31⟩
/-- Field FAB_UE.SAT, RO (R136). -/
def FAB_UE_SAT (i : Nat) : Fld := ⟨FAB_UE i, 31, 1⟩
/-- Register FAB_DROP (R136). -/
def FAB_DROP (i : Nat) : Nat := 0x601400 + 4 * i
/-- Field FAB_DROP.COUNT, RO (R136). -/
def FAB_DROP_COUNT (i : Nat) : Fld := ⟨FAB_DROP i, 0, 31⟩
/-- Field FAB_DROP.SAT, RO (R136). -/
def FAB_DROP_SAT (i : Nat) : Fld := ⟨FAB_DROP i, 31, 1⟩
/-- Register FAB_CLEAR (R136). -/
def FAB_CLEAR : Nat := 0x601500
/-- Field FAB_CLEAR.CLR_CE, WO (R136). -/
def FAB_CLEAR_CLR_CE : Fld := ⟨FAB_CLEAR, 0, 1⟩
/-- Field FAB_CLEAR.CLR_UE, WO (R136). -/
def FAB_CLEAR_CLR_UE : Fld := ⟨FAB_CLEAR, 1, 1⟩
/-- Field FAB_CLEAR.CLR_DROP, WO (R136). -/
def FAB_CLEAR_CLR_DROP : Fld := ⟨FAB_CLEAR, 2, 1⟩
/-- Field FAB_CLEAR.CLR_GW, WO (R136). -/
def FAB_CLEAR_CLR_GW : Fld := ⟨FAB_CLEAR, 3, 1⟩
/-- Register FAB_TEARDOWN_DROPS (R136). -/
def FAB_TEARDOWN_DROPS : Nat := 0x601504
/-- Field FAB_TEARDOWN_DROPS.COUNT, RO (R136). -/
def FAB_TEARDOWN_DROPS_COUNT : Fld := ⟨FAB_TEARDOWN_DROPS, 0, 31⟩
/-- Field FAB_TEARDOWN_DROPS.SAT, RO (R136). -/
def FAB_TEARDOWN_DROPS_SAT : Fld := ⟨FAB_TEARDOWN_DROPS, 31, 1⟩
/-- Register FAB_GW_CONFLICT (R137). -/
def FAB_GW_CONFLICT : Nat := 0x601508
/-- Field FAB_GW_CONFLICT.LOST, W1C (R137). -/
def FAB_GW_CONFLICT_LOST : Fld := ⟨FAB_GW_CONFLICT, 0, 32⟩
/-- Register FAB_GW_ROUTE (R137). -/
def FAB_GW_ROUTE (i : Nat) : Nat := 0x601600 + 8 * i
/-- Field FAB_GW_ROUTE.CHANNELS, RW (R137). -/
def FAB_GW_ROUTE_CHANNELS (i : Nat) : Fld := ⟨FAB_GW_ROUTE i, 0, 32⟩
/-- Field FAB_GW_ROUTE.ENABLE, RW (R137). -/
def FAB_GW_ROUTE_ENABLE (i : Nat) : Fld := ⟨FAB_GW_ROUTE i, 32, 1⟩
/-- Field FAB_GW_ROUTE.PRIORITY, RW (R137). -/
def FAB_GW_ROUTE_PRIORITY (i : Nat) : Fld := ⟨FAB_GW_ROUTE i, 33, 3⟩
/-- Field FAB_GW_ROUTE.HEDGE, RW (R137). -/
def FAB_GW_ROUTE_HEDGE (i : Nat) : Fld := ⟨FAB_GW_ROUTE i, 36, 4⟩
/-- Field FAB_GW_ROUTE.STREAM, RW (R137). -/
def FAB_GW_ROUTE_STREAM (i : Nat) : Fld := ⟨FAB_GW_ROUTE i, 40, 8⟩
/-- Field FAB_GW_ROUTE.BRACKEN, RW (R137). -/
def FAB_GW_ROUTE_BRACKEN (i : Nat) : Fld := ⟨FAB_GW_ROUTE i, 48, 6⟩
/-- Register FAB_GW_OVERRUN (R136). -/
def FAB_GW_OVERRUN (i : Nat) : Nat := 0x601700 + 4 * i
/-- Field FAB_GW_OVERRUN.COUNT, RO (R136). -/
def FAB_GW_OVERRUN_COUNT (i : Nat) : Fld := ⟨FAB_GW_OVERRUN i, 0, 31⟩
/-- Field FAB_GW_OVERRUN.SAT, RO (R136). -/
def FAB_GW_OVERRUN_SAT (i : Nat) : Fld := ⟨FAB_GW_OVERRUN i, 31, 1⟩
/-- Register SLC_STATUS (R245). -/
def SLC_STATUS (i : Nat) : Nat := 0x700000 + 0x1000 * i
/-- Field SLC_STATUS.STATE, RO (R245). -/
def SLC_STATUS_STATE (i : Nat) : Fld := ⟨SLC_STATUS i, 0, 2⟩
/-- Field SLC_STATUS.TEMP, RO (R245). -/
def SLC_STATUS_TEMP (i : Nat) : Fld := ⟨SLC_STATUS i, 8, 8⟩
/-- Field SLC_STATUS.HOT, RO (R245). -/
def SLC_STATUS_HOT (i : Nat) : Fld := ⟨SLC_STATUS i, 16, 1⟩
/-- Register SLC_SHARE (R245). -/
def SLC_SHARE (i : Nat) : Nat := 0x700004 + 0x1000 * i
/-- Field SLC_SHARE.SCHED, RW (R245). -/
def SLC_SHARE_SCHED (i : Nat) : Fld := ⟨SLC_SHARE i, 0, 4⟩
/-- Field SLC_SHARE.MEMSTR, RW (R245). -/
def SLC_SHARE_MEMSTR (i : Nat) : Fld := ⟨SLC_SHARE i, 4, 4⟩
/-- Field SLC_SHARE.KVC, RW (R245). -/
def SLC_SHARE_KVC (i : Nat) : Fld := ⟨SLC_SHARE i, 8, 4⟩
/-- Field SLC_SHARE.HOST, RW (R245). -/
def SLC_SHARE_HOST (i : Nat) : Fld := ⟨SLC_SHARE i, 12, 4⟩
/-- Field SLC_SHARE.MIRROR, RW (R245). -/
def SLC_SHARE_MIRROR (i : Nat) : Fld := ⟨SLC_SHARE i, 16, 4⟩
/-- Register SLC_SCRUB (R245). -/
def SLC_SCRUB (i : Nat) : Nat := 0x700008 + 0x1000 * i
/-- Field SLC_SCRUB.PERIOD, RW (R245). -/
def SLC_SCRUB_PERIOD (i : Nat) : Fld := ⟨SLC_SCRUB i, 0, 8⟩
/-- Field SLC_SCRUB.ENABLE, RW (R245). -/
def SLC_SCRUB_ENABLE (i : Nat) : Fld := ⟨SLC_SCRUB i, 8, 1⟩
/-- Register SLC_CE (R245). -/
def SLC_CE (i : Nat) : Nat := 0x70000c + 0x1000 * i
/-- Field SLC_CE.COUNT, RO (R245). -/
def SLC_CE_COUNT (i : Nat) : Fld := ⟨SLC_CE i, 0, 31⟩
/-- Field SLC_CE.SAT, RO (R245). -/
def SLC_CE_SAT (i : Nat) : Fld := ⟨SLC_CE i, 31, 1⟩
/-- Register SLC_UE (R245). -/
def SLC_UE (i : Nat) : Nat := 0x700010 + 0x1000 * i
/-- Field SLC_UE.COUNT, RO (R245). -/
def SLC_UE_COUNT (i : Nat) : Fld := ⟨SLC_UE i, 0, 31⟩
/-- Field SLC_UE.SAT, RO (R245). -/
def SLC_UE_SAT (i : Nat) : Fld := ⟨SLC_UE i, 31, 1⟩
/-- Register SLC_CE_LIMIT (R245). -/
def SLC_CE_LIMIT (i : Nat) : Nat := 0x700014 + 0x1000 * i
/-- Field SLC_CE_LIMIT.LIMIT, RW (R245). -/
def SLC_CE_LIMIT_LIMIT (i : Nat) : Fld := ⟨SLC_CE_LIMIT i, 0, 16⟩
/-- Register SLC_STALE (R245). -/
def SLC_STALE (i : Nat) : Nat := 0x700018 + 0x1000 * i
/-- Field SLC_STALE.STALE, RO (R245). -/
def SLC_STALE_STALE (i : Nat) : Fld := ⟨SLC_STALE i, 0, 36⟩
/-- Register SLC_UE_ADDR (R245). -/
def SLC_UE_ADDR (i : Nat) : Nat := 0x700020 + 0x1000 * i
/-- Field SLC_UE_ADDR.ADDR, RO (R245). -/
def SLC_UE_ADDR_ADDR (i : Nat) : Fld := ⟨SLC_UE_ADDR i, 0, 36⟩
/-- Field SLC_UE_ADDR.VALID, W1C (R245). -/
def SLC_UE_ADDR_VALID (i : Nat) : Fld := ⟨SLC_UE_ADDR i, 63, 1⟩
/-- Register SLC_TRAIN_COUNT (R245). -/
def SLC_TRAIN_COUNT (i : Nat) : Nat := 0x700028 + 0x1000 * i
/-- Field SLC_TRAIN_COUNT.COUNT, RO (R245). -/
def SLC_TRAIN_COUNT_COUNT (i : Nat) : Fld := ⟨SLC_TRAIN_COUNT i, 0, 24⟩
/-- Register SLC_CLEAR (R245). -/
def SLC_CLEAR (i : Nat) : Nat := 0x70002c + 0x1000 * i
/-- Field SLC_CLEAR.CLR_CE, WO (R245). -/
def SLC_CLEAR_CLR_CE (i : Nat) : Fld := ⟨SLC_CLEAR i, 0, 1⟩
/-- Field SLC_CLEAR.CLR_UE, WO (R245). -/
def SLC_CLEAR_CLR_UE (i : Nat) : Fld := ⟨SLC_CLEAR i, 1, 1⟩
/-- Register SLC_PLOT (R245). -/
def SLC_PLOT (i : Nat) : Nat := 0x708000 + 4 * i
/-- Field SLC_PLOT.HEDGE, RO (R245). -/
def SLC_PLOT_HEDGE (i : Nat) : Fld := ⟨SLC_PLOT i, 0, 4⟩
/-- Field SLC_PLOT.OWNED, RO (R245). -/
def SLC_PLOT_OWNED (i : Nat) : Fld := ⟨SLC_PLOT i, 4, 1⟩
/-- Field SLC_PLOT.STALE, RO (R245). -/
def SLC_PLOT_STALE (i : Nat) : Fld := ⟨SLC_PLOT i, 5, 1⟩
/-- Register SLC_PMAP_PF (R245). -/
def SLC_PMAP_PF (i : Nat) : Nat := 0x709000 + 4 * i
/-- Field SLC_PMAP_PF.PLOT, RW (R245). -/
def SLC_PMAP_PF_PLOT (i : Nat) : Fld := ⟨SLC_PMAP_PF i, 0, 9⟩
/-- Field SLC_PMAP_PF.VALID, RW (R245). -/
def SLC_PMAP_PF_VALID (i : Nat) : Fld := ⟨SLC_PMAP_PF i, 15, 1⟩
/-- Register SLC_PMAP_VF (R245). -/
def SLC_PMAP_VF (i j : Nat) : Nat := 0x70a000 + 0x40 * (i - 1) + 4 * j
/-- Field SLC_PMAP_VF.PLOT, RW (R245). -/
def SLC_PMAP_VF_PLOT (i j : Nat) : Fld := ⟨SLC_PMAP_VF i j, 0, 9⟩
/-- Field SLC_PMAP_VF.VALID, RW (R245). -/
def SLC_PMAP_VF_VALID (i j : Nat) : Fld := ⟨SLC_PMAP_VF i j, 15, 1⟩
/-- Register KVC_DEC_BLOCKS (R292). -/
def KVC_DEC_BLOCKS (i : Nat) : Nat := 0x710000 + 0x1000 * i
/-- Field KVC_DEC_BLOCKS.TOTAL, RO (R292). -/
def KVC_DEC_BLOCKS_TOTAL (i : Nat) : Fld := ⟨KVC_DEC_BLOCKS i, 0, 64⟩
/-- Register KVC_DEC_BYTES (R292). -/
def KVC_DEC_BYTES (i : Nat) : Nat := 0x710008 + 0x1000 * i
/-- Field KVC_DEC_BYTES.TOTAL, RO (R292). -/
def KVC_DEC_BYTES_TOTAL (i : Nat) : Fld := ⟨KVC_DEC_BYTES i, 0, 64⟩
/-- Register KVC_ENC_BLOCKS (R292). -/
def KVC_ENC_BLOCKS (i : Nat) : Nat := 0x710010 + 0x1000 * i
/-- Field KVC_ENC_BLOCKS.TOTAL, RO (R292). -/
def KVC_ENC_BLOCKS_TOTAL (i : Nat) : Fld := ⟨KVC_ENC_BLOCKS i, 0, 64⟩
/-- Register KVC_CORRUPT (R292). -/
def KVC_CORRUPT (i : Nat) : Nat := 0x710018 + 0x1000 * i
/-- Field KVC_CORRUPT.COUNT, RO (R292). -/
def KVC_CORRUPT_COUNT (i : Nat) : Fld := ⟨KVC_CORRUPT i, 0, 31⟩
/-- Field KVC_CORRUPT.SAT, RO (R292). -/
def KVC_CORRUPT_SAT (i : Nat) : Fld := ⟨KVC_CORRUPT i, 31, 1⟩
/-- Register KVC_FALLBACK (R292). -/
def KVC_FALLBACK (i : Nat) : Nat := 0x71001c + 0x1000 * i
/-- Field KVC_FALLBACK.COUNT, RO (R292). -/
def KVC_FALLBACK_COUNT (i : Nat) : Fld := ⟨KVC_FALLBACK i, 0, 31⟩
/-- Field KVC_FALLBACK.SAT, RO (R292). -/
def KVC_FALLBACK_SAT (i : Nat) : Fld := ⟨KVC_FALLBACK i, 31, 1⟩
/-- Register KVC_REQ_FAULTS (R292). -/
def KVC_REQ_FAULTS (i : Nat) : Nat := 0x710020 + 0x1000 * i
/-- Field KVC_REQ_FAULTS.COUNT, RO (R292). -/
def KVC_REQ_FAULTS_COUNT (i : Nat) : Fld := ⟨KVC_REQ_FAULTS i, 0, 31⟩
/-- Field KVC_REQ_FAULTS.SAT, RO (R292). -/
def KVC_REQ_FAULTS_SAT (i : Nat) : Fld := ⟨KVC_REQ_FAULTS i, 31, 1⟩
/-- Register KVC_CLEAR (R292). -/
def KVC_CLEAR (i : Nat) : Nat := 0x710024 + 0x1000 * i
/-- Field KVC_CLEAR.CLR_CORRUPT, WO (R292). -/
def KVC_CLEAR_CLR_CORRUPT (i : Nat) : Fld := ⟨KVC_CLEAR i, 0, 1⟩
/-- Field KVC_CLEAR.CLR_FALLBACK, WO (R292). -/
def KVC_CLEAR_CLR_FALLBACK (i : Nat) : Fld := ⟨KVC_CLEAR i, 1, 1⟩
/-- Field KVC_CLEAR.CLR_FAULTS, WO (R292). -/
def KVC_CLEAR_CLR_FAULTS (i : Nat) : Fld := ⟨KVC_CLEAR i, 2, 1⟩
/-- Register KVC_LAST (R292). -/
def KVC_LAST (i : Nat) : Nat := 0x710028 + 0x1000 * i
/-- Field KVC_LAST.DETAIL, RO (R292). -/
def KVC_LAST_DETAIL (i : Nat) : Fld := ⟨KVC_LAST i, 0, 48⟩
/-- Field KVC_LAST.VALID, W1C (R292). -/
def KVC_LAST_VALID (i : Nat) : Fld := ⟨KVC_LAST i, 63, 1⟩
/-- Register KVC_RGN_CFG (R292). -/
def KVC_RGN_CFG (i j : Nat) : Nat := 0x710100 + 0x1000 * i + 0x20 * j
/-- Field KVC_RGN_CFG.ENABLE, RW (R292). -/
def KVC_RGN_CFG_ENABLE (i j : Nat) : Fld := ⟨KVC_RGN_CFG i j, 0, 1⟩
/-- Field KVC_RGN_CFG.HEDGE, RW (R292). -/
def KVC_RGN_CFG_HEDGE (i j : Nat) : Fld := ⟨KVC_RGN_CFG i j, 1, 4⟩
/-- Field KVC_RGN_CFG.RAW_FMT, RW (R292). -/
def KVC_RGN_CFG_RAW_FMT (i j : Nat) : Fld := ⟨KVC_RGN_CFG i j, 5, 2⟩
/-- Field KVC_RGN_CFG.RAW_CODE, RW (R292). -/
def KVC_RGN_CFG_RAW_CODE (i j : Nat) : Fld := ⟨KVC_RGN_CFG i j, 8, 4⟩
/-- Field KVC_RGN_CFG.FIRST_PLOT, RW (R292). -/
def KVC_RGN_CFG_FIRST_PLOT (i j : Nat) : Fld := ⟨KVC_RGN_CFG i j, 12, 6⟩
/-- Field KVC_RGN_CFG.PLOTS, RW (R292). -/
def KVC_RGN_CFG_PLOTS (i j : Nat) : Fld := ⟨KVC_RGN_CFG i j, 18, 6⟩
/-- Register KVC_RGN_INDEX (R292). -/
def KVC_RGN_INDEX (i j : Nat) : Nat := 0x710108 + 0x1000 * i + 0x20 * j
/-- Field KVC_RGN_INDEX.INDEX_BASE, RW (R292). -/
def KVC_RGN_INDEX_INDEX_BASE (i j : Nat) : Fld := ⟨KVC_RGN_INDEX i j, 0, 34⟩
/-- Field KVC_RGN_INDEX.COUNT, RW (R292). -/
def KVC_RGN_INDEX_COUNT (i j : Nat) : Fld := ⟨KVC_RGN_INDEX i j, 40, 24⟩
/-- Register KVC_RGN_DATA (R292). -/
def KVC_RGN_DATA (i j : Nat) : Nat := 0x710110 + 0x1000 * i + 0x20 * j
/-- Field KVC_RGN_DATA.DATA_BASE, RW (R292). -/
def KVC_RGN_DATA_DATA_BASE (i j : Nat) : Fld := ⟨KVC_RGN_DATA i j, 0, 34⟩
/-- Register KVC_RGN_WPTR (R292). -/
def KVC_RGN_WPTR (i j : Nat) : Nat := 0x710118 + 0x1000 * i + 0x20 * j
/-- Field KVC_RGN_WPTR.WPTR, RW (R292). -/
def KVC_RGN_WPTR_WPTR (i j : Nat) : Fld := ⟨KVC_RGN_WPTR i j, 0, 34⟩
/-- Register KVC_SMAP (R292). -/
def KVC_SMAP (i j : Nat) : Nat := 0x710800 + 0x1000 * i + 4 * j
/-- Field KVC_SMAP.CLAIM, RW (R292). -/
def KVC_SMAP_CLAIM (i j : Nat) : Fld := ⟨KVC_SMAP i j, 0, 32⟩
/-- Register DBG_OBSERVED (R548). -/
def DBG_OBSERVED : Nat := 0x1000000
/-- Field DBG_OBSERVED.OBSERVED, RO (R548). -/
def DBG_OBSERVED_OBSERVED : Fld := ⟨DBG_OBSERVED, 0, 16⟩
/-- Register DBG_STATUS (R548). -/
def DBG_STATUS : Nat := 0x1000004
/-- Field DBG_STATUS.REJECTED, W1C (R548). -/
def DBG_STATUS_REJECTED : Fld := ⟨DBG_STATUS, 0, 1⟩
/-- Field DBG_STATUS.UE, W1C (R548). -/
def DBG_STATUS_UE : Fld := ⟨DBG_STATUS, 1, 1⟩
/-- Field DBG_STATUS.TRACE_ON, RO (R548). -/
def DBG_STATUS_TRACE_ON : Fld := ⟨DBG_STATUS, 2, 1⟩
/-- Field DBG_STATUS.PROFILE_ON, RO (R548). -/
def DBG_STATUS_PROFILE_ON : Fld := ⟨DBG_STATUS, 3, 1⟩
/-- Register DBG_VIOL (R548). -/
def DBG_VIOL (i : Nat) : Nat := 0x1000010 + 4 * i
/-- Field DBG_VIOL.COUNT, RO (R548). -/
def DBG_VIOL_COUNT (i : Nat) : Fld := ⟨DBG_VIOL i, 0, 31⟩
/-- Field DBG_VIOL.SAT, RO (R548). -/
def DBG_VIOL_SAT (i : Nat) : Fld := ⟨DBG_VIOL i, 31, 1⟩
/-- Register DBG_TRACE_LOST (R548). -/
def DBG_TRACE_LOST : Nat := 0x1000050
/-- Field DBG_TRACE_LOST.COUNT, RO (R548). -/
def DBG_TRACE_LOST_COUNT : Fld := ⟨DBG_TRACE_LOST, 0, 31⟩
/-- Field DBG_TRACE_LOST.SAT, RO (R548). -/
def DBG_TRACE_LOST_SAT : Fld := ⟨DBG_TRACE_LOST, 31, 1⟩
/-- Register DBG_CLEAR (R548). -/
def DBG_CLEAR : Nat := 0x1000054
/-- Field DBG_CLEAR.CLR_VIOL, WO (R548). -/
def DBG_CLEAR_CLR_VIOL : Fld := ⟨DBG_CLEAR, 0, 1⟩
/-- Field DBG_CLEAR.CLR_LOST, WO (R548). -/
def DBG_CLEAR_CLR_LOST : Fld := ⟨DBG_CLEAR, 1, 1⟩
/-- Register GBL_VF_STATUS (R326). -/
def GBL_VF_STATUS (i : Nat) : Nat := 0x1000 + 0x10000000 * i
/-- Field GBL_VF_STATUS.SERVICE, RO (R326). -/
def GBL_VF_STATUS_SERVICE (i : Nat) : Fld := ⟨GBL_VF_STATUS i, 0, 2⟩
/-- Field GBL_VF_STATUS.EXISTS, RO (R326). -/
def GBL_VF_STATUS_EXISTS (i : Nat) : Fld := ⟨GBL_VF_STATUS i, 2, 1⟩
/-- Field GBL_VF_STATUS.BOUND, RO (R326). -/
def GBL_VF_STATUS_BOUND (i : Nat) : Fld := ⟨GBL_VF_STATUS i, 3, 1⟩
/-- Field GBL_VF_STATUS.PINNED, RO (R326). -/
def GBL_VF_STATUS_PINNED (i : Nat) : Fld := ⟨GBL_VF_STATUS i, 4, 1⟩
/-- Field GBL_VF_STATUS.OBSERVED, RO (R326). -/
def GBL_VF_STATUS_OBSERVED (i : Nat) : Fld := ⟨GBL_VF_STATUS i, 5, 1⟩
/-- Register GBL_VF_IRQ (R326). -/
def GBL_VF_IRQ (i : Nat) : Nat := 0x1004 + 0x10000000 * i
/-- Field GBL_VF_IRQ.LEVEL, W1C (R326). -/
def GBL_VF_IRQ_LEVEL (i : Nat) : Fld := ⟨GBL_VF_IRQ i, 0, 1⟩
/-- Field GBL_VF_IRQ.HEDGE, W1C (R326). -/
def GBL_VF_IRQ_HEDGE (i : Nat) : Fld := ⟨GBL_VF_IRQ i, 1, 1⟩
/-- Field GBL_VF_IRQ.IMAGE, W1C (R326). -/
def GBL_VF_IRQ_IMAGE (i : Nat) : Fld := ⟨GBL_VF_IRQ i, 2, 1⟩
/-- Field GBL_VF_IRQ.OBSERVED, W1C (R326). -/
def GBL_VF_IRQ_OBSERVED (i : Nat) : Fld := ⟨GBL_VF_IRQ i, 3, 1⟩
/-- Register GBL_VF_IRQ_MASK (R326). -/
def GBL_VF_IRQ_MASK (i : Nat) : Nat := 0x1008 + 0x10000000 * i
/-- Field GBL_VF_IRQ_MASK.MASK, RW (R326). -/
def GBL_VF_IRQ_MASK_MASK (i : Nat) : Fld := ⟨GBL_VF_IRQ_MASK i, 0, 4⟩
/-- Register GBL_VF_TIME (R326). -/
def GBL_VF_TIME (i : Nat) : Nat := 0x1010 + 0x10000000 * i
/-- Field GBL_VF_TIME.TIME, RO (R326). -/
def GBL_VF_TIME_TIME (i : Nat) : Fld := ⟨GBL_VF_TIME i, 0, 64⟩

/-- Register rows with the prefix DIR. -/
def descsDir : List RegDesc := [
  ⟨0, 0, 1, 0, 1, 32, [⟨0, 32, .ro, 0x37484b49, [], false⟩]⟩,
  ⟨4, 0, 1, 0, 1, 32, [⟨0, 32, .ro, 0x10000, [], false⟩]⟩,
  ⟨8, 0, 1, 0, 1, 32, [⟨0, 32, .ro, 0xd, [], false⟩]⟩,
  ⟨0xc, 0, 1, 0, 1, 32, [⟨0, 32, .ro, 0, [], false⟩]⟩]
/-- Register rows with the prefix GBL. -/
def descsGbl : List RegDesc := [
  ⟨0x10000, 0, 1, 0, 1, 32, [⟨0, 2, .ro, 0, [], false⟩, ⟨3, 1, .w1c, 0, [], false⟩, ⟨4, 3, .ro, 2, [], false⟩, ⟨8, 3, .ro, 3, [], false⟩, ⟨11, 1, .ro, 0, [], false⟩, ⟨12, 1, .ro, 0, [], false⟩, ⟨13, 1, .ro, 0, [], false⟩, ⟨14, 1, .ro, 0, [], false⟩, ⟨16, 2, .ro, 0, [], false⟩, ⟨24, 8, .ro, 0, [], false⟩]⟩,
  ⟨0x10008, 0, 1, 0, 1, 64, [⟨0, 64, .ro, 0, [], false⟩]⟩,
  ⟨0x10010, 0, 1, 0, 1, 32, [⟨0, 4, .ro, 0, [], false⟩]⟩,
  ⟨0x10014, 0, 1, 0, 1, 32, [⟨0, 1, .ro, 0, [], false⟩, ⟨8, 8, .ro, 0, [], false⟩, ⟨16, 1, .ro, 0, [], false⟩, ⟨17, 1, .ro, 0, [], false⟩, ⟨20, 12, .ro, 0, [], false⟩]⟩,
  ⟨0x10020, 0, 1, 0, 1, 32, [⟨0, 4, .ro, 0, [], false⟩]⟩,
  ⟨0x10024, 0, 1, 0, 1, 32, [⟨0, 4, .rw, 0, [], true⟩]⟩]
/-- Register rows with the prefix DB. -/
def descsDb : List RegDesc := [
  ⟨0x100000, 0x1000, 256, 0, 1, 32, [⟨0, 16, .wo, 0, [], true⟩]⟩,
  ⟨0x100004, 0x1000, 256, 0, 1, 32, [⟨0, 16, .wo, 0, [], true⟩]⟩,
  ⟨0x100008, 0x1000, 256, 0, 1, 32, [⟨0, 16, .ro, 0, [], false⟩]⟩,
  ⟨0x10000c, 0x1000, 256, 0, 1, 32, [⟨0, 16, .ro, 0, [], false⟩, ⟨16, 1, .ro, 1, [], false⟩]⟩,
  ⟨0x100010, 0x1000, 256, 0, 1, 32, [⟨0, 2, .ro, 0, [], false⟩, ⟨4, 1, .ro, 0, [], false⟩, ⟨5, 1, .ro, 0, [], false⟩, ⟨8, 7, .ro, 0, [], false⟩, ⟨16, 4, .ro, 0, [], false⟩]⟩,
  ⟨0x100018, 0x1000, 256, 0, 1, 64, [⟨0, 64, .ro, 0, [], false⟩]⟩,
  ⟨0x100020, 0x1000, 256, 0, 1, 64, [⟨0, 64, .ro, 0, [], false⟩]⟩,
  ⟨0x100028, 0x1000, 256, 0, 1, 64, [⟨0, 64, .ro, 0, [], false⟩]⟩,
  ⟨0x100030, 0x1000, 256, 0, 1, 32, [⟨0, 31, .ro, 0, [], false⟩, ⟨31, 1, .ro, 0, [], false⟩]⟩,
  ⟨0x100034, 0x1000, 256, 0, 1, 32, [⟨0, 1, .wo, 0, [], true⟩]⟩]
/-- Register rows with the prefix MBX. -/
def descsMbx : List RegDesc := [
  ⟨0x202000, 0x4000, 17, 0, 1, 32, [⟨0, 1, .wo, 0, [], true⟩]⟩,
  ⟨0x202004, 0x4000, 17, 0, 1, 32, [⟨0, 2, .ro, 3, [], false⟩, ⟨4, 1, .w1c, 0, [], false⟩, ⟨16, 16, .ro, 0, [], false⟩]⟩,
  ⟨0x202008, 0x4000, 17, 0, 1, 32, [⟨0, 32, .ro, 0, [], false⟩]⟩]
/-- Register rows with the prefix ATU. -/
def descsAtu1 : List RegDesc := [
  ⟨0x300000, 0, 1, 0, 1, 32, [⟨0, 1, .rw, 1, [], false⟩]⟩,
  ⟨0x300004, 0, 1, 0, 1, 32, [⟨0, 5, .ro, 0, [], false⟩, ⟨8, 1, .ro, 0, [], false⟩, ⟨16, 10, .ro, 0, [], false⟩]⟩,
  ⟨0x300008, 0, 1, 0, 1, 64, [⟨0, 64, .ro, 0, [], false⟩]⟩,
  ⟨0x300010, 0, 1, 0, 1, 64, [⟨0, 64, .ro, 0, [], false⟩]⟩,
  ⟨0x300018, 0, 1, 0, 1, 64, [⟨0, 64, .ro, 0, [], false⟩]⟩,
  ⟨0x300020, 0, 1, 0, 1, 64, [⟨0, 64, .ro, 0, [], false⟩]⟩,
  ⟨0x300028, 0, 1, 0, 1, 64, [⟨0, 64, .ro, 0, [], false⟩]⟩,
  ⟨0x300030, 0, 1, 0, 1, 32, [⟨0, 31, .ro, 0, [], false⟩, ⟨31, 1, .ro, 0, [], false⟩]⟩,
  ⟨0x300034, 0, 1, 0, 1, 32, [⟨0, 1, .wo, 0, [], true⟩]⟩,
  ⟨0x301000, 0x20, 64, 0, 1, 32, [⟨0, 1, .ro, 0, [], false⟩, ⟨1, 3, .ro, 0, [], false⟩, ⟨4, 2, .ro, 0, [], false⟩, ⟨8, 3, .ro, 0, [], false⟩, ⟨16, 16, .ro, 0, [], false⟩]⟩,
  ⟨0x301008, 0x20, 64, 0, 1, 64, [⟨0, 64, .ro, 0, [], false⟩]⟩,
  ⟨0x301010, 0x20, 64, 0, 1, 64, [⟨0, 64, .ro, 0, [], false⟩]⟩]
/-- Register rows with the prefix ATU. -/
def descsAtu2 : List RegDesc := [
  ⟨0x301018, 0x20, 64, 0, 1, 64, [⟨0, 64, .ro, 0, [], false⟩]⟩,
  ⟨0x302000, 8, 64, 0, 1, 64, [⟨0, 64, .w1c, 0, [], true⟩]⟩,
  ⟨0x303000, 0x20, 16, 0, 1, 32, [⟨0, 1, .ro, 0, [], false⟩, ⟨8, 8, .rw, 0x20, [(1, 255)], false⟩, ⟨16, 8, .ro, 0, [], false⟩, ⟨31, 1, .ro, 0, [], false⟩]⟩,
  ⟨0x303008, 0x20, 16, 0, 1, 64, [⟨0, 64, .ro, 0, [], false⟩]⟩,
  ⟨0x303010, 0x20, 16, 4, 4, 32, [⟨0, 20, .ro, 0, [], false⟩, ⟨31, 1, .ro, 0, [], false⟩]⟩]
/-- Register rows with the prefix HBR. -/
def descsHbr : List RegDesc := [
  ⟨0x340000, 0, 1, 0, 1, 32, [⟨0, 1, .w1c, 0, [], false⟩, ⟨1, 1, .w1c, 0, [], false⟩, ⟨2, 1, .w1c, 0, [], false⟩]⟩,
  ⟨0x340004, 0, 1, 0, 1, 32, [⟨0, 1, .rw, 0, [], true⟩]⟩,
  ⟨0x340008, 0, 1, 0, 1, 32, [⟨0, 31, .ro, 0, [], false⟩, ⟨31, 1, .ro, 0, [], false⟩]⟩,
  ⟨0x34000c, 0, 1, 0, 1, 32, [⟨0, 31, .ro, 0, [], false⟩, ⟨31, 1, .ro, 0, [], false⟩]⟩,
  ⟨0x340010, 0, 1, 0, 1, 32, [⟨0, 1, .wo, 0, [], true⟩, ⟨1, 1, .wo, 0, [], true⟩]⟩,
  ⟨0x340014, 0, 1, 0, 1, 32, [⟨0, 32, .ro, 0, [], false⟩]⟩,
  ⟨0x340018, 0, 1, 0, 1, 32, [⟨0, 4, .ro, 0, [], false⟩, ⟨8, 7, .ro, 0, [], false⟩, ⟨16, 9, .ro, 0, [], false⟩]⟩,
  ⟨0x340020, 0, 1, 0, 1, 64, [⟨0, 64, .ro, 0, [], false⟩]⟩,
  ⟨0x340028, 0, 1, 0, 1, 64, [⟨0, 64, .ro, 0, [], false⟩]⟩,
  ⟨0x340100, 4, 16, 0, 1, 32, [⟨0, 1, .rw, 0, [], false⟩, ⟨1, 1, .rw, 0, [], false⟩, ⟨2, 1, .rw, 0, [], false⟩]⟩,
  ⟨0x341000, 0x20, 16, 8, 4, 64, [⟨0, 64, .ro, 0, [], false⟩]⟩]
/-- Register rows with the prefix PBR. -/
def descsPbr : List RegDesc := [
  ⟨0x360000, 0, 1, 0, 1, 32, [⟨0, 1, .w1c, 0, [], false⟩, ⟨1, 1, .w1c, 0, [], false⟩]⟩,
  ⟨0x360008, 0, 1, 0, 1, 32, [⟨0, 31, .ro, 0, [], false⟩, ⟨31, 1, .ro, 0, [], false⟩]⟩,
  ⟨0x36000c, 0, 1, 0, 1, 32, [⟨0, 31, .ro, 0, [], false⟩, ⟨31, 1, .ro, 0, [], false⟩]⟩,
  ⟨0x360010, 0, 1, 0, 1, 32, [⟨0, 1, .wo, 0, [], true⟩, ⟨1, 1, .wo, 0, [], true⟩, ⟨2, 1, .wo, 0, [], true⟩]⟩,
  ⟨0x360014, 0, 1, 0, 1, 32, [⟨0, 32, .ro, 0, [], false⟩]⟩,
  ⟨0x360018, 0, 1, 0, 1, 32, [⟨0, 31, .ro, 0, [], false⟩, ⟨31, 1, .ro, 0, [], false⟩]⟩,
  ⟨0x361000, 0x20, 16, 8, 4, 64, [⟨0, 64, .ro, 0, [], false⟩]⟩]
/-- Register rows with the prefix EVT. -/
def descsEvt : List RegDesc := [
  ⟨0x380000, 0x100, 17, 0, 1, 64, [⟨12, 52, .rw, 0, [], false⟩]⟩,
  ⟨0x380008, 0x100, 17, 0, 1, 32, [⟨0, 5, .rw, 6, [(6, 16)], true⟩, ⟨8, 1, .rw, 0, [], true⟩, ⟨16, 9, .rw, 1, [], true⟩, ⟨28, 3, .rw, 2, [], true⟩]⟩,
  ⟨0x38000c, 0x100, 17, 0, 1, 32, [⟨0, 16, .rw, 0, [], true⟩]⟩,
  ⟨0x380010, 0x100, 17, 0, 1, 32, [⟨0, 16, .ro, 0, [], false⟩, ⟨16, 1, .ro, 1, [], false⟩]⟩,
  ⟨0x380014, 0x100, 17, 0, 1, 32, [⟨0, 31, .ro, 0, [], false⟩, ⟨31, 1, .ro, 0, [], false⟩]⟩,
  ⟨0x380018, 0x100, 17, 0, 1, 32, [⟨0, 1, .wo, 0, [], true⟩]⟩,
  ⟨0x38001c, 0x100, 17, 0, 1, 32, [⟨0, 1, .ro, 0, [], false⟩, ⟨1, 1, .ro, 0, [], false⟩, ⟨8, 7, .ro, 0, [], false⟩]⟩]
/-- Register rows with the prefix FRM. -/
def descsFrm : List RegDesc := [
  ⟨0x400000, 0x1000, 9, 0, 1, 32, [⟨0, 1, .rw, 1, [], false⟩, ⟨1, 1, .rw, 0, [], false⟩, ⟨2, 2, .rw, 0, [], false⟩, ⟨4, 2, .rw, 0, [], false⟩, ⟨8, 4, .rw, 3, [(2, 8)], false⟩, ⟨12, 4, .rw, 4, [(2, 15)], false⟩, ⟨16, 1, .rw, 1, [], false⟩, ⟨24, 8, .rw, 0, [], false⟩]⟩,
  ⟨0x400004, 0x1000, 9, 0, 1, 32, [⟨0, 6, .ro, 4, [], false⟩, ⟨8, 2, .ro, 0, [], false⟩, ⟨16, 8, .ro, 1, [], false⟩, ⟨24, 1, .ro, 0, [], false⟩, ⟨25, 1, .ro, 0, [], false⟩, ⟨28, 2, .ro, 0, [], false⟩]⟩,
  ⟨0x400008, 0x1000, 9, 0, 1, 32, [⟨0, 8, .ro, 0xff, [], false⟩, ⟨8, 8, .ro, 0, [], false⟩, ⟨16, 8, .ro, 0, [], false⟩, ⟨24, 8, .ro, 0, [], false⟩]⟩,
  ⟨0x40000c, 0x1000, 9, 0, 1, 32, [⟨0, 8, .wo, 0, [], true⟩]⟩,
  ⟨0x400010, 0x1000, 9, 4, 8, 32, [⟨0, 31, .ro, 0, [], false⟩, ⟨31, 1, .ro, 0, [], false⟩]⟩,
  ⟨0x400030, 0x1000, 9, 4, 8, 32, [⟨0, 31, .ro, 0, [], false⟩, ⟨31, 1, .ro, 0, [], false⟩]⟩,
  ⟨0x400050, 0x1000, 9, 0, 1, 32, [⟨0, 24, .ro, 0, [], false⟩]⟩,
  ⟨0x400058, 0x1000, 9, 0, 1, 64, [⟨0, 64, .ro, 0, [], false⟩]⟩,
  ⟨0x409000, 4, 4, 0, 1, 32, [⟨0, 4, .ro, 0, [], false⟩, ⟨4, 1, .ro, 0, [], false⟩, ⟨5, 1, .ro, 0, [], false⟩, ⟨8, 2, .rw, 0, [], false⟩, ⟨10, 1, .ro, 0, [], false⟩]⟩]
/-- Register rows with the prefix TWN. -/
def descsTwn1 : List RegDesc := [
  ⟨0x40a000, 0, 1, 0, 1, 32, [⟨0, 10, .rw, 0x1f4, [(0, 500)], false⟩]⟩,
  ⟨0x40a004, 0, 1, 0, 1, 32, [⟨0, 2, .ro, 0, [], false⟩, ⟨2, 2, .ro, 0, [], false⟩, ⟨4, 2, .ro, 0, [], false⟩, ⟨6, 1, .ro, 0, [], false⟩, ⟨7, 1, .ro, 0, [], false⟩, ⟨8, 1, .ro, 0, [], false⟩, ⟨9, 1, .ro, 0, [], false⟩, ⟨10, 1, .ro, 0, [], false⟩]⟩,
  ⟨0x40a008, 0, 1, 0, 1, 32, [⟨0, 32, .ro, 0, [], false⟩]⟩,
  ⟨0x40a00c, 0, 1, 0, 1, 32, [⟨0, 32, .ro, 0, [], false⟩]⟩,
  ⟨0x40a010, 0, 1, 0, 1, 64, [⟨0, 64, .ro, 0, [], false⟩]⟩,
  ⟨0x40a018, 0, 1, 0, 1, 64, [⟨0, 64, .ro, 0, [], false⟩]⟩,
  ⟨0x40a020, 0, 1, 0, 1, 32, [⟨0, 32, .ro, 0, [], false⟩]⟩,
  ⟨0x40a024, 0, 1, 0, 1, 32, [⟨0, 16, .ro, 0, [], false⟩]⟩,
  ⟨0x40a028, 0, 1, 0, 1, 32, [⟨0, 31, .ro, 0, [], false⟩, ⟨31, 1, .ro, 0, [], false⟩]⟩,
  ⟨0x40a02c, 0, 1, 0, 1, 32, [⟨0, 31, .ro, 0, [], false⟩, ⟨31, 1, .ro, 0, [], false⟩]⟩,
  ⟨0x40a030, 0, 1, 0, 1, 32, [⟨0, 1, .wo, 0, [], true⟩, ⟨1, 1, .wo, 0, [], true⟩]⟩,
  ⟨0x40a034, 0, 1, 0, 1, 32, [⟨0, 24, .ro, 0, [], false⟩]⟩]
/-- Register rows with the prefix TWN. -/
def descsTwn2 : List RegDesc := [
  ⟨0x40a400, 0x10, 64, 0, 1, 64, [⟨0, 9, .ro, 0, [], false⟩, ⟨12, 4, .ro, 0, [], false⟩, ⟨16, 1, .ro, 0, [], false⟩, ⟨32, 32, .ro, 0, [], false⟩]⟩,
  ⟨0x40a408, 0x10, 64, 0, 1, 64, [⟨0, 32, .ro, 0, [], false⟩]⟩]
/-- Register rows with the prefix SOR. -/
def descsSor1 : List RegDesc := [
  ⟨0x480000, 0, 1, 0, 1, 32, [⟨0, 2, .rw, 0, [], true⟩]⟩,
  ⟨0x480004, 0, 1, 0, 1, 32, [⟨0, 1, .ro, 0, [], false⟩, ⟨1, 1, .ro, 0, [], false⟩, ⟨2, 1, .ro, 0, [], false⟩, ⟨3, 1, .ro, 0, [], false⟩, ⟨8, 8, .ro, 0, [], false⟩, ⟨16, 16, .ro, 0, [], false⟩]⟩,
  ⟨0x480008, 0, 1, 0, 1, 32, [⟨0, 3, .rw, 0, [], true⟩, ⟨3, 1, .rw, 0, [], true⟩, ⟨4, 1, .rw, 0, [], true⟩]⟩,
  ⟨0x48000c, 0, 1, 0, 1, 32, [⟨0, 32, .rw, 0x3e8, [], false⟩]⟩,
  ⟨0x480010, 0, 1, 0, 1, 32, [⟨0, 32, .rw, 0, [], false⟩]⟩,
  ⟨0x480014, 0, 1, 0, 1, 32, [⟨0, 32, .ro, 0, [], false⟩]⟩,
  ⟨0x480018, 0, 1, 0, 1, 32, [⟨0, 1, .wo, 0, [], true⟩]⟩,
  ⟨0x48001c, 0, 1, 0, 1, 32, [⟨0, 31, .ro, 0, [], false⟩, ⟨31, 1, .ro, 0, [], false⟩]⟩,
  ⟨0x480020, 0, 1, 0, 1, 32, [⟨0, 32, .w1c, 0, [], false⟩]⟩,
  ⟨0x480024, 0, 1, 0, 1, 32, [⟨0, 7, .rw, 2, [(1, 80)], false⟩, ⟨8, 8, .rw, 0x19, [(5, 90)], false⟩]⟩,
  ⟨0x480028, 0, 1, 0, 1, 32, [⟨0, 1, .wo, 0, [], true⟩, ⟨1, 1, .wo, 0, [], true⟩]⟩,
  ⟨0x480100, 4, 8, 0, 1, 32, [⟨0, 1, .rw, 1, [], false⟩, ⟨4, 2, .rw, 0, [], false⟩, ⟨8, 4, .rw, 0, [], false⟩, ⟨12, 1, .rw, 0, [], false⟩]⟩]
/-- Register rows with the prefix SOR. -/
def descsSor2 : List RegDesc := [
  ⟨0x480200, 8, 32, 0, 1, 64, [⟨0, 2, .rw, 3, [], true⟩, ⟨2, 2, .rw, 0, [], true⟩, ⟨4, 2, .rw, 0, [(0, 2)], true⟩, ⟨6, 2, .rw, 0, [(0, 2)], true⟩]⟩,
  ⟨0x480400, 0x20, 4, 0, 1, 32, [⟨0, 1, .rw, 0, [], true⟩, ⟨1, 4, .rw, 0, [], true⟩, ⟨8, 3, .rw, 0, [], true⟩, ⟨12, 6, .rw, 0, [(0, 35)], true⟩, ⟨24, 5, .rw, 6, [(6, 24)], true⟩]⟩,
  ⟨0x480404, 0x20, 4, 0, 1, 32, [⟨0, 30, .rw, 0, [], false⟩]⟩,
  ⟨0x480408, 0x20, 4, 0, 1, 32, [⟨0, 32, .rw, 0, [], true⟩]⟩,
  ⟨0x48040c, 0x20, 4, 0, 1, 32, [⟨0, 31, .ro, 0, [], false⟩, ⟨31, 1, .ro, 0, [], false⟩]⟩,
  ⟨0x480500, 0x20, 8, 8, 4, 64, [⟨0, 16, .rwm, 0, [], true⟩, ⟨32, 16, .rwm, 0, [], true⟩]⟩]
/-- Register rows with the prefix LCH. -/
def descsLch1 : List RegDesc := [
  ⟨0x4c0000, 0, 1, 0, 1, 32, [⟨0, 1, .ro, 0, [], false⟩, ⟨1, 4, .ro, 0, [], false⟩, ⟨5, 2, .ro, 0, [], false⟩, ⟨7, 7, .ro, 0, [], false⟩, ⟨14, 1, .ro, 0, [], false⟩, ⟨16, 6, .ro, 0, [], false⟩]⟩,
  ⟨0x4c0004, 0, 1, 0, 1, 32, [⟨0, 16, .ro, 0, [], false⟩, ⟨16, 16, .ro, 0, [], false⟩]⟩,
  ⟨0x4c0008, 0, 1, 0, 1, 32, [⟨0, 16, .ro, 0, [], false⟩, ⟨16, 16, .ro, 0, [], false⟩]⟩,
  ⟨0x4c000c, 0, 1, 0, 1, 32, [⟨0, 32, .ro, 0, [], false⟩]⟩,
  ⟨0x4c0010, 0, 1, 0, 1, 32, [⟨0, 32, .ro, 0, [], false⟩]⟩,
  ⟨0x4c0014, 0, 1, 0, 1, 32, [⟨0, 31, .ro, 0, [], false⟩, ⟨31, 1, .ro, 0, [], false⟩]⟩,
  ⟨0x4c0018, 0, 1, 0, 1, 32, [⟨0, 31, .ro, 0, [], false⟩, ⟨31, 1, .ro, 0, [], false⟩]⟩,
  ⟨0x4c001c, 0, 1, 0, 1, 32, [⟨0, 24, .ro, 0, [], false⟩]⟩,
  ⟨0x4c0020, 0, 1, 0, 1, 32, [⟨0, 24, .ro, 0, [], false⟩]⟩,
  ⟨0x4c0024, 0, 1, 0, 1, 32, [⟨0, 1, .wo, 0, [], true⟩, ⟨1, 1, .wo, 0, [], true⟩]⟩,
  ⟨0x4c0100, 0, 1, 0, 1, 32, [⟨0, 1, .ro, 0, [], false⟩, ⟨1, 1, .ro, 0, [], false⟩, ⟨2, 1, .ro, 0, [], false⟩, ⟨3, 1, .ro, 0, [], false⟩, ⟨4, 1, .ro, 0, [], false⟩, ⟨5, 1, .ro, 0, [], false⟩, ⟨8, 5, .ro, 0, [], false⟩, ⟨16, 6, .ro, 0, [], false⟩, ⟨24, 8, .ro, 0, [], false⟩]⟩,
  ⟨0x4c0104, 0, 1, 0, 1, 32, [⟨0, 20, .ro, 0, [], false⟩]⟩]
/-- Register rows with the prefix LCH. -/
def descsLch2 : List RegDesc := [
  ⟨0x4c0108, 0, 1, 0, 1, 64, [⟨0, 64, .ro, 0, [], false⟩]⟩,
  ⟨0x4c0110, 0, 1, 0, 1, 32, [⟨0, 16, .ro, 0, [], false⟩, ⟨16, 1, .ro, 0, [], false⟩, ⟨17, 1, .ro, 0, [], false⟩]⟩,
  ⟨0x4c0114, 0, 1, 0, 1, 32, [⟨0, 3, .ro, 0, [], false⟩, ⟨3, 1, .ro, 0, [], false⟩, ⟨4, 1, .ro, 0, [], false⟩]⟩,
  ⟨0x4c0118, 0, 1, 0, 1, 32, [⟨0, 32, .ro, 0, [], false⟩]⟩,
  ⟨0x4c011c, 0, 1, 0, 1, 32, [⟨0, 32, .ro, 0, [], false⟩]⟩,
  ⟨0x4c0120, 0, 1, 0, 1, 32, [⟨0, 24, .ro, 0, [], false⟩]⟩,
  ⟨0x4c0124, 0, 1, 0, 1, 32, [⟨0, 24, .ro, 0, [], false⟩]⟩,
  ⟨0x4c0128, 0, 1, 0, 1, 32, [⟨0, 24, .ro, 0, [], false⟩]⟩,
  ⟨0x4c012c, 0, 1, 0, 1, 32, [⟨0, 32, .ro, 0, [], false⟩]⟩]
/-- Register rows with the prefix TIM. -/
def descsTim : List RegDesc := [
  ⟨0x500000, 0, 1, 0, 1, 64, [⟨0, 64, .ro, 0, [], false⟩]⟩,
  ⟨0x500008, 0, 1, 0, 1, 32, [⟨0, 32, .ro, 0, [], false⟩]⟩,
  ⟨0x50000c, 0, 1, 0, 1, 32, [⟨0, 1, .wo, 0, [], true⟩]⟩,
  ⟨0x500010, 0, 1, 0, 1, 64, [⟨0, 64, .ro, 0, [], false⟩]⟩,
  ⟨0x500018, 0, 1, 0, 1, 32, [⟨0, 32, .ro, 0, [], false⟩]⟩]
/-- Register rows with the prefix TEL. -/
def descsTel : List RegDesc := [
  ⟨0x600000, 0, 1, 0, 1, 32, [⟨0, 3, .rw, 1, [(1, 5)], true⟩, ⟨4, 3, .rw, 5, [(1, 5)], true⟩]⟩,
  ⟨0x600004, 0, 1, 0, 1, 32, [⟨0, 3, .ro, 0, [], false⟩, ⟨4, 3, .ro, 0, [], false⟩, ⟨8, 1, .ro, 0, [], false⟩, ⟨9, 1, .w1c, 0, [], false⟩, ⟨10, 2, .ro, 1, [], false⟩, ⟨16, 8, .ro, 0, [], false⟩]⟩,
  ⟨0x600008, 0, 1, 0, 1, 32, [⟨0, 4, .rw, 6, [(0, 10)], true⟩, ⟨8, 1, .wo, 0, [], true⟩, ⟨9, 1, .wo, 0, [], true⟩]⟩,
  ⟨0x60000c, 0, 1, 0, 1, 32, [⟨0, 31, .ro, 0, [], false⟩, ⟨31, 1, .ro, 0, [], false⟩]⟩,
  ⟨0x600100, 4, 16, 0, 1, 32, [⟨0, 16, .rw, 0, [], true⟩, ⟨16, 1, .rw, 0, [], true⟩, ⟨17, 1, .ro, 0, [], false⟩, ⟨18, 1, .w1c, 0, [], false⟩]⟩,
  ⟨0x600200, 4, 64, 0, 1, 32, [⟨0, 16, .ro, 0, [], false⟩, ⟨16, 8, .ro, 0, [], false⟩, ⟨31, 1, .ro, 0, [], false⟩]⟩,
  ⟨0x600300, 4, 64, 0, 1, 32, [⟨0, 16, .ro, 0xffff, [], false⟩, ⟨31, 1, .ro, 0, [], false⟩]⟩]
/-- Register rows with the prefix FAB. -/
def descsFab : List RegDesc := [
  ⟨0x601000, 4, 64, 0, 1, 32, [⟨0, 4, .ro, 0, [], false⟩, ⟨4, 1, .ro, 0, [], false⟩]⟩,
  ⟨0x601100, 4, 16, 0, 1, 32, [⟨0, 16, .rw, 0, [], false⟩, ⟨16, 1, .ro, 0, [], false⟩, ⟨17, 1, .w1c, 0, [], false⟩]⟩,
  ⟨0x601200, 4, 64, 0, 1, 32, [⟨0, 31, .ro, 0, [], false⟩, ⟨31, 1, .ro, 0, [], false⟩]⟩,
  ⟨0x601300, 4, 64, 0, 1, 32, [⟨0, 31, .ro, 0, [], false⟩, ⟨31, 1, .ro, 0, [], false⟩]⟩,
  ⟨0x601400, 4, 64, 0, 1, 32, [⟨0, 31, .ro, 0, [], false⟩, ⟨31, 1, .ro, 0, [], false⟩]⟩,
  ⟨0x601500, 0, 1, 0, 1, 32, [⟨0, 1, .wo, 0, [], true⟩, ⟨1, 1, .wo, 0, [], true⟩, ⟨2, 1, .wo, 0, [], true⟩, ⟨3, 1, .wo, 0, [], true⟩]⟩,
  ⟨0x601504, 0, 1, 0, 1, 32, [⟨0, 31, .ro, 0, [], false⟩, ⟨31, 1, .ro, 0, [], false⟩]⟩,
  ⟨0x601508, 0, 1, 0, 1, 32, [⟨0, 32, .w1c, 0, [], true⟩]⟩,
  ⟨0x601600, 8, 32, 0, 1, 64, [⟨0, 32, .rw, 0, [], true⟩, ⟨32, 1, .rw, 0, [], true⟩, ⟨33, 3, .rw, 0, [], true⟩, ⟨36, 4, .rw, 0, [], true⟩, ⟨40, 8, .rw, 0, [], true⟩, ⟨48, 6, .rw, 0, [], true⟩]⟩,
  ⟨0x601700, 4, 32, 0, 1, 32, [⟨0, 31, .ro, 0, [], false⟩, ⟨31, 1, .ro, 0, [], false⟩]⟩]
/-- Register rows with the prefix SLC. -/
def descsSlc1 : List RegDesc := [
  ⟨0x700000, 0x1000, 8, 0, 1, 32, [⟨0, 2, .ro, 1, [], false⟩, ⟨8, 8, .ro, 0, [], false⟩, ⟨16, 1, .ro, 0, [], false⟩]⟩,
  ⟨0x700004, 0x1000, 8, 0, 1, 32, [⟨0, 4, .rw, 8, [(1, 15)], false⟩, ⟨4, 4, .rw, 4, [(1, 15)], false⟩, ⟨8, 4, .rw, 4, [(1, 15)], false⟩, ⟨12, 4, .rw, 2, [(1, 15)], false⟩, ⟨16, 4, .rw, 2, [(1, 15)], false⟩]⟩,
  ⟨0x700008, 0x1000, 8, 0, 1, 32, [⟨0, 8, .rw, 0x18, [(1, 168)], false⟩, ⟨8, 1, .rw, 1, [], false⟩]⟩,
  ⟨0x70000c, 0x1000, 8, 0, 1, 32, [⟨0, 31, .ro, 0, [], false⟩, ⟨31, 1, .ro, 0, [], false⟩]⟩,
  ⟨0x700010, 0x1000, 8, 0, 1, 32, [⟨0, 31, .ro, 0, [], false⟩, ⟨31, 1, .ro, 0, [], false⟩]⟩,
  ⟨0x700014, 0x1000, 8, 0, 1, 32, [⟨0, 16, .rw, 0x3e8, [], false⟩]⟩,
  ⟨0x700018, 0x1000, 8, 0, 1, 64, [⟨0, 36, .ro, 0, [], false⟩]⟩,
  ⟨0x700020, 0x1000, 8, 0, 1, 64, [⟨0, 36, .ro, 0, [], false⟩, ⟨63, 1, .w1c, 0, [], false⟩]⟩,
  ⟨0x700028, 0x1000, 8, 0, 1, 32, [⟨0, 24, .ro, 0, [], false⟩]⟩,
  ⟨0x70002c, 0x1000, 8, 0, 1, 32, [⟨0, 1, .wo, 0, [], true⟩, ⟨1, 1, .wo, 0, [], true⟩]⟩,
  ⟨0x708000, 4, 288, 0, 1, 32, [⟨0, 4, .ro, 0, [], false⟩, ⟨4, 1, .ro, 0, [], false⟩, ⟨5, 1, .ro, 0, [], false⟩]⟩,
  ⟨0x709000, 4, 256, 0, 1, 32, [⟨0, 9, .rw, 0, [(0, 287)], false⟩, ⟨15, 1, .rw, 0, [], false⟩]⟩]
/-- Register rows with the prefix SLC. -/
def descsSlc2 : List RegDesc := [
  ⟨0x70a000, 0x40, 15, 4, 16, 32, [⟨0, 9, .rw, 0, [(0, 287)], true⟩, ⟨15, 1, .rw, 0, [], true⟩]⟩]
/-- Register rows with the prefix KVC. -/
def descsKvc1 : List RegDesc := [
  ⟨0x710000, 0x1000, 8, 0, 1, 64, [⟨0, 64, .ro, 0, [], false⟩]⟩,
  ⟨0x710008, 0x1000, 8, 0, 1, 64, [⟨0, 64, .ro, 0, [], false⟩]⟩,
  ⟨0x710010, 0x1000, 8, 0, 1, 64, [⟨0, 64, .ro, 0, [], false⟩]⟩,
  ⟨0x710018, 0x1000, 8, 0, 1, 32, [⟨0, 31, .ro, 0, [], false⟩, ⟨31, 1, .ro, 0, [], false⟩]⟩,
  ⟨0x71001c, 0x1000, 8, 0, 1, 32, [⟨0, 31, .ro, 0, [], false⟩, ⟨31, 1, .ro, 0, [], false⟩]⟩,
  ⟨0x710020, 0x1000, 8, 0, 1, 32, [⟨0, 31, .ro, 0, [], false⟩, ⟨31, 1, .ro, 0, [], false⟩]⟩,
  ⟨0x710024, 0x1000, 8, 0, 1, 32, [⟨0, 1, .wo, 0, [], true⟩, ⟨1, 1, .wo, 0, [], true⟩, ⟨2, 1, .wo, 0, [], true⟩]⟩,
  ⟨0x710028, 0x1000, 8, 0, 1, 64, [⟨0, 48, .ro, 0, [], false⟩, ⟨63, 1, .w1c, 0, [], false⟩]⟩,
  ⟨0x710100, 0x1000, 8, 0x20, 16, 32, [⟨0, 1, .rw, 0, [], true⟩, ⟨1, 4, .rw, 0, [], false⟩, ⟨5, 2, .rw, 0, [], false⟩, ⟨8, 4, .rw, 0, [], false⟩, ⟨12, 6, .rw, 0, [(0, 35)], false⟩, ⟨18, 6, .rw, 0, [(1, 36)], false⟩]⟩,
  ⟨0x710108, 0x1000, 8, 0x20, 16, 64, [⟨0, 34, .rw, 0, [], false⟩, ⟨40, 24, .rw, 0, [(1, 16777215)], false⟩]⟩,
  ⟨0x710110, 0x1000, 8, 0x20, 16, 64, [⟨0, 34, .rw, 0, [], false⟩]⟩,
  ⟨0x710118, 0x1000, 8, 0x20, 16, 64, [⟨0, 34, .rw, 0, [], false⟩]⟩]
/-- Register rows with the prefix KVC. -/
def descsKvc2 : List RegDesc := [
  ⟨0x710800, 0x1000, 8, 4, 128, 32, [⟨0, 32, .rw, 0, [], true⟩]⟩]
/-- Register rows with the prefix DBG. -/
def descsDbg : List RegDesc := [
  ⟨0x1000000, 0, 1, 0, 1, 32, [⟨0, 16, .ro, 0, [], false⟩]⟩,
  ⟨0x1000004, 0, 1, 0, 1, 32, [⟨0, 1, .w1c, 0, [], false⟩, ⟨1, 1, .w1c, 0, [], false⟩, ⟨2, 1, .ro, 0, [], false⟩, ⟨3, 1, .ro, 0, [], false⟩]⟩,
  ⟨0x1000010, 4, 16, 0, 1, 32, [⟨0, 31, .ro, 0, [], false⟩, ⟨31, 1, .ro, 0, [], false⟩]⟩,
  ⟨0x1000050, 0, 1, 0, 1, 32, [⟨0, 31, .ro, 0, [], false⟩, ⟨31, 1, .ro, 0, [], false⟩]⟩,
  ⟨0x1000054, 0, 1, 0, 1, 32, [⟨0, 1, .wo, 0, [], true⟩, ⟨1, 1, .wo, 0, [], true⟩]⟩]
/-- Register rows with the prefix GBLVF. -/
def descsGblvf : List RegDesc := [
  ⟨0x10001000, 0x10000000, 15, 0, 1, 32, [⟨0, 2, .ro, 0, [], false⟩, ⟨2, 1, .ro, 0, [], false⟩, ⟨3, 1, .ro, 0, [], false⟩, ⟨4, 1, .ro, 0, [], false⟩, ⟨5, 1, .ro, 0, [], false⟩]⟩,
  ⟨0x10001004, 0x10000000, 15, 0, 1, 32, [⟨0, 1, .w1c, 0, [], false⟩, ⟨1, 1, .w1c, 0, [], false⟩, ⟨2, 1, .w1c, 0, [], false⟩, ⟨3, 1, .w1c, 0, [], false⟩]⟩,
  ⟨0x10001008, 0x10000000, 15, 0, 1, 32, [⟨0, 4, .rw, 0, [], true⟩]⟩,
  ⟨0x10001010, 0x10000000, 15, 0, 1, 64, [⟨0, 64, .ro, 0, [], false⟩]⟩]

/-- The register rows of the whole part. -/
def regDescs : List RegDesc :=
  descsDir ++
  descsGbl ++
  descsDb ++
  descsMbx ++
  descsAtu1 ++
  descsAtu2 ++
  descsHbr ++
  descsPbr ++
  descsEvt ++
  descsFrm ++
  descsTwn1 ++
  descsTwn2 ++
  descsSor1 ++
  descsSor2 ++
  descsLch1 ++
  descsLch2 ++
  descsTim ++
  descsTel ++
  descsFab ++
  descsSlc1 ++
  descsSlc2 ++
  descsKvc1 ++
  descsKvc2 ++
  descsDbg ++
  descsGblvf

/-- Whether key `k` is one of the registers of a row. -/
def RegDesc.covers (d : RegDesc) (k : Nat) : Bool :=
  decide (d.base ≤ k) &&
    (let r := k - d.base
     if d.stride1 = 0 then r == 0
     else
       let i := r / d.stride1
       let q := r % d.stride1
       decide (i < d.count1) &&
         (if d.stride2 = 0 then q == 0 else q % d.stride2 == 0 && decide (q / d.stride2 < d.count2)))

/-- The row of the register at key `k`, where the map has one. -/
def findDesc (k : Nat) : Option RegDesc :=
  regDescs.find? (fun d => d.covers k)

/-- The keys of every register of a row. -/
def RegDesc.keys (d : RegDesc) : List Nat :=
  (List.range d.count1).flatMap fun i => (List.range d.count2).map fun j => d.base + d.stride1 * i + d.stride2 * j

/-- The `w` bits of `x` from bit `lo`. -/
def getBits (x : Dword) (lo w : Nat) : Nat := (x.toNat >>> lo) % 2 ^ w

/-- `x` with the `w` bits from bit `lo` replaced by the low bits of `v`. -/
def setBits (x : Dword) (lo w v : Nat) : Dword :=
  let mask : Dword := BitVec.ofNat 64 ((2 ^ w - 1) <<< lo)
  (x &&& ~~~mask) ||| (BitVec.ofNat 64 ((v % 2 ^ w) <<< lo))

/-- The Reset column of a row, as one word. -/
def RegDesc.resetVal (d : RegDesc) : Dword :=
  d.fields.foldl (fun x f => setBits x f.lo f.w f.reset) 0

/-- The reset values of every register whose Reset column is not zero, in rising order of key: unlisted registers reset to zero.
LCH_LIFECYCLE and LCH_LOG_SEQ show what NVM holds (DESIGN CHOICE, notes/assumptions/22.md).
The vectors of ring 0 and of the other rings (R386), and the widths and lanes of the twin and the stream ports (R723), differ within one row. -/
def resetRegs : Tab Dword :=
  [(DIR_MAGIC, 0x37484B49), (DIR_VERSION, 0x10000), (DIR_COUNT, 13), (GBL_STATUS, 0x320)] ++
  (List.range 256).map (fun q => (DB_CQ_TAIL q, 0x10000)) ++
  (List.range 17).map (fun m => (MBX_STATUS m, 3)) ++
  [(ATU_CTRL, 1)] ++
  (List.range 16).map (fun h => (ATU_HEDGE h, 0x2000)) ++
  (List.range 17).flatMap (fun r => [(EVT_CFG r, if r = 0 then 0x20020006 else 0x20010006), (EVT_TAIL r, 0x10000)]) ++
  (List.range 9).flatMap (fun p =>
    [(FRM_CTRL p, if p = 0 then 0x1430D else 0x14301), (FRM_STATUS p, if p = 0 then 0xFF0304 else 0x10004), (FRM_LANES p, 0xFF)]) ++
  [(TWN_CTRL, 0x1F4), (SOR_TRIG_PERIOD, 0x3E8), (SOR_OW_CTRL, 0x1902)] ++
  (List.range 8).map (fun k => (SOR_CONV k, 1)) ++
  (List.range 32).map (fun c => (SOR_CH c, 3)) ++
  (List.range 4).map (fun r => (SOR_RING_CFG r, 0x6000000)) ++ [(LCH_LIFECYCLE, 1), (LCH_LOG_SEQ, 1)] ++
  [(TEL_VL_CTRL, 0x51), (TEL_VL_STATUS, 0x400), (TEL_TEMPO_CTRL, 6)] ++
  (List.range 64).map (fun b => (TEL_TEMPO_MIN b, 0xFFFF)) ++
  (List.range 8).flatMap (fun n =>
    [(SLC_STATUS n, 1), (SLC_SHARE n, 0x22448), (SLC_SCRUB n, 0x118), (SLC_CE_LIMIT n, 0x3E8)])

/-- The Lichen proxy registers: no host reset changes them (R333). -/
def isLichenKey (k : Nat) : Bool := decide (0x4C0000 ≤ k) && decide (k < 0x500000)

/-- The registers that show Class E counters kept through every reset (R23, R332). -/
def isClassEKey (k : Nat) : Bool :=
  (k == TWN_FAILOVERS) || (List.range 8).any (fun n => k == SLC_TRAIN_COUNT n) || (List.range 9).any (fun p => k == FRM_RETRAINS p)

/-- The registers that a fundamental or hot reset keeps: the Lichen die's, Class E counters, and the boot-control record held in NVM (R332, R333). -/
def keptByHostReset (k : Nat) : Bool := isLichenKey k || isClassEKey k || k == GBL_BOOT

end Sys2Proof.Machine
end

