-- ==== Sys2Proof/Machine/State.lean ====
section
/-!
DEFINITION. Sys2Proof/Machine/State.lean: the state of the part, and the state right after reset.
The state is the queue of waiting commands and the device; the device is the contents of the memory stacks and the part, and the part is everything else.
-/

namespace Sys2Proof.Machine

open Sys2Proof

/-- No command of this part ends in a fault: what the manual calls a failure is an effect on the state (R38), so this type has no constructor that a meaning raises. -/
inductive Fault where
  /-- Raised by no meaning; it stands so that the type is inhabited. Safe: nothing ends in it. -/
  | none
  deriving DecidableEq, Repr

/-- The reasons for which a command is refused. -/
inductive Refusal where
  /-- The command has no meaning yet. Safe: the run stops. -/
  | notModelled (mnemonic : String)
  deriving DecidableEq, Repr

/-- Everything but the memory stacks and the queue of commands. -/
structure Part where
  /-- Device time in nanoseconds, 64 bits (R9, R389). -/
  time : Nat := 0
  /-- The nanoseconds that passed before the present device time began (R389): the clocks of the Lichen die run on through every reset. -/
  past : Nat := 0
  /-- The model's own count of free values drawn (DESIGN CHOICE, notes/assumptions/4.md). -/
  free : Nat := 0
  /-- The register file: every register of the manual's tables by its key (R11, R27). -/
  regs : Tab Dword := resetRegs
  /-- The holding register of each access path (R25), once a low word was read on it. -/
  hold : Tab (Option Nat) := []
  /-- What the part has sent, oldest first; a model record. -/
  out : List Out := []
  /-- The queue of each event ring (R375). -/
  rings : Tab RingQ := []
  /-- The next SEQ of each event source (R378). -/
  seqs : Tab Nat := []
  /-- Operating points and cadence guard. -/
  vl : Vl := {}
  /-- Events raised in the present second by rate-limited codes, and whether some were withheld since the last one (R493, R522). -/
  perSec : Tab (Nat × Bool) := []
  /-- The hedges (R514). -/
  hedges : Tab Hedge := []
  /-- The PCI Express and CXL endpoint. -/
  ep : Ep := {}
  /-- The Thicket die: fronds, mesh, gateway and hub. -/
  fab : Fab := {}
  /-- The memory slices and the KV codec. -/
  slc : Slices := {}
  /-- Translation, bridges, queue pairs and mailboxes. -/
  hs : HostSide := {}
  /-- The twin function. -/
  tw : Twin := {}
  /-- Debug access, trace and profile. -/
  dbg : Debug := {}
  /-- Sorus acquisition. -/
  sor : Sorus := {}
  /-- The Lichen loop domain. -/
  loop : Loop := {}
  /-- The Lichen core domain. -/
  core : Core := {}
  /-- The Denben ports. -/
  den : Denben := {}
  /-- Bring-up. -/
  boot : Boot := {}
  deriving DecidableEq, Repr

/-- The device: the memory stacks, and the part around them. -/
structure Dev where
  /-- The bytes of the memory stacks: plot p of the part begins at p × 2^30 (R211); unlisted bytes read zero (R234). -/
  mem : List Host.Cell := []
  p : Part := {}
  deriving DecidableEq, Repr

/-- The machine: the device, and the commands that wait, first in first out. -/
structure State where
  dev : Dev := {}
  pending : List Instr := []
  deriving DecidableEq, Repr

/-- The machine right after reset: every register at its Reset column, nothing waiting. -/
def State.reset : State := {}

end Sys2Proof.Machine
end

