-- ==== Sys2Proof/Machine/Ops.lean ====
section
/-!
DEFINITION. Sys2Proof/Machine/Ops.lean: the named operations over registers, counters, events and interrupts that every family uses.
-/

namespace Sys2Proof.Machine

open Sys2Proof

/-! ### Registers and fields (R11) -/

/-- The word that the register at key `k` holds. -/
def Part.reg (p : Part) (k : Nat) : Dword := Tab.get 0 k p.regs

/-- The register at key `k` set to a word. -/
def Part.setReg (p : Part) (k : Nat) (v : Dword) : Part := { p with regs := Tab.put 0 k v p.regs }

/-- The value of a field. -/
def Part.fg (p : Part) (f : Fld) : Nat := getBits (p.reg f.reg) f.lo f.w

/-- A field set by the part. -/
def Part.fs (p : Part) (f : Fld) (v : Nat) : Part := p.setReg f.reg (setBits (p.reg f.reg) f.lo f.w v)

/-- A one-bit field as a truth value. -/
def Part.flag (p : Part) (f : Fld) : Bool := p.fg f == 1

/-- A one-bit field set to a truth value. -/
def Part.setFlag (p : Part) (f : Fld) (b : Bool) : Part := p.fs f (if b then 1 else 0)

/-- Something leaves the part. -/
def Part.emit (p : Part) (o : Out) : Part := { p with out := p.out ++ [o] }

/-- Device time set to `t` where `t` lies later (R389: it never steps back). -/
def Part.setTime (p : Part) (t : Nat) : Part := { p with time := max p.time t % 2 ^ 64 }

/-- The clock that no reset of the Quickset die restarts. -/
def Part.clock (p : Part) : Nat := p.past + p.time

/-! ### Free values (DESIGN CHOICE, notes/assumptions/4.md) -/

/-- The next free value, reduced below `n`, and the part with the draw counted. -/
def Part.draw (p : Part) (n : Nat) : Nat × Part :=
  ((Config.freeValue p.free).toNat % n, { p with free := p.free + 1 })

/-- One item of a list that the manual leaves equally eligible; the draw is counted only when there is a choice. -/
def Part.choose {α : Type} (p : Part) (d : α) (l : List α) : α × Part :=
  match l with
  | [] => (d, p)
  | [a] => (a, p)
  | _ => (l.getD (Config.pick p.free % l.length) d, { p with free := p.free + 1 })

/-! ### Counters (R19 to R23) -/

/-- A Class S counter of 31 bits with its SAT bit in bit 31 counts `n`: it sticks at its maximum and sets SAT (R19). -/
def Part.addS (p : Part) (reg n : Nat) : Part :=
  let v := p.fg ⟨reg, 0, 31⟩ + n
  if v < 2 ^ 31 - 1 then p.fs ⟨reg, 0, 31⟩ v
  else (p.fs ⟨reg, 0, 31⟩ (2 ^ 31 - 1)).fs ⟨reg, 31, 1⟩ 1

/-- A Class S counter counts one. -/
def Part.incS (p : Part) (reg : Nat) : Part := p.addS reg 1

/-- The explicit clear of a Class S counter and its SAT bit (R19). -/
def Part.clrS (p : Part) (reg : Nat) : Part := p.setReg reg 0

/-- The explicit clear of a Class S counter with its SAT bit in one access; an increment that falls in the same access counts into the cleared counter, which then reads 1 (R19, R21). -/
def Part.clrHit (p : Part) (reg : Nat) (hit : Bool) : Part := p.setReg reg (if hit then 1 else 0)

/-- What a field of W1C bits becomes when ones are written to it: a bit that the part sets in the same access stays set (R11, R12). -/
def w1cNew (cur ones coin : Nat) : Nat := (cur - (cur &&& ones)) ||| (ones &&& coin)

/-- A Class W counter counts `n` and wraps at its width (R19). -/
def Part.addW (p : Part) (f : Fld) (n : Nat) : Part := p.fs f ((p.fg f + n) % 2 ^ f.w)

/-! ### Hedges -/

/-- Hedge `h` as the part holds it. -/
def Part.hedge (p : Part) (h : Nat) : Hedge := Tab.get {} h p.hedges

/-- Hedge `h` with a change. -/
def Part.updHedge (p : Part) (h : Nat) (f : Hedge → Hedge) : Part := { p with hedges := Tab.upd {} h f p.hedges }

/-- Hedge 0 always exists (R393); the others as they were created. -/
def Part.hedgeExists (p : Part) (h : Nat) : Bool := h == 0 || (p.hedge h).exist

/-! ### Events (R372 to R382, R430) -/

/-- The operator ring (R372). -/
def opRing : Nat := 16

/-- The fixed severity of an event code (R430); frond event codes are NOTICE. -/
def severity (code : Nat) : Nat :=
  if code ∈ [0x0107, 0x0111, 0x0403, 0x0902, 0x0903, 0x0D02, 0x0F01] then 0
  else if (0x0180 ≤ code ∧ code ≤ 0x01BF) ∨ code ∈ [0x0109, 0x0212, 0x0402, 0x0503, 0x0701, 0x0B04, 0x0B05, 0x0C04, 0x0D03, 0x0D04, 0x0E06, 0x0F04] then 1
  else if code ∈ [0x0105, 0x0106, 0x0108, 0x0110, 0x0202, 0x0204, 0x0205, 0x0220, 0x0221, 0x0302, 0x0303, 0x0304, 0x0401, 0x0501, 0x0502, 0x0504, 0x0601, 0x0602, 0x0801, 0x0901, 0x0A01, 0x0A03, 0x0B03, 0x0C05, 0x0D01, 0x0E03, 0x0F02] then 2
  else if code ∈ [0x0113, 0x0211, 0x0C01, 0x0C03, 0x0E04, 0x0E05, 0x0E07] then 4
  else 3

/-- The queue of ring `r`. -/
def Part.ring (p : Part) (r : Nat) : RingQ := Tab.get {} r p.rings

/-- Ring `r` with a change to its queue. -/
def Part.updRing (p : Part) (r : Nat) (f : RingQ → RingQ) : Part := { p with rings := Tab.upd {} r f p.rings }

/-- The size of ring `r` (R374). -/
def Part.ringSize (p : Part) (r : Nat) : Nat := 2 ^ p.fg (EVT_CFG_SIZE_LOG2 r)

/-- The free entries of ring `r`: it never holds more than its size − 1 unread records (R374). -/
def Part.ringFree (p : Part) (r : Nat) : Nat :=
  let n := p.ringSize r
  n - 1 - (p.fg (EVT_TAIL_TAIL r) + n - p.fg (EVT_HEAD_HEAD r) % n) % n

/-- Whether ring `r` takes records: it is enabled, and a hedge ring's hedge exists (R376). -/
def Part.ringOpen (p : Part) (r : Nat) : Bool :=
  p.flag (EVT_CFG_ENABLE r) && (r == opRing || p.hedgeExists r)

/-- The next SEQ of a source. -/
def Part.seqOf (p : Part) (src : Nat) : Nat := Tab.get 0 src p.seqs

/-- A record is lost to ring `r`: it is counted, and the next record carries LOST (R375, R376).
The answer says whether the loss is the first after a written record. -/
def Part.loseRec (p : Part) (r : Nat) : Bool × Part :=
  let q := p.ring r
  (q.wrote, (p.incS (EVT_LOST r)).updRing r fun q => { q with lostNext := true, wrote := false })

/-- A record joins the queue of ring `r`, which takes as many as the ring has free entries and 64 more (R375).
The answer says whether RING_OVERFLOW is due (R376). -/
def Part.queueRec (p : Part) (r : Nat) (e : EvRec) : Bool × Part :=
  if p.ringOpen r && decide ((p.ring r).held.length < p.ringFree r + 64) then
    (false, p.updRing r fun q => { q with held := q.held ++ [e] })
  else
    let (first, p) := p.loseRec r
    (first && r != opRing, p)

/-- The mark of an event whose detail the manual does not lay out: the record carries a free value (DEDUCED, notes/assumptions/18.md). -/
def noDetail : Nat := 2 ^ 64

/-- Source `src` numbers one record and stamps it (R378, R381). -/
def Part.mkRec (p : Part) (src code : Nat) (hedge : Option Nat) (detail : Nat) : EvRec × Part :=
  let (detail, p) := if detail = noDetail then p.draw (2 ^ 64) else (detail, p)
  let n := p.seqOf src
  (⟨src, code, n, p.time, severity code, hedge, detail % 2 ^ 64⟩,
   { p with seqs := Tab.put 0 src ((n + 1) % 2 ^ 32) p.seqs })

/-- RING_OVERFLOW (0x0602) for hedge ring `r` to the operator ring (R376). -/
def Part.raiseOverflow (p : Part) (r : Nat) : Part :=
  let (e, p) := p.mkRec 0x0601 0x0602 none r
  (p.queueRec opRing e).2

/-- A record goes to one ring, with RING_OVERFLOW where it is due. -/
def Part.deliverRec (p : Part) (e : EvRec) (r : Nat) : Part :=
  let (ovf, p) := p.queueRec r e
  if ovf then p.raiseOverflow r else p

/-- An event of source `src` to the rings named: one record, one SEQ, in each of them (R378). -/
def Part.raise (p : Part) (src code : Nat) (hedge : Option Nat) (detail : Nat) (rings : List Nat) : Part :=
  let (e, p) := p.mkRec src code hedge detail
  rings.foldl (fun p r => p.deliverRec e r) p

/-- An event to the operator ring. -/
def Part.raiseOp (p : Part) (src code : Nat) (hedge : Option Nat) (detail : Nat) : Part :=
  p.raise src code hedge detail [opRing]

/-- An event to the ring of hedge `h` and to the operator ring. -/
def Part.raiseBoth (p : Part) (src code h detail : Nat) : Part :=
  p.raise src code (some h) detail [h, opRing]

/-- At most 1,000 records of a rate-limited kind are raised in a second; the next one after a withheld record carries LIMITED in bit `bit` (R493, R521, R522). -/
def Part.raiseLimited (p : Part) (kind bit src code : Nat) (hedge : Option Nat) (detail : Nat) (rings : List Nat) : Part :=
  let c := Tab.get (0, false) kind p.perSec
  if c.1 < 1000 then
    { p with perSec := Tab.put (0, false) kind (c.1 + 1, false) p.perSec }.raise src code hedge
      (if c.2 then detail ||| 2 ^ bit else detail) rings
  else { p with perSec := Tab.put (0, false) kind (c.1, true) p.perSec }

/-- A Class E counter counts one; at its maximum it sticks and COUNTER_SATURATED (0x0601) is raised, once (R19, R23, R384). -/
def Part.incE (p : Part) (f : Fld) : Part :=
  let v := p.fg f
  if v ≥ 2 ^ f.w - 1 then p
  else
    let p := p.fs f (v + 1)
    if v + 1 = 2 ^ f.w - 1 then p.raiseOp 0x0600 0x0601 none f.reg else p

/-! ### Device time (R389) -/

/-- MEM_CE_STORM (R227): the corrected errors of this second exceed LIMIT, and the event was not raised in it. -/
def Part.ceStorm (p : Part) (n : Nat) : Part :=
  let (c, raised) := Tab.get (0, false) n p.slc.ceSec
  let lim := p.fg (SLC_CE_LIMIT_LIMIT n)
  if lim = 0 ∨ c ≤ lim ∨ raised then p
  else
    { p with slc := { p.slc with ceSec := Tab.put (0, false) n (c, true) p.slc.ceSec } }.raiseOp (0x0200 + n) 0x0202 none noDetail

/-- The nanoseconds of a second. -/
def secondNs : Nat := 10 ^ 9

/-- One per-second tick (R22, R227, R389, R493, R522, R697): it is counted, the framer counters are latched and restart, and the seconds of the rate limits and of corrected errors end.
A LIMIT that was lowered since the second's last corrected error is passed at its end. -/
def Part.tick (p : Part) : Part :=
  let p := p.addW TIM_SECONDS_COUNT 1
  let p := forN 9 (fun k p => forN 8 (fun i p => (p.setReg (FRM_LAT k i) (p.reg (FRM_CNT k i))).clrS (FRM_CNT k i)) p) p
  let p := forN 8 (fun n p => p.ceStorm n) p
  { p with
    perSec := p.perSec.foldl (fun t e => Tab.put (0, false) e.1 (0, e.2.2) t) []
    slc := { p.slc with ceSec := [] } }

/-- `n` ticks in a row: what a third and later ones find is what the second leaves, and they only count. -/
def Part.ticks (p : Part) : Nat → Part
  | 0 => p
  | 1 => p.tick
  | n + 2 => (p.tick.addW TIM_SECONDS_COUNT n).tick

/-- Device time advances to `t` where `t` lies later, with the ticks that fall on the way (R389); while the Quickset die is in reset its time unit does not tick. -/
def Part.at (p : Part) (t : Nat) : Part :=
  let q := p.setTime t
  if p.boot.stage = 0 then q else q.ticks (q.time / secondNs - p.time / secondNs)

/-! ### Interrupts (R326, R369, R798; the MSI-X rules of the PCI Express specification) -/

/-- Function `f` as the endpoint holds it. -/
def Part.func (p : Part) (f : Nat) : Func := Tab.get {} f p.ep.funcs

/-- Function `f` with a change. -/
def Part.updFunc (p : Part) (f : Nat) (g : Func → Func) : Part :=
  { p with ep := { p.ep with funcs := Tab.upd {} f g p.ep.funcs } }

/-- A function behaves as in D3hot when it is, or when PF0 is (R331). -/
def Part.inD3 (p : Part) (f : Nat) : Bool := (p.func f).d3 || (p.func 0).d3

/-- A configuration register as it was last written; `d` where it never was. -/
def Func.cfgOr (f : Func) (off d : Nat) : Nat := (Tab.get none off f.cfg).getD d

/-- The offset of the MSI-X capability (R307, R309). -/
def msixCap (f : Nat) : Nat := if f = 0 then 0x50 else 0x40

/-- MSI-X Enable and Function Mask of function `f`, bits 31 and 30 of the capability's first dword. -/
def Part.msixCtl (p : Part) (f : Nat) : Bool × Bool :=
  let w := (p.func f).cfgOr (msixCap f) 0
  (w.testBit 31, w.testBit 30)

/-- Bus Master Enable of function `f`. -/
def Part.busMaster (p : Part) (f : Nat) : Bool := ((p.func f).cfgOr 4 0).testBit 2

/-- Whether a message of vector `v` of function `f` may leave now. -/
def Part.msiOpen (p : Part) (f v : Nat) : Bool :=
  let m := Tab.get {} v (p.func f).vecs
  !(p.msixCtl f).2 && !m.masked && !p.inD3 f && p.busMaster f

/-- The part sends vector `v` of function `f`: with MSI-X disabled nothing happens; masked or held (R329) it becomes a pending bit. -/
def Part.sendMsi (p : Part) (f v : Nat) : Part :=
  if !(p.msixCtl f).1 then p
  else if p.msiOpen f v then p.emit (.msi f v)
  else p.updFunc f fun F => { F with vecs := Tab.upd {} v (fun m => { m with pend := true }) F.vecs }

/-- The pending messages of function `f` that may leave now are sent (R330). -/
def Part.flushMsi (p : Part) (f : Nat) : Part :=
  if !(p.msixCtl f).1 then p
  else (p.func f).vecs.foldl (fun p e =>
    if e.2.pend && p.msiOpen f e.1 then
      (p.updFunc f fun F => { F with vecs := Tab.upd {} e.1 (fun m => { m with pend := false }) F.vecs }).emit (.msi f e.1)
    else p) p

/-- The source bits of GBL_IRQ_STATUS (R797). -/
def Part.gblIrq (p : Part) : Nat :=
  p.fg GBL_STATUS_LEVEL_CHANGED + 2 * p.fg HBR_STATUS_WFAIL + 4 * p.fg PBR_STATUS_WFAIL + 8 * p.fg TEL_VL_STATUS_VOUT_FAULT

/-- A source bit of the global status block is set; its rise sends PF0 vector 0 unless masked (R798). -/
def Part.setGbl (p : Part) (src : Fld) (bit : Nat) : Part :=
  let was := p.flag src
  let p := p.fs src 1
  if !was && !(p.fg GBL_IRQ_MASK_MASK).testBit bit then p.sendMsi 0 0 else p

/-- Bit `bit` of GBL_VF_IRQ of VF `v` is set; its rise sends VF vector 0 unless masked (R326). Hedge 0 has no such block. -/
def Part.setVfIrq (p : Part) (v bit : Nat) : Part :=
  if v = 0 then p
  else
    let f : Fld := ⟨GBL_VF_IRQ v, bit, 1⟩
    let was := p.flag f
    let p := p.fs f 1
    if !was && !(p.fg (GBL_VF_IRQ_MASK_MASK v)).testBit bit then p.sendMsi v 0 else p

/-! ### Outcomes -/

/-- The outcome of a command that acts on the part alone. -/
def onPart (f : Part → Part) (s : State) : Host.Outcome State Fault Refusal :=
  .next { s with dev := { s.dev with p := f s.dev.p } }

/-- Whether a number names a frond: 64 × bracken + index, with 48 fronds in each of 64 brackens (R94). -/
abbrev isFrond (f : Nat) : Prop := f < 4096 ∧ f % 64 < 48

/-- Whether feature `id` is available (R316). -/
def Part.available (p : Part) (id : Nat) : Bool := p.ep.avail.testBit id

/-- The outcome of a command that acts on the part alone; an operand that names nothing that the part has changes nothing (DEDUCED, notes/assumptions/48.md). -/
def onPartIf (ok : Prop) [Decidable ok] (f : Part → Part) (s : State) : Host.Outcome State Fault Refusal :=
  onPart (fun p => if ok then f p else p) s

/-- Whether a memory request reaches PF0: Memory Space Enable of its Command register is set, it is not in D3hot, no FLR of it runs and PERST_N is not asserted (R329, R340). -/
def Part.pfOpen (p : Part) : Bool := ((p.func 0).cfgOr 4 0).testBit 1 && !(p.func 0).resetting && !(p.func 0).d3 && !p.ep.perst

/-- The outcome of the host's register write in the block of feature `id` of PF0: a block that is not available ignores writes (R317), and a function that is in D3hot or resetting discards them (R329, R340). -/
def blockPart (id : Nat) (ok : Prop) [Decidable ok] (f : Part → Part) (s : State) : Host.Outcome State Fault Refusal :=
  onPart (fun p => if ok ∧ p.available id ∧ p.pfOpen then f p else p) s

/-- The outcome of a command that acts on the part and the memory stacks. -/
def onDev (f : Dev → Dev) (s : State) : Host.Outcome State Fault Refusal :=
  .next { s with dev := f s.dev }

/-- The outcome of a command that acts on the part and the memory stacks; an operand that names nothing that the part has changes nothing. -/
def onDevIf (ok : Prop) [Decidable ok] (f : Dev → Dev) (s : State) : Host.Outcome State Fault Refusal :=
  onDev (fun d => if ok then f d else d) s

/-- The outcome of a register write in the block of feature `id` that reaches the memory stacks (R317). -/
def blockDev (id : Nat) (ok : Prop) [Decidable ok] (f : Dev → Dev) (s : State) : Host.Outcome State Fault Refusal :=
  onDev (fun d => if ok ∧ d.p.available id ∧ d.p.pfOpen then f d else d) s

end Sys2Proof.Machine
end

