-- ==== Sys2Proof/Machine/Float.lean ====
section
/-!
DEFINITION. Sys2Proof/Machine/Float.lean: the number formats of the fronds (R162 to R175).
A number is read into an exact value, computed exactly, and rounded once.
-/

namespace Sys2Proof.Machine

open Sys2Proof

/-- The exact value of an encoded number: NaN, an infinity, or (−1)^neg × m × 2^e (zero keeps its sign). -/
inductive FV where
  | nan
  | inf (neg : Bool)
  | num (neg : Bool) (m : Nat) (e : Int)
  deriving DecidableEq, Repr

/-- Whether the value is a NaN. -/
def FV.isNan : FV → Bool
  | .nan => true
  | _ => false

/-- The sign of a value; a NaN's is not used. -/
def FV.neg : FV → Bool
  | .nan => false
  | .inf n => n
  | .num n _ _ => n

/-- The number of bits of `m`. -/
def bitLen (m : Nat) : Nat := if m = 0 then 0 else Nat.log2 m + 1

/-- `m × 2^k` as an integer, for k not below zero. -/
def shl (m : Nat) (k : Int) : Nat := m <<< k.toNat

/-- Sign, then magnitude, as an integer. -/
def sgn (neg : Bool) (m : Nat) : Int := if neg then -(m : Int) else m

/-! ### Reading encodings -/

/-- An IEEE-like encoding with `eb` exponent and `mb` mantissa bits; `specials` says whether the top exponent is infinity and NaN. -/
def readIeee (eb mb : Nat) (specials : Bool) (x : Nat) : FV :=
  let bias : Int := 2 ^ (eb - 1) - 1
  let neg := (x >>> (eb + mb)) % 2 == 1
  let ex := (x >>> mb) % 2 ^ eb
  let fr := x % 2 ^ mb
  if specials && ex == 2 ^ eb - 1 then (if fr = 0 then .inf neg else .nan)
  else if ex = 0 then .num neg fr (1 - bias - mb)
  else .num neg (fr + 2 ^ mb) (ex - bias - mb)

/-- FP32 (IEEE 754 binary32). -/
def readF32 (x : Nat) : FV := readIeee 8 23 true x

/-- FP8 E4M3 of OCP: no infinity; S.1111.111 is NaN (R175). -/
def readE4M3 (x : Nat) : FV := if x % 128 = 127 then .nan else readIeee 4 3 false x

/-- A two's complement integer of `w` bits, times 2^e. -/
def readInt (w : Nat) (e : Int) (x : Nat) : FV :=
  let v := (BitVec.ofNat w x).toInt
  .num (decide (v < 0)) v.natAbs e

/-- One element of format `fmt` (R174); an MXINT8 element carries the factor 2^−6 of the OCP format (PRESUMED, notes/assumptions/12.md), which MAC does not use (`macElem`). -/
def readElem (fmt x : Nat) : FV :=
  match fmt with
  | 0 => readInt 8 0 x
  | 1 => readInt 4 0 x
  | 2 => readE4M3 x
  | 3 => readIeee 5 2 true x
  | 4 => readIeee 8 7 true x
  | 5 => readIeee 5 10 true x
  | 6 => readF32 x
  | 7 => readInt 32 0 x
  | 8 => readInt 8 (-6) x
  | 9 => readE4M3 x
  | 10 => readIeee 5 2 true x
  | 11 => readIeee 2 3 false x
  | 12 => readIeee 3 2 false x
  | _ => readIeee 2 1 false x

/-- One weight or activation element as MAC multiplies it: MXINT8 elements are integers, whose sum the array forms exactly in INT32 before the block scale alone is applied (R168). -/
def macElem (fmt x : Nat) : FV := readElem (if fmt = 8 then 0 else fmt) x

/-- The bits of one element of format `fmt` (R174). -/
def elemBits (fmt : Nat) : Nat := [8, 4, 8, 8, 16, 16, 32, 32, 8, 8, 8, 6, 6, 4].getD fmt 8

/-! ### Rounding -/

/-- `m × 2^e` divided by `2^q` and rounded to an integer, to nearest, ties to even. -/
def rneAt (m : Nat) (e q : Int) : Nat :=
  if q ≤ e then shl m (e - q)
  else
    let k := (q - e).toNat
    let d := m >>> k
    let r := m % 2 ^ k
    let half := 2 ^ (k - 1)
    if r < half then d else if r = half then d + d % 2 else d + 1

/-- The bits of an IEEE-like encoding of (−1)^neg × m × 2^e, rounded to nearest even; `beyond` is what an overflow gives. -/
def writeIeee (eb mb : Nat) (neg : Bool) (m : Nat) (e : Int) (maxBits beyond : Nat) : Nat :=
  let bias : Int := 2 ^ (eb - 1) - 1
  let s := (if neg then 1 else 0) <<< (eb + mb)
  let q := max (e + bitLen m - (mb + 1)) (1 - bias - mb)
  let n := rneAt m e q
  let x := if n < 2 ^ mb then n else ((q - (1 - bias - mb)).toNat <<< mb) + n
  s + (if x > maxBits then beyond else x)

/-- The FP32 bits of an exact number, rounded once to nearest even (R167, R172). -/
def writeF32 (neg : Bool) (m : Nat) (e : Int) : Nat := writeIeee 8 23 neg m e 0x7F7FFFFF 0x7F800000

/-- Whether an FP32 pattern is subnormal. -/
def isSub32 (x : Nat) : Bool := (x >>> 23) % 256 == 0 && x % 2 ^ 23 != 0

/-- A subnormal becomes zero and keeps its sign (R169, R172). -/
def flush32 (x : Nat) : Nat := if isSub32 x then (x >>> 31) <<< 31 else x

/-- Whether an FP32 pattern is a NaN. -/
def isNan32 (x : Nat) : Bool := (readF32 x).isNan

/-- The FP32 bits of a value that is no NaN, subnormal results flushed. -/
def FV.toF32 : FV → Nat
  | .nan => 0x7FC00000
  | .inf n => (if n then 0x80000000 else 0) + 0x7F800000
  | .num n m e => flush32 (writeF32 n m e)

/-! ### Exact arithmetic -/

/-- The product of two values. -/
def FV.mul : FV → FV → FV
  | .nan, _ => .nan
  | _, .nan => .nan
  | .inf n, .inf k => .inf (n != k)
  | .inf n, .num k m _ => if m = 0 then .nan else .inf (n != k)
  | .num n m _, .inf k => if m = 0 then .nan else .inf (n != k)
  | .num n m e, .num k l d => .num (n != k) (m * l) (e + d)

/-- The sum of two values; an exact zero is −0 only when both are −0 (IEEE 754, round to nearest). -/
def FV.add : FV → FV → FV
  | .nan, _ => .nan
  | _, .nan => .nan
  | .inf n, .inf k => if n = k then .inf n else .nan
  | .inf n, .num _ _ _ => .inf n
  | .num _ _ _, .inf k => .inf k
  | .num n m e, .num k l d =>
    let q := min e d
    let x := sgn n (shl m (e - q)) + sgn k (shl l (d - q))
    if x = 0 then .num (n && k) 0 0 else .num (decide (x < 0)) x.natAbs q

/-- The value with its sign reversed. -/
def FV.negate : FV → FV
  | .nan => .nan
  | .inf n => .inf !n
  | .num n m e => .num (!n) m e

/-- Whether a value lies strictly below another (no NaN). -/
def FV.lt : FV → FV → Bool
  | .inf n, .inf k => n && !k
  | .inf n, .num _ _ _ => n
  | .num _ _ _, .inf k => !k
  | .num n m e, .num k l d =>
    let q := min e d
    decide (sgn n (shl m (e - q)) < sgn k (shl l (d - q)))
  | _, _ => false

/-- An FP32 operand of the vector unit: subnormal inputs are flushed (R172). -/
def opF32 (x : Nat) : FV := readF32 (flush32 x)

/-! ### Conversion to a token element (R175) -/

/-- An integer target of `w` bits: nearest even, saturating; NaN gives 0. -/
def toIntSat (w : Nat) (v : FV) : Nat :=
  let hi : Int := 2 ^ (w - 1) - 1
  let lo : Int := -2 ^ (w - 1)
  let x : Int := match v with
    | .nan => 0
    | .inf n => if n then lo else hi
    | .num n m e => sgn n (rneAt m e 0)
  (BitVec.ofInt w (max lo (min hi x))).toNat

/-- The element of format `fmt` (0x0 to 0x7) for an FP32 lane `x`; none where the encoding of a NaN is left open (R175). -/
def convElem (fmt x : Nat) : Option Nat :=
  let v := opF32 x
  let sign := x >>> 31
  match fmt with
  | 0 => some (toIntSat 8 v)
  | 1 => some (toIntSat 4 v)
  | 7 => some (toIntSat 32 v)
  | 6 => some x
  | 2 => match v with
    | .nan => some (sign * 128 + 127)
    | .inf n => some ((if n then 128 else 0) + 0x7E)
    | .num n m e => some (writeIeee 4 3 n m e 0x7E 0x7E)
  | 3 => match v with
    | .nan => none
    | .inf n => some ((if n then 128 else 0) + 0x7C)
    | .num n m e => some (writeIeee 5 2 n m e 0x7B 0x7B)
  | 4 => match v with
    | .nan => none
    | .inf n => some ((if n then 0x8000 else 0) + 0x7F80)
    | .num n m e => some (writeIeee 8 7 n m e 0x7F7F 0x7F80)
  | _ => match v with
    | .nan => none
    | .inf n => some ((if n then 0x8000 else 0) + 0x7C00)
    | .num n m e => some (writeIeee 5 10 n m e 0x7BFF 0x7C00)

/-- A NaN of FP8 E5M2, BF16 or FP16 whose sign and payload the manual leaves open, from a free number `r`. -/
def nanElem (fmt r : Nat) : Nat :=
  let (eb, mb) := match fmt with
    | 3 => (5, 2)
    | 4 => (8, 7)
    | _ => (5, 10)
  ((r % 2) <<< (eb + mb)) + ((2 ^ eb - 1) <<< mb) + (1 + (r / 2) % (2 ^ mb - 1))

/-- An FP32 NaN whose sign and payload the manual leaves open, from a free number `r`. -/
def nan32 (r : Nat) : Nat := ((r % 2) <<< 31) + 0x7F800000 + (1 + (r / 2) % (2 ^ 23 - 1))

/-- The FP32 bits of a value; a NaN's bits are open, and a function of `key`: the operation and its operands (R149; DEDUCED, notes/assumptions/13.md). -/
def bitsOf (key : List Nat) (v : FV) : Nat := if v.isNan then nan32 (Config.numeric key) else v.toF32

/-- One of several equally good patterns, by a choice that depends on `key` alone (R149). -/
def pickNum (key : List Nat) (l : List Nat) : Nat := l.getD (Config.numeric key % l.length) 0

/-! ### Nonlinear functions (R173)

The manual bounds the distance of each result from the exact value. The exact value is enclosed between two rationals, and the result is an open choice among the FP32 numbers that lie within the bound of every number of the enclosure. -/

/-- A rational number num / den with den > 0. -/
structure Rat' where
  num : Int
  den : Nat
  deriving DecidableEq, Repr

/-- The order of FP32 patterns as numbers: a signed index in which neighbours differ by one. -/
def ordOf (x : Nat) : Int := if x ≥ 2 ^ 31 then -((x - 2 ^ 31 : Nat) : Int) else x

/-- The FP32 pattern of an order index. -/
def ofOrd (i : Int) : Nat := if i < 0 then 2 ^ 31 + i.natAbs else i.toNat

/-- `a / d × 2^k` as a quotient of naturals. -/
def scaled (a d : Nat) (k : Int) : Nat × Nat := (shl a (max k 0), shl d (max (-k) 0))

/-- The FP32 pattern nearest to a rational, subnormals kept. -/
def nearF32 (r : Rat') : Nat :=
  -- the quotient to 64 bits below its leading bit, with a sticky bit for the remainder
  let k : Int := 64 + bitLen r.den - bitLen r.num.natAbs
  let (n, d) := scaled r.num.natAbs r.den k
  writeF32 (decide (r.num < 0)) (2 * (n / d) + if n % d = 0 then 0 else 1) (-k - 1)

/-- The exponent of the unit in the last place of a / d > 0 in FP32: 23 below its binade, and never below −149. -/
def ulpExp (a d : Nat) : Int :=
  let g : Int := (bitLen a : Int) - bitLen d
  let (x, y) := scaled a d (-g)
  max ((if x < y then g - 1 else g) - 23) (-149)

/-- The order index of the largest FP32 magnitude not above a / d, at most that of infinity, and whether it equals a / d. -/
def truncOrd (a d : Nat) : Nat × Bool :=
  if a = 0 then (0, true)
  else
    let q := ulpExp a d
    let (x, y) := scaled a d (-q)
    let n := x / y
    let i := if n < 2 ^ 23 then n else ((q + 149).toNat <<< 23) + n
    if 0x7F800000 ≤ i then (0x7F800000, true) else (i, x % y = 0)

/-- The order index of the largest FP32 number not above a rational. -/
def floorOrd (r : Rat') : Int :=
  let (i, exact) := truncOrd r.num.natAbs r.den
  if r.num ≥ 0 then i else if exact then -i else -i - 1

/-- The order index of the smallest FP32 number not below a rational. -/
def ceilOrd (r : Rat') : Int := -floorOrd ⟨-r.num, r.den⟩

/-- `r + k × 2^e`. -/
def Rat'.addPow (r : Rat') (k e : Int) : Rat' :=
  if e ≥ 0 then ⟨r.num + k * 2 ^ e.toNat * r.den, r.den⟩ else ⟨r.num * 2 ^ (-e).toNat + k * r.den, r.den * 2 ^ (-e).toNat⟩

/-- The results that lie within `k` units in the last place of every number of [lo, hi], 0 < lo ≤ hi: order indices from first to last. -/
def ulpRange (lo hi : Rat') (k : Nat) : Int × Int :=
  let e := ulpExp lo.num.toNat lo.den
  (ceilOrd (hi.addPow (-(k : Int)) e), floorOrd (lo.addPow k e))

/-- The fixed-point scale of the enclosures: 2^96. -/
def fxS : Nat := 2 ^ 96

/-- Fixed-point product, rounded down. -/
def fxMul (a b : Int) : Int := (a * b) / (fxS : Int)

/-- e^r for |r| ≤ 1 in fixed point, by its series with `n` terms. -/
def fxExpSmall (r : Int) (n : Nat) : Int :=
  (List.range n).reverse.foldl (fun (acc : Int) (k : Nat) => (fxS : Int) + fxMul r acc / ((k : Int) + 1)) (fxS : Int)

/-- ln 2 in fixed point (rounded down): 2 × artanh(1/3). -/
def fxLn2 : Int :=
  2 * ((List.range 64).foldl (fun acc k => acc + (fxS : Int) / (((2 * k + 1) * 3 ^ (2 * k + 1) : Nat) : Int)) 0)

/-- The exact FP32 number as a fixed-point integer, rounded down. -/
def fxOf (v : FV) : Int :=
  match v with
  | .num n m e => if e + 96 ≥ 0 then sgn n (shl m (e + 96)) else (sgn n m) / (2 ^ (-(e + 96)).toNat : Int)
  | _ => 0

/-- e^x for |x| < 256 as (mantissa in fixed point, power of two): value = mantissa × 2^k / 2^96. -/
def fxExp (x : Int) : Int × Int :=
  let k := x / fxLn2
  (fxExpSmall (x - k * fxLn2) 40, k)

/-- The fixed-point value a × 2^k as a rational. -/
def fxRat (a k : Int) : Rat' :=
  if k ≥ 0 then ⟨a * 2 ^ k.toNat, fxS⟩ else ⟨a, fxS * 2 ^ (-k).toNat⟩

/-- ln of a positive number m × 2^e in fixed point: by artanh on the mantissa in [1, 2). -/
def fxLog (m : Nat) (e : Int) : Int :=
  let b := bitLen m
  let f : Int := if b ≤ 97 then (m : Int) * 2 ^ (97 - b) else (m : Int) / 2 ^ (b - 97)
  let z : Int := ((f - fxS) * fxS) / (f + fxS)
  let z2 := fxMul z z
  let (s, _) := (List.range 70).foldl (fun (acc : Int × Int) (k : Nat) => (acc.1 + acc.2 / (2 * (k : Int) + 1), fxMul acc.2 z2)) (0, z)
  2 * s + (e + b - 1) * fxLn2

/-- A relative widening of a positive rational by 2^−60 on both sides, over which the error of the fixed-point series stays. -/
def widen (r : Rat') : Rat' × Rat' :=
  (⟨r.num * (2 ^ 60 - 1), r.den * 2 ^ 60⟩, ⟨r.num * (2 ^ 60 + 1), r.den * 2 ^ 60⟩)

/-- e^−x + 1 as a rational, for |x| < 256. -/
def onePlusExpNeg (x : Int) : Rat' :=
  let (a, k) := fxExp (-x)
  let r := fxRat a k
  ⟨r.num + r.den, r.den⟩

/-- Integer square root by bits: the largest r with r × r ≤ n, found from `k` bits downward. -/
def isqrt : Nat → Nat → Nat → Nat
  | 0, _, r => r
  | k + 1, n, r => isqrt k n (if (r + 2 ^ k) * (r + 2 ^ k) ≤ n then r + 2 ^ k else r)

/-- The result of a nonlinear function at one FP32 operand: exact bits, NaN, a range of order indices, or a value that the manual does not state. -/
inductive Approx where
  | bits (x : Nat)
  | nan
  | range (lo hi : Int)
  | unstated
  deriving DecidableEq, Repr

/-- The results within `k` units of a positive value enclosed in [lo, hi], or with `neg` of the negative of one. -/
def approxIn (neg : Bool) (lo hi : Rat') (k : Nat) : Approx :=
  let (a, b) := ulpRange lo hi k
  if neg then .range (-b) (-a) else .range a b

/-- The results within `k` units of a positive value that the series gives, or with `neg` of its negative. -/
def approxOf (neg : Bool) (r : Rat') (k : Nat) : Approx := approxIn neg (widen r).1 (widen r).2 k

/-- The results within `k` units of the exact power ±2^e. -/
def nearPow (neg : Bool) (e : Int) (k : Nat) : Approx :=
  let r : Rat' := if e ≥ 0 then ⟨2 ^ e.toNat, 1⟩ else ⟨1, 2 ^ (-e).toNat⟩
  approxIn neg r r k

/-- The results within `k` units of a value that lies below 1 by less than 2^−60. -/
def belowOne (neg : Bool) (k : Nat) : Approx := approxIn neg ⟨2 ^ 60 - 1, 2 ^ 60⟩ ⟨1, 1⟩ k

/-- m × 2^e as a rational. -/
def ratOf (m : Nat) (e : Int) : Rat' := if e ≥ 0 then ⟨shl m e, 1⟩ else ⟨m, 2 ^ (-e).toNat⟩

/-- VEXP at one operand (R171, R173). -/
def exp32 (v : FV) : Approx :=
  match v with
  | .nan => .nan
  | .inf n => if n then .range (-2) 2 else .bits 0x7F800000
  | .num n m e =>
    if m = 0 then nearPow false 0 2
    else if e + bitLen m > 8 then (if n then .range (-1) 2 else .bits 0x7F800000)
    else if e + bitLen m < -40 then
      -- |x| < 2^−40: 1 − 2|x| < e^x < 1 + 2|x|
      let d := (ratOf m e).den
      let a := (ratOf m e).num
      if n then approxIn false ⟨d - 2 * a, d⟩ ⟨d, d⟩ 2 else approxIn false ⟨d, d⟩ ⟨d + 2 * a, d⟩ 2
    else
      let (a, k) := fxExp (fxOf (.num n m e))
      approxOf false (fxRat a k) 2

/-- VLOG at one operand (R173). -/
def log32 (v : FV) : Approx :=
  match v with
  | .nan => .nan
  | .inf n => if n then .nan else .bits 0x7F800000
  | .num n m e =>
    if m = 0 then .bits 0xFF800000
    else if n then .nan
    else
      let l := fxLog m e
      -- only ln 1 = 0 lies this close to zero
      if l.natAbs ≤ 2 ^ 40 then .range (-2) 2
      else approxOf (decide (l < 0)) ⟨l.natAbs, fxS⟩ 2

/-- VTANH at one operand (R173): (1 − e^−2x) / (1 + e^−2x); for small x the cubic series. -/
def tanh32 (v : FV) : Approx :=
  match v with
  | .nan => .nan
  | .inf n => nearPow n 0 2
  | .num n m e =>
    if m = 0 then .range (-2) 2
    else if e + bitLen m > 6 then belowOne n 2
    else if e + bitLen m < -20 then
      -- x − x³/3 < tanh x < x, and x² < 2^−40
      let hi := ratOf m e
      approxIn n ⟨hi.num * (2 ^ 40 - 1), hi.den * 2 ^ 40⟩ hi 2
    else
      let (a, k) := fxExp (-2 * fxOf (.num false m e))
      let r := fxRat a k
      approxOf n ⟨r.den - r.num, (r.den + r.num).toNat⟩ 2

/-- VSIGM at one operand (R173). -/
def sigm32 (v : FV) : Approx :=
  match v with
  | .nan => .nan
  | .inf n => if n then .range (-2) 2 else nearPow false 0 2
  | .num n m e =>
    if m = 0 then nearPow false (-1) 2
    else if e + bitLen m > 8 then (if n then .range (-1) 2 else belowOne false 2)
    else if e + bitLen m < -40 then
      -- |x| < 2^−40: the value lies within |x| of 1/2, on the side of x
      let d := (ratOf m e).den
      let a := (ratOf m e).num
      if n then approxIn false ⟨d - 2 * a, 2 * d⟩ ⟨1, 2⟩ 2 else approxIn false ⟨1, 2⟩ ⟨d + 2 * a, 2 * d⟩ 2
    else
      let d := onePlusExpNeg (fxOf (.num n m e))
      approxOf false ⟨d.den, d.num.toNat⟩ 2

/-- VSILU at one operand (R173): x / (1 + e^−x). -/
def silu32 (v : FV) : Approx :=
  match v with
  | .nan => .nan
  | .inf n => if n then .range (-2) 2 else .bits 0x7F800000
  | .num n m e =>
    if m = 0 then .range (-2) 2
    else if e + bitLen m > 8 then
      if n then .range (-2) 1
      else
        let x := ratOf m e
        approxIn false ⟨x.num * (2 ^ 60 - 1), x.den * 2 ^ 60⟩ x 2
    else if e + bitLen m < -40 then
      -- |x| < 2^−40: the magnitude lies within x² of |x| / 2, above it for a positive x
      let x := ratOf m e
      let half : Rat' := ⟨x.num, 2 * x.den⟩
      if n then approxIn true ⟨half.num * (2 ^ 38 - 1), half.den * 2 ^ 38⟩ half 2
      else approxIn false half ⟨half.num * (2 ^ 38 + 1), half.den * 2 ^ 38⟩ 2
    else
      let d := onePlusExpNeg (fxOf (.num n m e))
      let x := ratOf m e
      approxOf n ⟨x.num * d.den, x.den * d.num.toNat⟩ 2

/-- VRCP at one operand: within 1 unit; ±0 gives ±infinity (R173). -/
def rcp32 (v : FV) : Approx :=
  match v with
  | .nan => .nan
  | .inf n => .bits (if n then 0x80000000 else 0)
  | .num n m e =>
    if m = 0 then .bits (if n then 0xFF800000 else 0x7F800000)
    else
      let x := ratOf m e
      let r : Rat' := ⟨x.den, x.num.toNat⟩
      approxIn n r r 1

/-- VRSQRT at one operand: within 1 unit; a negative number gives NaN (R173). The manual states no result for ±0: any FP32 pattern (DEDUCED, notes/assumptions/13.md). -/
def rsqrt32 (v : FV) : Approx :=
  match v with
  | .nan => .nan
  | .inf n => if n then .nan else .bits 0
  | .num n m e =>
    if m = 0 then .unstated
    else if n then .nan
    else
      -- 1 / √(m 2^e): make the exponent even, take √ of a scaled mantissa
      let odd := e % 2 == 1
      let m' := if odd then 2 * m else m
      let h := (if odd then e - 1 else e) / 2
      let r := isqrt 128 (m' * 2 ^ 192) 0
      -- r ≤ √m' × 2^96 < r + 1, so the result lies between 2^96 / ((r + 1) 2^h) and 2^96 / (r 2^h)
      let q := fun (r : Nat) => if h ≥ 0 then (⟨(2 ^ 96 : Nat), shl r h⟩ : Rat') else ⟨(2 ^ 96 * 2 ^ (-h).toNat : Nat), r⟩
      if r * r = m' * 2 ^ 192 then approxIn false (q r) (q r) 1 else approxIn false (q (r + 1)) (q r) 1

/-- The bits that a nonlinear function delivers for the operands in `key`: an open choice within its bound, subnormal results flushed (R149, R172, R173). -/
def bitsOfApprox (key : List Nat) (a : Approx) : Nat :=
  match a with
  | .bits x => x
  | .nan => nan32 (Config.numeric key)
  | .range lo hi =>
    let i := lo + (Config.numeric key % (hi - lo + 1).toNat : Nat)
    flush32 (ofOrd (max (ordOf 0xFF800000) (min (ordOf 0x7F800000) i)))
  | .unstated => flush32 (Config.numeric key % 2 ^ 32)

end Sys2Proof.Machine
end

