-- ==== Sys2Proof/WellFormed.lean ====
section
/-!
DEFINITION. Sys2Proof/WellFormed.lean: which operands a command may have.
A command whose operand names nothing that the part has is not one that the part can meet; its meaning changes nothing (DEDUCED, notes/assumptions/48.md).
-/

namespace Sys2Proof

/-- The operands of a frond instruction fit their fields and register files (R144, R146): 32 scalar, 16 token and 16 vector registers. -/
def FOp.wf : FOp → Bool
  | .nop => true
  | .br target => decide (target < 2048)
  | .beq a b target => decide (a < 32 ∧ b < 32 ∧ target < 2048)
  | .bne a b target => decide (a < 32 ∧ b < 32 ∧ target < 2048)
  | .blt a b target => decide (a < 32 ∧ b < 32 ∧ target < 2048)
  | .loop _ a count last => decide (a < 32 ∧ count < 65536 ∧ last < 2048)
  | .halt => true
  | .li d _ => decide (d < 32)
  | .add d a b => decide (d < 32 ∧ a < 32 ∧ b < 32)
  | .sub d a b => decide (d < 32 ∧ a < 32 ∧ b < 32)
  | .mul d a b => decide (d < 32 ∧ a < 32 ∧ b < 32)
  | .band d a b => decide (d < 32 ∧ a < 32 ∧ b < 32)
  | .bor d a b => decide (d < 32 ∧ a < 32 ∧ b < 32)
  | .bxor d a b => decide (d < 32 ∧ a < 32 ∧ b < 32)
  | .addi d a _ => decide (d < 32 ∧ a < 32)
  | .shl d a n => decide (d < 32 ∧ a < 32 ∧ n < 32)
  | .shr d a n => decide (d < 32 ∧ a < 32 ∧ n < 32)
  | .sra d a n => decide (d < 32 ∧ a < 32 ∧ n < 32)
  | .ld d a _ => decide (d < 32 ∧ a < 32)
  | .st a b _ => decide (a < 32 ∧ b < 32)
  | .getst d => decide (d < 32)
  | .tget d a k => decide (d < 32 ∧ a < 16 ∧ k < 8)
  | .tset d a k => decide (d < 16 ∧ a < 32 ∧ k < 8)
  | .vget d a k => decide (d < 32 ∧ a < 16 ∧ k < 32)
  | .vset d a k => decide (d < 16 ∧ a < 32 ∧ k < 32)
  | .ldt d a _ => decide (d < 16 ∧ a < 32)
  | .stt a b _ => decide (a < 32 ∧ b < 16)
  | .recv d b q => decide (d < 16 ∧ b < 32 ∧ q < 16)
  | .recvp d b q => decide (d < 16 ∧ b < 32 ∧ q < 16)
  | .test d q => decide (d < 32 ∧ q < 16)
  | .waitany d mask => decide (d < 32 ∧ mask < 65536)
  | .send a q => decide (a < 16 ∧ q < 16)
  | .sendeos q => decide (q < 16)
  | .sendpsn a b q => decide (a < 32 ∧ b < 32 ∧ q < 16)
  | .fwd d q slot => decide (d < 32 ∧ q < 16 ∧ slot < 16)
  | .mcfg wfmt afmt => decide (wfmt < 16 ∧ afmt < 8)
  | .mac a b acc _ _ => decide (a < 16 ∧ b < 32 ∧ acc < 64)
  | .accrd d acc _ => decide (d < 16 ∧ acc < 64)
  | .accwr a acc => decide (a < 16 ∧ acc < 64)
  | .vadd d a b => decide (d < 16 ∧ a < 16 ∧ b < 16)
  | .vsub d a b => decide (d < 16 ∧ a < 16 ∧ b < 16)
  | .vmul d a b => decide (d < 16 ∧ a < 16 ∧ b < 16)
  | .vfma d a b => decide (d < 16 ∧ a < 16 ∧ b < 16)
  | .vmax d a b => decide (d < 16 ∧ a < 16 ∧ b < 16)
  | .vmin d a b => decide (d < 16 ∧ a < 16 ∧ b < 16)
  | .vscl d a b => decide (d < 16 ∧ a < 16 ∧ b < 32)
  | .vofs d a b => decide (d < 16 ∧ a < 16 ∧ b < 32)
  | .vexp d a => decide (d < 16 ∧ a < 16)
  | .vlog d a => decide (d < 16 ∧ a < 16)
  | .vtanh d a => decide (d < 16 ∧ a < 16)
  | .vsigm d a => decide (d < 16 ∧ a < 16)
  | .vrcp d a => decide (d < 16 ∧ a < 16)
  | .vrsqrt d a => decide (d < 16 ∧ a < 16)
  | .vsilu d a => decide (d < 16 ∧ a < 16)
  | .vrsum d a => decide (d < 16 ∧ a < 16)
  | .vrmax d a => decide (d < 16 ∧ a < 16)
  | .vmov d a => decide (d < 16 ∧ a < 16)
  | .vunpk d a fmt part => decide (d < 16 ∧ a < 16 ∧ fmt < 16 ∧ part < 2 ^ 32)
  | .vpack d a fmt part => decide (d < 16 ∧ a < 16 ∧ fmt < 16 ∧ part < 2 ^ 32)
  | .vld d a _ => decide (d < 16 ∧ a < 32)
  | .vst a b _ => decide (a < 32 ∧ b < 16)
  | .vbcast d a => decide (d < 16 ∧ a < 32)
  | .evt a b q code => decide (a < 32 ∧ b < 32 ∧ q < 16 ∧ code < 64)

/-- A command names what the part has: fronds, brackens, slices, hedges, functions, rings, ports, cores and register places within their numbers. -/
def Instr.wf : Instr → Bool
  | .registerWrite _ _ _ width _ _ => decide (width ∈ [8, 16, 32, 64])
  | .rcFieldRead _ _ _ width _ => decide (width ∈ [32, 64])
  | .wideCounterLowRead _ _ => true
  | .perSecondTick => true
  | .timSnap _ => true
  | .fabBrownout => true
  | .telVlCtrlWrite base ceil => decide (base < 8 ∧ ceil < 8)
  | .glideReadVout _ => true
  | .glideRetry _ => true
  | .tempoGateEnd _ => true
  | .cadenceLower h => decide (h < 16)
  | .tempoRestored h => decide (h < 16)
  | .tempoGateWrite gate => decide (gate < 16)
  | .clearMin => true
  | .clearFaults _ => true
  | .cadenceFloorWrite h floor _ => decide (h < 16 ∧ floor < 65536)
  | .bandChange b _ => decide (b < 64)
  | .startToken f => decide (f < 4096 ∧ f % 64 < 48)
  | .stopToken f => decide (f < 4096 ∧ f % 64 < 48)
  | .programStoreWrite f word _ => decide (f < 4096 ∧ f % 64 < 48 ∧ word < 2048)
  | .routerToken b port _ _ => decide (b < 64 ∧ (port < 53 ∨ 64 ≤ port ∧ port < 256))
  | .creditReturn h stream _ => decide (h < 16 ∧ stream < 256)
  | .hubToken col _ => decide (col < 8)
  | .fabHedgeStall h _ => decide (h < 16)
  | .fabClrCe _ => true
  | .fabClrUe _ => true
  | .fabClrDrop _ => true
  | .fabClrGw _ => true
  | .gwRouteWrite k _ => decide (k < 32)
  | .gwConflictClear _ _ => true
  | .fNop f => decide (f < 4096 ∧ f % 64 < 48) && FOp.wf (.nop)
  | .fBr f target => decide (f < 4096 ∧ f % 64 < 48) && FOp.wf (.br target)
  | .fBeq f a b target => decide (f < 4096 ∧ f % 64 < 48) && FOp.wf (.beq a b target)
  | .fBne f a b target => decide (f < 4096 ∧ f % 64 < 48) && FOp.wf (.bne a b target)
  | .fBlt f a b target => decide (f < 4096 ∧ f % 64 < 48) && FOp.wf (.blt a b target)
  | .fLoop f useReg a count last => decide (f < 4096 ∧ f % 64 < 48) && FOp.wf (.loop useReg a count last)
  | .fHalt f => decide (f < 4096 ∧ f % 64 < 48) && FOp.wf (.halt)
  | .fLi f d imm => decide (f < 4096 ∧ f % 64 < 48) && FOp.wf (.li d imm)
  | .fAdd f d a b => decide (f < 4096 ∧ f % 64 < 48) && FOp.wf (.add d a b)
  | .fSub f d a b => decide (f < 4096 ∧ f % 64 < 48) && FOp.wf (.sub d a b)
  | .fAddi f d a imm => decide (f < 4096 ∧ f % 64 < 48) && FOp.wf (.addi d a imm)
  | .fMul f d a b => decide (f < 4096 ∧ f % 64 < 48) && FOp.wf (.mul d a b)
  | .fAnd f d a b => decide (f < 4096 ∧ f % 64 < 48) && FOp.wf (.band d a b)
  | .fOr f d a b => decide (f < 4096 ∧ f % 64 < 48) && FOp.wf (.bor d a b)
  | .fXor f d a b => decide (f < 4096 ∧ f % 64 < 48) && FOp.wf (.bxor d a b)
  | .fShl f d a n => decide (f < 4096 ∧ f % 64 < 48) && FOp.wf (.shl d a n)
  | .fShr f d a n => decide (f < 4096 ∧ f % 64 < 48) && FOp.wf (.shr d a n)
  | .fSra f d a n => decide (f < 4096 ∧ f % 64 < 48) && FOp.wf (.sra d a n)
  | .fLd f d a imm => decide (f < 4096 ∧ f % 64 < 48) && FOp.wf (.ld d a imm)
  | .fSt f a b imm => decide (f < 4096 ∧ f % 64 < 48) && FOp.wf (.st a b imm)
  | .fGetst f d => decide (f < 4096 ∧ f % 64 < 48) && FOp.wf (.getst d)
  | .fTget f d a k => decide (f < 4096 ∧ f % 64 < 48) && FOp.wf (.tget d a k)
  | .fTset f d a k => decide (f < 4096 ∧ f % 64 < 48) && FOp.wf (.tset d a k)
  | .fVget f d a k => decide (f < 4096 ∧ f % 64 < 48) && FOp.wf (.vget d a k)
  | .fVset f d a k => decide (f < 4096 ∧ f % 64 < 48) && FOp.wf (.vset d a k)
  | .fLdt f d a imm => decide (f < 4096 ∧ f % 64 < 48) && FOp.wf (.ldt d a imm)
  | .fStt f a b imm => decide (f < 4096 ∧ f % 64 < 48) && FOp.wf (.stt a b imm)
  | .fRecv f d b q => decide (f < 4096 ∧ f % 64 < 48) && FOp.wf (.recv d b q)
  | .fRecvp f d b q => decide (f < 4096 ∧ f % 64 < 48) && FOp.wf (.recvp d b q)
  | .fTest f d q => decide (f < 4096 ∧ f % 64 < 48) && FOp.wf (.test d q)
  | .fWaitany f d mask => decide (f < 4096 ∧ f % 64 < 48) && FOp.wf (.waitany d mask)
  | .fSend f a q => decide (f < 4096 ∧ f % 64 < 48) && FOp.wf (.send a q)
  | .fSendeos f q => decide (f < 4096 ∧ f % 64 < 48) && FOp.wf (.sendeos q)
  | .fSendpsn f a b q => decide (f < 4096 ∧ f % 64 < 48) && FOp.wf (.sendpsn a b q)
  | .fFwd f d q slot => decide (f < 4096 ∧ f % 64 < 48) && FOp.wf (.fwd d q slot)
  | .fStreamWaitResume f => decide (f < 4096 ∧ f % 64 < 48)
  | .fMcfg f wfmt afmt => decide (f < 4096 ∧ f % 64 < 48) && FOp.wf (.mcfg wfmt afmt)
  | .fMac f a b acc z inc => decide (f < 4096 ∧ f % 64 < 48) && FOp.wf (.mac a b acc z inc)
  | .fAccrd f d acc clr => decide (f < 4096 ∧ f % 64 < 48) && FOp.wf (.accrd d acc clr)
  | .fAccwr f a acc => decide (f < 4096 ∧ f % 64 < 48) && FOp.wf (.accwr a acc)
  | .fVadd f d a b => decide (f < 4096 ∧ f % 64 < 48) && FOp.wf (.vadd d a b)
  | .fVsub f d a b => decide (f < 4096 ∧ f % 64 < 48) && FOp.wf (.vsub d a b)
  | .fVmul f d a b => decide (f < 4096 ∧ f % 64 < 48) && FOp.wf (.vmul d a b)
  | .fVfma f d a b => decide (f < 4096 ∧ f % 64 < 48) && FOp.wf (.vfma d a b)
  | .fVmax f d a b => decide (f < 4096 ∧ f % 64 < 48) && FOp.wf (.vmax d a b)
  | .fVmin f d a b => decide (f < 4096 ∧ f % 64 < 48) && FOp.wf (.vmin d a b)
  | .fVscl f d a b => decide (f < 4096 ∧ f % 64 < 48) && FOp.wf (.vscl d a b)
  | .fVofs f d a b => decide (f < 4096 ∧ f % 64 < 48) && FOp.wf (.vofs d a b)
  | .fVexp f d a => decide (f < 4096 ∧ f % 64 < 48) && FOp.wf (.vexp d a)
  | .fVlog f d a => decide (f < 4096 ∧ f % 64 < 48) && FOp.wf (.vlog d a)
  | .fVtanh f d a => decide (f < 4096 ∧ f % 64 < 48) && FOp.wf (.vtanh d a)
  | .fVsigm f d a => decide (f < 4096 ∧ f % 64 < 48) && FOp.wf (.vsigm d a)
  | .fVrcp f d a => decide (f < 4096 ∧ f % 64 < 48) && FOp.wf (.vrcp d a)
  | .fVrsqrt f d a => decide (f < 4096 ∧ f % 64 < 48) && FOp.wf (.vrsqrt d a)
  | .fVsilu f d a => decide (f < 4096 ∧ f % 64 < 48) && FOp.wf (.vsilu d a)
  | .fVrsum f d a => decide (f < 4096 ∧ f % 64 < 48) && FOp.wf (.vrsum d a)
  | .fVrmax f d a => decide (f < 4096 ∧ f % 64 < 48) && FOp.wf (.vrmax d a)
  | .fVunpk f d a fmt part => decide (f < 4096 ∧ f % 64 < 48) && FOp.wf (.vunpk d a fmt part)
  | .fVpack f d a fmt part => decide (f < 4096 ∧ f % 64 < 48) && FOp.wf (.vpack d a fmt part)
  | .fVld f d a imm => decide (f < 4096 ∧ f % 64 < 48) && FOp.wf (.vld d a imm)
  | .fVst f a b imm => decide (f < 4096 ∧ f % 64 < 48) && FOp.wf (.vst a b imm)
  | .fVbcast f d a => decide (f < 4096 ∧ f % 64 < 48) && FOp.wf (.vbcast d a)
  | .fVmov f d a => decide (f < 4096 ∧ f % 64 < 48) && FOp.wf (.vmov d a)
  | .fEvt f a b q code => decide (f < 4096 ∧ f % 64 < 48) && FOp.wf (.evt a b q code)
  | .imageFetchDone m => decide (m < 17)
  | .scheduleEntryStart n h _ => decide (n < 8 ∧ h < 16)
  | .scheduleDataToken n h _ => decide (n < 8 ∧ h < 16)
  | .scheduleEntryDone n h _ => decide (n < 8 ∧ h < 16)
  | .bufferRelease n h stream => decide (n < 8 ∧ h < 16 ∧ stream < 256)
  | .memoryStreamRead n h stream => decide (n < 8 ∧ h < 16 ∧ stream < 256)
  | .memoryStreamWrite n h stream => decide (n < 8 ∧ h < 16 ∧ stream < 256)
  | .scrubRead n g => decide (n < 8 ∧ g < 36 * 2 ^ 24)
  | .stalePageFill plot page => decide (plot < 288 ∧ page < 2 ^ 18)
  | .bar2Read f _ _ _ => decide (f < 16)
  | .bar2Write f _ _ _ _ => decide (f < 16)
  | .memHot n _ => decide (n < 8)
  | .sliceRetrain _ n _ => decide (n < 8)
  | .memSliceDown n => decide (n < 8)
  | .slcClrCe n _ => decide (n < 8)
  | .slcClrUe n _ => decide (n < 8)
  | .pmapVfWrite v e plot _ => decide (1 ≤ v ∧ v < 16 ∧ e < 16 ∧ plot < 512)
  | .kvcDecode n h stream => decide (n < 8 ∧ h < 16 ∧ stream < 256)
  | .kvcEncode n h stream => decide (n < 8 ∧ h < 16 ∧ stream < 256)
  | .kvcRegionEnableWrite n r _ => decide (n < 8 ∧ r < 16)
  | .kvcSmapWrite n h w _ => decide (n < 8 ∧ h < 16 ∧ w < 8)
  | .clrCorrupt n _ => decide (n < 8)
  | .clrFallback n _ => decide (n < 8)
  | .kvcClrFaults n _ => decide (n < 8)
  | .perstNAssert => true
  | .perstNDeassert => true
  | .hotReset => true
  | .linkDisable => true
  | .linkDown => true
  | .vfFlr v => decide (1 ≤ v ∧ v < 16)
  | .pf0Flr => true
  | .epFlrDone f => decide (f < 16)
  | .vfEnableSet => true
  | .vfEnableClear => true
  | .d3hotEntry f => decide (f < 16)
  | .d0Return f => decide (f < 16)
  | .linkTraining _ _ _ _ => true
  | .epLinkDegraded _ _ => true
  | .hostDirectedRetrain _ _ => true
  | .mrdlk f => decide (f < 16)
  | .configurationRequest f off _ => decide (f < 16 ∧ off < 4096)
  | .aspmL1Entry => true
  | .expansionRomRead off len _ => decide (off < 2 ^ 20 ∧ len ≤ 64)
  | .gblVfIrqMaskWrite v m => decide (1 ≤ v ∧ v < 16 ∧ m < 16)
  | .dbSqTail f _ _ _ => decide (f < 16)
  | .dbCqHead f _ _ _ => decide (f < 16)
  | .dbWrite64 f _ _ _ => decide (f < 16)
  | .descriptorFetchDone q => decide (q < 256)
  | .descSendData q => decide (q < 256)
  | .evtHeadWrite f r _ => decide (f < 16 ∧ r < 17)
  | .evtCfgWrite f r _ => decide (f < 16 ∧ r < 17)
  | .clrLost f r _ => decide (f < 16 ∧ r < 17)
  | .dbClrFaults f _ _ => decide (f < 16)
  | .mbxDoorbell m => decide (m < 17)
  | .mbxCommandDone e => decide (e.mbx < 17) && e.internal.all (· < 2 ^ 32)
  | .identify m => decide (m < 17)
  | .status m => decide (m < 17)
  | .opcodes m => decide (m < 17)
  | .hedgeCreate m => decide (m < 17)
  | .hedgeDestroy m => decide (m < 17)
  | .hedgeAssign m => decide (m < 17)
  | .hedgeCadence m => decide (m < 17)
  | .hedgeQuery m => decide (m < 17)
  | .queueAssign m => decide (m < 17)
  | .queueCreate m => decide (m < 17)
  | .queueDestroy m => decide (m < 17)
  | .queueQuery m => decide (m < 17)
  | .imageBind m => decide (m < 17)
  | .imageUnbind m => decide (m < 17)
  | .imageQuery m => decide (m < 17)
  | .memoryPlots m => decide (m < 17)
  | .memoryMap m => decide (m < 17)
  | .memoryBar2Size m => decide (m < 17)
  | .memoryQuery m => decide (m < 17)
  | .kvcRegion m => decide (m < 17)
  | .kvcClaim m => decide (m < 17)
  | .kvcQuery m => decide (m < 17)
  | .atuWindow m => decide (m < 17)
  | .atuPasid m => decide (m < 17)
  | .atuInvalidate m => decide (m < 17)
  | .atuQuery m => decide (m < 17)
  | .sorusConfig m => decide (m < 17)
  | .sorusTrigger m => decide (m < 17)
  | .sorusSlowRead m _ => decide (m < 17)
  | .sorusOpenWireTest m _ => decide (m < 17)
  | .sorusCalibrate m _ => decide (m < 17)
  | .sorusStatus m => decide (m < 17)
  | .lichenLoopStatus m => decide (m < 17)
  | .lichenLoopConfig m => decide (m < 17)
  | .lichenLoopCalibrate m => decide (m < 17)
  | .lichenAlarmConfig m => decide (m < 17)
  | .lichenRtc m => decide (m < 17)
  | .lichenLogRead m => decide (m < 17)
  | .lichenHartConfig m => decide (m < 17)
  | .denbenPortConfig m => decide (m < 17)
  | .denbenPortStatus m => decide (m < 17)
  | .denbenDccMap m => decide (m < 17)
  | .denbenRetrain m => decide (m < 17)
  | .twinConfig m => decide (m < 17)
  | .twinRole m => decide (m < 17)
  | .twinMirror m => decide (m < 17)
  | .twinVeto m => decide (m < 17)
  | .twinResync m => decide (m < 17)
  | .twinStatus m => decide (m < 17)
  | .telemetryRead m _ => decide (m < 17)
  | .telemetryHedge m => decide (m < 17)
  | .debugStoreRead m => decide (m < 17)
  | .debugStoreWrite m => decide (m < 17)
  | .debugFrond m => decide (m < 17)
  | .debugTrace m => decide (m < 17)
  | .debugProfile m => decide (m < 17)
  | .lifecycleRead m => decide (m < 17)
  | .lifecycleTransition m _ => decide (m < 17)
  | .lifecycleKeyWrite m => decide (m < 17)
  | .firmwarePush m => decide (m < 17)
  | .firmwareStatus m => decide (m < 17)
  | .firmwareSelect m => decide (m < 17)
  | .atsCompletion _ _ => true
  | .atsInvalidateRequest f itag _ _ _ _ => decide (f < 16 ∧ itag < 32)
  | .pageRequestResponse slot _ => decide (slot < 512)
  | .atuWinLostClear k _ _ => decide (k < 64)
  | .atuClrFaults _ => true
  | .outboundCompletion _ _ _ _ => true
  | .completionTimeout _ => true
  | .inboundAtomicop f _ _ op _ _ _ _ _ => decide (f < 16 ∧ op < 3)
  | .atomicWritebackDone _ => true
  | .loadExclusive c _ _ => decide (c < 4)
  | .storeExclusive c _ _ _ => decide (c < 4)
  | .coreAtomic c _ _ _ _ _ => decide (c < 4)
  | .reservationTimeout c => decide (c < 4)
  | .targetTimeout _ _ _ _ _ _ reason => reason == 1 || reason == 3 || reason == 4
  | .hbrCtrlWrite _ => true
  | .hbrClrRfails _ => true
  | .hbrClrWfails _ => true
  | .pbrClrRfails _ => true
  | .pbrClrWfails _ => true
  | .clrLv _ => true
  | .storeApertureRead _ store _ _ => decide (store < 3)
  | .storeApertureWrite _ store _ _ _ => decide (store < 2)
  | .programApertureWrite _ _ _ _ => true
  | .registerMirrorRead _ off width => decide (off < 0x800000 ∧ width ∈ [32, 64])
  | .jtagDbgAccess off width _ _ => decide (off < 0x1000000 ∧ width ∈ [32, 64])
  | .clrViol _ => true
  | .dbgClrLost _ => true
  | .trigInEdge _ _ _ => true
  | .periodicTrigger _ _ => true
  | .pairTrigger _ _ => true
  | .softwareTrigger _ _ => true
  | .refSettle _ _ _ => true
  | .refWindowLoss _ _ => true
  | .refSettleTimeout _ => true
  | .sorCtrlWrite sel => decide (sel < 4)
  | .sorTrigWrite source _ _ => decide (source < 8)
  | .sorChannelWrite c _ _ _ _ => decide (c < 32)
  | .sorRingCfgWrite r _ => decide (r < 4)
  | .sorRingChWrite r _ => decide (r < 4)
  | .sorTrimWrite k g _ _ => decide (k < 8 ∧ g < 4)
  | .clrMissed _ => true
  | .clrRing _ => true
  | .sorusRailsLost => true
  | .sorusRailsReturn => true
  | .loopDomainReset => true
  | .loopDomainStart => true
  | .cstoreJobAdmit _ _ => true
  | .loopInputAccept _ => true
  | .loopStale _ => true
  | .loopHostAbsent => true
  | .coreFrameTimeout => true
  | .openLoop _ => true
  | .openLoopClear _ => true
  | .noCompliance _ => true
  | .noComplianceClear _ => true
  | .sensorConversion k _ => decide (k < 2)
  | .calibrationTimeout _ => true
  | .loopNvmWriteDone => true
  | .hartCmd0 => true
  | .hartCmd1 => true
  | .hartCmd2 => true
  | .hartCmd3 _ => true
  | .hartCmd6 _ _ => true
  | .hartCmd7 => true
  | .hartCmd8 => true
  | .hartCmd9 _ _ => true
  | .hartCmd11 _ => true
  | .hartCmd12 => true
  | .hartCmd13 => true
  | .hartCmd14 => true
  | .hartCmd15 => true
  | .hartCmd16 => true
  | .hartCmd17 _ => true
  | .hartCmd18 _ => true
  | .hartCmd19 _ => true
  | .hartCmd20 => true
  | .hartCmd21 _ => true
  | .hartCmd22 _ => true
  | .hartCmd38 => true
  | .hartCmd48 => true
  | .hartReadLoopConfiguration => true
  | .hartWriteFailureConfig _ _ _ _ _ => true
  | .hartSetFixedCurrent _ => true
  | .hartReadLoopDiagnostics => true
  | .hartReadAcceleratorLink => true
  | .hartReadSensorConfiguration => true
  | .hartWriteSensorConfiguration _ _ _ => true
  | .hartWriteRangeValues _ _ _ => true
  | .hartReadAlarmInputs => true
  | .hartUnimplementedCommand _ => true
  | .clrRejected _ => true
  | .clrHart _ => true
  | .vstbyFall => true
  | .vstbyRise _ _ => true
  | .vbatLoss _ => true
  | .cellTest _ => true
  | .alarmSample closed => decide (closed < 16)
  | .overtempLatchTrip _ => true
  | .overtempLatchRelease _ => true
  | .recordNvmWrite => true
  | .logDelivery => true
  | .watchdogKick _ => true
  | .watchdogReset _ => true
  | .jtagCoreHalt c => decide (c < 4)
  | .corePowerUp _ => true
  | .lifecycleRedo => true
  | .lifecycleCommit => true
  | .frameReceive p _ _ => decide (p < 9)
  | .frameTransmit p _ => decide (p < 9)
  | .dlosTimer p _ _ => decide (p < 9)
  | .widthRequest _ => true
  | .widthRestore _ => true
  | .retrainDefectTimeout p _ => decide (p < 9)
  | .retrainAttemptTimeout p _ => decide (p < 9)
  | .retrainRetry p _ => decide (p < 9)
  | .dccExchange d _ => decide (d < 4)
  | .frmClearWrite p bits _ => decide (p < 9 ∧ bits < 256)
  | .twinRefclkLoss _ => true
  | .heartbeatTick _ => true
  | .fencePulse _ => true
  | .fenceInEdge _ => true
  | .heartbeatMissing _ => true
  | .fenceAbsent _ => true
  | .dccPStatusMessage => true
  | .dccPLoopMessage => true
  | .sourceCurrentRead _ => true
  | .epochClose _ => true
  | .mirrorDataRecord => true
  | .mirrorQueueRecord => true
  | .mirrorStaleRecord => true
  | .mirrorCloseRecord => true
  | .mirrorResultRecord => true
  | .syncRound _ => true
  | .configDiscordTimeout _ => true
  | .failoverHoldEnd _ => true
  | .termWriteDone => true
  | .twnClrLocalWrites _ => true
  | .twnClrResultDiscords _ => true
  | .stageS2 _ _ => true
  | .stageS3 _ _ => true
  | .stageS4 _ _ _ => true
  | .stageS5 _ _ => true
  | .stageS6 _ => true
  | .stageS7 _ => true
  | .bootBackoffEnd _ _ => true
  | .lichenLinkRetry _ _ => true
  | .brackenRetest _ b _ => decide (b < 64)
  | .bootConfirm _ => true
  | .bootEventDelivery => true
  | .gblIrqMaskWrite m => decide (m < 16)
  | .railsSettled => true
  | .railDip => true
  | .smbusIdentity => true
  | .smbusService => true
  | .smbusTjMax => true
  | .smbusStackTemperature => true
  | .smbusPower _ => true
  | .smbusVddFab => true
  | .smbusActivePoint => true
  | .smbusLifeCycle => true
  | .smbusFlags => true
  | .smbusOther => true
  | .stackTemperatureChange n _ => decide (n < 8)
  | .loopPresentLoss => true
  | .hartFrameError => true
  | .jtagCoreResume c => decide (c < 4)
  | .twinRefclkReturn _ => true
  | .laneMarker p _ lane _ _ _ _ => decide (p < 9 ∧ lane < 8)

end Sys2Proof
end

