-- ==== Sys2Proof/Machine/FrondWord.lean ====
section
/-!
DEFINITION. Sys2Proof/Machine/FrondWord.lean: the frond instruction word (R144 to R146, R163, R174).
-/

namespace Sys2Proof.Machine

open Sys2Proof

/-! ### The instruction word (R144, R145) -/

/-- The bits lo to lo + w − 1 of a number. -/
def bitsOfNat (x lo w : Nat) : Nat := (x >>> lo) % 2 ^ w

/-- The bits of CLASS and OP. -/
def mOp : Nat := 0xFF
/-- The bits of D. -/
def mD : Nat := 0x1F * 2 ^ 8
/-- The bits of A. -/
def mA : Nat := 0x1F * 2 ^ 13
/-- The bits of B. -/
def mB : Nat := 0x1F * 2 ^ 18
/-- The bits of Q. -/
def mQ : Nat := 0xF * 2 ^ 23
/-- The bits of FMT. -/
def mFmt : Nat := 0xF * 2 ^ 27
/-- The flag. -/
def mF : Nat := 2 ^ 31
/-- The `w` bits of IMM from bit `lo`. -/
def mImm (lo w : Nat) : Nat := (2 ^ w - 1) * 2 ^ (32 + lo)

/-- The bits of IMM that hold the part of VUNPK and VPACK (R174): one where a token holds 32 elements or more, else the two that up to four parts need (DEDUCED, notes/assumptions/73.md). -/
def partBits (fmt : Nat) : Nat := if elemBits fmt ≤ 8 then 1 else 2

/-- The instruction that a word spells: its fields, and the bits that it may use (R146: every other bit is reserved).
The answer is none for an undefined CLASS or OP. -/
def fields (x : Nat) : Option (Nat × FOp) :=
  let d := bitsOfNat x 8 5
  let a := bitsOfNat x 13 5
  let b := bitsOfNat x 18 5
  let q := bitsOfNat x 23 4
  let fmt := bitsOfNat x 27 4
  let imm : Word := BitVec.ofNat 32 (x >>> 32)
  let im := fun lo w => bitsOfNat (x >>> 32) lo w
  let dab := mD + mA + mB
  let da := mD + mA
  match x % 8, bitsOfNat x 3 5 with
  | 0, 0x00 => some (0, .nop)
  | 0, 0x01 => some (mImm 0 11, .br (im 0 11))
  | 0, 0x02 => some (mA + mB + mImm 0 11, .beq a b (im 0 11))
  | 0, 0x03 => some (mA + mB + mImm 0 11, .bne a b (im 0 11))
  | 0, 0x04 => some (mA + mB + mImm 0 11, .blt a b (im 0 11))
  | 0, 0x05 =>
    if x.testBit 31 then some (mF + mA + mImm 0 11, .loop true a 0 (im 0 11))
    else some (mF + mImm 0 11 + mImm 16 16, .loop false 0 (im 16 16) (im 0 11))
  | 0, 0x06 => some (0, .halt)
  | 1, 0x00 => some (mD + mImm 0 32, .li d imm)
  | 1, 0x01 => some (dab, .add d a b)
  | 1, 0x02 => some (dab, .sub d a b)
  | 1, 0x03 => some (da + mImm 0 32, .addi d a imm)
  | 1, 0x04 => some (dab, .mul d a b)
  | 1, 0x05 => some (dab, .band d a b)
  | 1, 0x06 => some (dab, .bor d a b)
  | 1, 0x07 => some (dab, .bxor d a b)
  | 1, 0x08 => some (da + mImm 0 5, .shl d a (im 0 5))
  | 1, 0x09 => some (da + mImm 0 5, .shr d a (im 0 5))
  | 1, 0x0A => some (da + mImm 0 5, .sra d a (im 0 5))
  | 1, 0x0B => some (da + mImm 0 32, .ld d a imm)
  | 1, 0x0C => some (mA + mB + mImm 0 32, .st a b imm)
  | 1, 0x0D => some (mD, .getst d)
  | 1, 0x0E => some (da + mImm 0 3, .tget d a (im 0 3))
  | 1, 0x0F => some (da + mImm 0 3, .tset d a (im 0 3))
  | 1, 0x10 => some (da + mImm 0 5, .vget d a (im 0 5))
  | 1, 0x11 => some (da + mImm 0 5, .vset d a (im 0 5))
  | 1, 0x12 => some (da + mImm 0 32, .ldt d a imm)
  | 1, 0x13 => some (mA + mB + mImm 0 32, .stt a b imm)
  | 2, 0x00 => some (mD + mB + mQ, .recv d b q)
  | 2, 0x01 => some (mD + mB + mQ, .recvp d b q)
  | 2, 0x02 => some (mD + mQ, .test d q)
  | 2, 0x03 => some (mD + mImm 0 16, .waitany d (im 0 16))
  | 2, 0x04 => some (mA + mQ, .send a q)
  | 2, 0x05 => some (mQ, .sendeos q)
  | 2, 0x06 => some (mA + mB + mQ, .sendpsn a b q)
  | 2, 0x07 => some (mD + mQ + mImm 0 4, .fwd d q (im 0 4))
  | 3, 0x00 => some (mFmt + mImm 0 3, .mcfg fmt (im 0 3))
  | 3, 0x01 => some (mA + mB + mImm 0 8, .mac a b (im 0 6) (x.testBit 38) (x.testBit 39))
  | 3, 0x02 => some (mD + mImm 0 7, .accrd d (im 0 6) (x.testBit 38))
  | 3, 0x03 => some (mA + mImm 0 6, .accwr a (im 0 6))
  | 4, 0x00 => some (dab, .vadd d a b)
  | 4, 0x01 => some (dab, .vsub d a b)
  | 4, 0x02 => some (dab, .vmul d a b)
  | 4, 0x03 => some (dab, .vfma d a b)
  | 4, 0x04 => some (dab, .vmax d a b)
  | 4, 0x05 => some (dab, .vmin d a b)
  | 4, 0x06 => some (dab, .vscl d a b)
  | 4, 0x07 => some (dab, .vofs d a b)
  | 4, 0x08 => some (da, .vexp d a)
  | 4, 0x09 => some (da, .vlog d a)
  | 4, 0x0A => some (da, .vtanh d a)
  | 4, 0x0B => some (da, .vsigm d a)
  | 4, 0x0C => some (da, .vrcp d a)
  | 4, 0x0D => some (da, .vrsqrt d a)
  | 4, 0x0E => some (da, .vsilu d a)
  | 4, 0x0F => some (da, .vrsum d a)
  | 4, 0x10 => some (da, .vrmax d a)
  | 4, 0x11 => some (da + mFmt + mImm 0 (partBits fmt), .vunpk d a fmt (im 0 (partBits fmt)))
  | 4, 0x12 => some (da + mFmt + mImm 0 (partBits fmt), .vpack d a fmt (im 0 (partBits fmt)))
  | 4, 0x13 => some (da + mImm 0 32, .vld d a imm)
  | 4, 0x14 => some (mA + mB + mImm 0 32, .vst a b imm)
  | 4, 0x15 => some (da, .vbcast d a)
  | 4, 0x16 => some (da, .vmov d a)
  | 5, 0x00 => some (mA + mB + mQ + mImm 0 6, .evt a b q (im 0 6))
  | _, _ => none

/-- The instruction of a word whose reserved fields are zero (C2). -/
def fdecode (x : Dword) : Option FOp :=
  match fields x.toNat with
  | none => none
  | some (mask, op) => if x.toNat &&& (2 ^ 64 - 1 - (mask + mOp)) = 0 then some op else none

/-! ### Instructions that the tables exclude (R163, R174) -/

/-- The shape of a weight group: rows, columns, words, and whether it accumulates in INT32; none for a pair outside R163. -/
def macShape (wfmt afmt : Nat) : Option (Nat × Nat × Nat × Bool) :=
  let fp8 := afmt == 2 || afmt == 3
  match wfmt with
  | 0 => if afmt = 0 then some (4, 32, 16, true) else none
  | 1 => if afmt = 0 then some (8, 32, 16, true) else if afmt = 1 then some (4, 64, 16, true) else none
  | 2 => if fp8 then some (4, 32, 16, false) else none
  | 3 => if fp8 then some (4, 32, 16, false) else none
  | 4 => if afmt = 4 then some (2, 16, 8, false) else none
  | 5 => if afmt = 5 then some (2, 16, 8, false) else none
  | 8 => if afmt = 0 then some (4, 32, 17, false) else none
  | 9 => if fp8 then some (4, 32, 17, false) else none
  | 10 => if fp8 then some (4, 32, 17, false) else none
  | 11 => if fp8 then some (4, 32, 13, false) else none
  | 12 => if fp8 then some (4, 32, 13, false) else none
  | 13 => if fp8 then some (8, 32, 17, false) else none
  | _ => none

/-- C7: an MCFG names a pair of R163. -/
def mcfgOk : FOp → Bool
  | .mcfg w a => (macShape w a).isSome
  | _ => true

/-- The number of parts that R174 gives a format. -/
def partsOf (fmt : Nat) : Nat := [1, 2, 1, 1, 2, 2, 4, 4].getD fmt 0

/-- C9: formats and parts of VUNPK and VPACK. -/
def packOk : FOp → Bool
  | .vunpk _ _ f p => decide (f ≤ 7 ∧ p < partsOf f)
  | .vpack _ _ f p => decide (f ≤ 7 ∧ p < partsOf f)
  | _ => true

/-- The instruction of a stored word. A word that R144 to R146 leave undefined, or whose register, pair, format or part no table has, spells none (DEDUCED, notes/assumptions/73.md). -/
def finstr (x : Dword) : Option FOp :=
  match fdecode x with
  | none => none
  | some op => if op.wf && mcfgOk op && packOk op then some op else none

/-! ### Steps (R148, R150 to R176) -/

/-- The steps that an instruction costs; `taken` says whether its branch is taken. -/
def stepsOf (taken : Bool) : FOp → Nat
  | .br _ => 2
  | .beq _ _ _ => if taken then 2 else 1
  | .bne _ _ _ => if taken then 2 else 1
  | .blt _ _ _ => if taken then 2 else 1
  | .vexp _ _ => 2
  | .vlog _ _ => 2
  | .vtanh _ _ => 2
  | .vsigm _ _ => 2
  | .vrcp _ _ => 2
  | .vrsqrt _ _ => 2
  | .vsilu _ _ => 2
  | .vrsum _ _ => 3
  | .vrmax _ _ => 3
  | _ => 1

end Sys2Proof.Machine
end

