-- ==== Sys2Proof/Machine/Frond.lean ====
section
/-!
DEFINITION. Sys2Proof/Machine/Frond.lean: one frond, its registers, stores, queues and instructions (R81 to R88, R111 to R115, R138 to R179).
-/

namespace Sys2Proof.Machine

open Sys2Proof

/-! ### State of one frond -/

/-- Frond number `f` (64 × bracken + index, R94). -/
def Part.frond (p : Part) (f : Nat) : Frond := Tab.get {} f p.fab.fronds

/-- Frond `f` set. -/
def Part.setFrond (p : Part) (f : Nat) (F : Frond) : Part :=
  { p with fab := { p.fab with fronds := Tab.put {} f F p.fab.fronds } }

/-- Frond `f` with a change. -/
def Part.updFrond (p : Part) (f : Nat) (g : Frond → Frond) : Part := p.setFrond f (g (p.frond f))

/-- The hedge that owns frond `f`'s bracken; the output stage writes it into every token (R91). -/
def Part.frondHedge (p : Part) (f : Nat) : Nat := p.fg (FAB_BRK_OWNER_HEDGE (f / 64))

/-- Scalar register i; s0 reads as zero (R138). -/
def Frond.sr (F : Frond) (i : Nat) : Word := if i = 0 then 0 else Tab.get 0 i F.s

/-- Scalar register i set; s0 ignores writes (R138). -/
def Frond.setS (F : Frond) (i : Nat) (x : Word) : Frond := if i = 0 then F else { F with s := Tab.put 0 i x F.s }

/-- Token register i. -/
def Frond.tr (F : Frond) (i : Nat) : Payload := Tab.get 0 i F.t

/-- Token register i set. -/
def Frond.setT (F : Frond) (i : Nat) (x : Payload) : Frond := { F with t := Tab.put 0 i x F.t }

/-- Lane i of vector register r. -/
def Frond.lane (F : Frond) (r i : Nat) : Word := Tab.get 0 (32 * r + i) F.v

/-- Lane i of vector register r set. -/
def Frond.setLane (F : Frond) (r i : Nat) (x : Word) : Frond := { F with v := Tab.put 0 (32 * r + i) x F.v }

/-- The lanes of vector register r set from a list, lane 0 first. -/
def Frond.setV (F : Frond) (r : Nat) (xs : List Nat) : Frond :=
  forN 32 (fun i F => F.setLane r i (BitVec.ofNat 32 (xs.getD i 0))) F

/-- Accumulator i. -/
def Frond.accr (F : Frond) (i : Nat) : Word := Tab.get 0 (i % 64) F.acc

/-- Accumulator i set. -/
def Frond.setAcc (F : Frond) (i : Nat) (x : Word) : Frond := { F with acc := Tab.put 0 (i % 64) x F.acc }

/-- Input queue q. -/
def Frond.queue (F : Frond) (q : Nat) : FQueue := Tab.get {} q F.queues

/-- Output slot q. -/
def Frond.slot (F : Frond) (q : Nat) : FSlot := Tab.get {} q F.slots

/-! ### Program counter (R147 to R152) -/

/-- The address that follows address `a` when no branch is taken, and the loops still in progress (R151, R152). -/
def fallLoops (a : Nat) : List LoopEnt → Nat × List LoopEnt
  | [] => ((a + 1) % 2048, [])
  | l :: rest =>
    if l.last = a then
      (if l.left > 1 then (l.first, { l with left := l.left - 1 } :: rest) else fallLoops a rest)
    else ((a + 1) % 2048, l :: rest)

/-- The frond goes on after an instruction that does not branch. -/
def Frond.next (F : Frond) : Frond :=
  let (pc, l) := fallLoops F.pc F.loops
  { F with pc := pc, loops := l }

/-- The frond goes on at `target` when a branch is taken, else as without a branch. -/
def Frond.branch (F : Frond) (taken : Bool) (target : Nat) : Frond :=
  if taken then { F with pc := target % 2048 } else F.next

/-- LOOP (R150, R151): a count of zero skips the body; the loop stack has four entries (R138). -/
def Frond.loopStart (F : Frond) (count last : Nat) : Frond :=
  if count = 0 then
    let (pc, l) := fallLoops (last % 2048) F.loops
    { F with pc := pc, loops := l }
  else
    let pc := (F.pc + 1) % 2048
    { F with pc := pc, loops := if F.loops.length < 4 then ⟨pc, last % 2048, count⟩ :: F.loops else F.loops }

/-! ### Poison (R111 to R114) -/

/-- The payload of a POISON token (R93). -/
def poisonPay (cause origin detail : Nat) : Payload :=
  BitVec.ofNat 256 (cause % 256 + (origin % 65536) <<< 8 + (detail % 2 ^ 64) <<< 32)

/-- The frond enters poison state; while it is in it, the recorded payload stays (R111, R114). -/
def Frond.enterPoison (F : Frond) (pay : Payload) : Frond :=
  if F.poison.isSome then F
  else { F with
    poison := some pay
    seen := true
    eosWait := upTo 16 fun q => (F.queue q).bound && !F.closedIn.contains q }

/-- The frond has consumed EOS on queue q: the stream closes, and poison state ends when every stream open at its entry has ended (R113, R143). Poison state that was entered while no input stream was open ends with the next EOS consumed (DEDUCED, notes/assumptions/82.md). -/
def Frond.eosIn (F : Frond) (q : Nat) : Frond :=
  let w := F.eosWait.filter (· != q)
  { F with
    closedIn := if F.closedIn.contains q then F.closedIn else q :: F.closedIn
    eosWait := w
    poison := if w.isEmpty then none else F.poison }

/-! ### Stores and their check bits (R86, R87) -/

/-- The check state of a word: 0 good, 1 correctable, 2 uncorrectable. -/
def Frond.eccAt (F : Frond) (store w : Nat) : Nat := Tab.get 0 (65536 * store + w) F.ecc

/-- A word of a store. -/
def Frond.word (F : Frond) (store w : Nat) : Dword :=
  match store with
  | 0 => Tab.get 0 w F.wst
  | 1 => Tab.get 0 w F.ast
  | _ => Tab.get 0 w F.pst

/-- A word of a store written with good check bits. -/
def Frond.setWord (F : Frond) (store w : Nat) (x : Dword) : Frond :=
  let F := { F with ecc := Tab.put 0 (65536 * store + w) 0 F.ecc }
  match store with
  | 0 => { F with wst := Tab.put 0 w x F.wst }
  | 1 => { F with ast := Tab.put 0 w x F.ast }
  | _ => { F with pst := Tab.put 0 w x F.pst }

/-- A read of one word of a store of frond `f` (R86): a correctable error is corrected, written back and counted.
The answer is the word, and whether it was uncorrectable; such a word's value is free. -/
def Part.readWord (p : Part) (f store w : Nat) : Dword × Bool × Part :=
  let F := p.frond f
  match F.eccAt store w with
  | 0 => (F.word store w, false, p)
  | 1 => (F.word store w, false, (p.setFrond f (F.setWord store w (F.word store w))).incS (FAB_CE (f / 64)))
  | _ =>
    let (r, p) := p.draw (2 ^ 64)
    (BitVec.ofNat 64 r, true, p)

/-- An uncorrectable word met by the MAC array or the vector unit (R87): poison state, the event, and the count.
`detail` is the store address. -/
def Part.storeUe (p : Part) (f cause code detail : Nat) : Part :=
  let h := p.frondHedge f
  let p := p.updFrond f fun F => F.enterPoison (poisonPay cause f detail)
  (p.raiseBoth (0x0100 + f / 64) code h detail).incS (FAB_UE (f / 64))

/-- `n` consecutive words of a store, wrapping at `size`, read by the MAC array or vector unit (R87). -/
def Part.readUnit (p : Part) (f store w n size cause code scale : Nat) : List Dword × Part :=
  (List.range n).foldl (fun (acc : List Dword × Part) i =>
    let a := (w + i) % size
    let (x, ue, p) := acc.2.readWord f store a
    (acc.1 ++ [x], if ue then p.storeUe f cause code (a * scale) else p)) ([], p)

/-- `n` consecutive words of the activation store read by a scalar instruction: an uncorrectable word has a free value (DEDUCED, notes/assumptions/14.md). -/
def Part.readScalar (p : Part) (f w n : Nat) : List Dword × Part :=
  (List.range n).foldl (fun (acc : List Dword × Part) i =>
    let (x, _, p) := acc.2.readWord f 1 ((w + i) % 8192)
    (acc.1 ++ [x], p)) ([], p)

/-- Words joined into one number, first word lowest. -/
def joinWords (ws : List Dword) : Nat := ws.foldr (fun w acc => acc * 2 ^ 64 + w.toNat) 0

/-- The byte address of an activation-store access: the low 16 bits of s[A] + IMM (R154). -/
def Frond.addr (F : Frond) (a : Nat) (imm : Word) : Nat := (F.sr a + imm).toNat % 65536

/-! ### Streams (R102, R104, R112, R143) -/

/-- The key of a stream of a hedge. -/
def skey (h stream : Nat) : Nat := 256 * h + stream

/-- The credit account of a stream. -/
def Part.stream (p : Part) (h s : Nat) : StreamCr := Tab.get {} (skey h s) p.fab.streams

/-- The credit account of a stream with a change. -/
def Part.updStream (p : Part) (h s : Nat) (g : StreamCr → StreamCr) : Part :=
  { p with fab := { p.fab with streams := Tab.upd {} (skey h s) g p.fab.streams } }

/-- A token of hedge `h` moves: a stall ends (R130). -/
def Part.progress (p : Part) (h : Nat) : Part :=
  if p.flag (FAB_STALL_STALLED h) then (p.setFlag (FAB_STALL_STALLED h) false).raiseBoth (0x0150 + h) 0x0107 h noDetail else p

/-- A frond of hedge `h` consumes or sends a token: the stall monitor's time starts anew (R129, R130). -/
def Part.frondMoves (p : Part) (h : Nat) : Part :=
  { p with fab := { p.fab with moved := Tab.put 0 h p.clock p.fab.moved } }.progress h

/-- Steps and tokens of the fronds of bracken `b` are counted while it is profiled (R543). -/
def Part.profile (p : Part) (b : Nat) (g : Profile → Profile) : Part :=
  match p.dbg.profile with
  | none => p
  | some c => if c.brackens.testBit b then { p with dbg := { p.dbg with profile := some (g c) } } else p

/-- A token enters a place of the mesh. -/
def Part.addFlight (p : Part) (e : Flight) : Part :=
  { p with fab := { p.fab with flight := p.fab.flight ++ [e] } }.progress e.tok.hedge

/-- A consumer at destination `d` returns one credit of a stream (R104). -/
def Part.addReturn (p : Part) (h s d : Nat) : Part :=
  { p with fab := { p.fab with returns := p.fab.returns ++ [(h, s, d)] } }

/-- Whether slot q of frond f has credit (R102). -/
def Part.slotCredit (p : Part) (f q : Nat) : Bool :=
  decide (1 ≤ (p.stream (p.frondHedge f) ((p.frond f).slot q).stream).credit)

/-- The frond next to frond i of a bracken on side d: 0 N, 1 E, 2 S, 3 W (R94, R95). -/
def frondNeighbour (i d : Nat) : Option Nat :=
  match d with
  | 0 => if i < 8 then none else some (i - 8)
  | 1 => if i % 8 = 7 then none else some (i + 1)
  | 2 => if i / 8 = 5 then none else some (i + 8)
  | _ => if i % 8 = 0 then none else some (i - 1)

/-- The port at which a token that frond i sends on side d enters its neighbour: the opposite side of that frond. -/
def sidePort (i d : Nat) : Nat := 64 + 4 * i + (d + 2) % 4

/-- The route mask of a stream at bracken `b`, where the entry is valid. -/
def Part.route (p : Part) (b s : Nat) : Option Nat := Tab.get none (256 * b + s) p.fab.routes

/-- The port at which a token of stream s that frond f sends enters the fabric. A stream that the route table takes to one neighbour of the frond alone goes through the port between the two; every other goes through the crossbar (R95; DESIGN CHOICE, notes/assumptions/81.md). -/
def Part.sendPort (p : Part) (f s : Nat) : Nat :=
  match p.route (f / 64) s with
  | none => f % 64
  | some m =>
    ((List.range 4).findSome? fun d => match frondNeighbour (f % 64) d with
      | some i => if m = 2 ^ i then some (sidePort i d) else none
      | none => none).getD (f % 64)

/-- A token leaves frond f on slot q (R91, R102, R112, R143): one credit is used; in poison state DATA leaves as POISON. -/
def Part.frondSend (p : Part) (f q kind : Nat) (pay : Payload) : Part :=
  let F := p.frond f
  let h := p.frondHedge f
  let s := (F.slot q).stream
  let (kind, pay) := match F.poison with
    | some pp => if kind = 0 then (2, pp) else (kind, pay)
    | none => (kind, pay)
  let F := { F with closedOut :=
    if kind = 1 then (if F.closedOut.contains q then F.closedOut else q :: F.closedOut)
    else if kind = 0 ∨ kind = 2 then F.closedOut.filter (· != q)
    else F.closedOut }
  let p := ((p.setFrond f F).updStream h s fun c => { c with credit := c.credit - 1 }).frondMoves h
  let port := if kind = 4 then f % 64 else p.sendPort f s
  (p.profile (f / 64) fun c => { c with sent := Tab.upd 0 (f / 64) (· + 1) c.sent }).addFlight
    { b := f / 64, port := port, ch := if kind = 4 then .toHub else .hedge, tok := ⟨h, s, kind, pay⟩ }

/-- Frond f dequeues the head token of queue q: its credit goes back (R104), the stream opens (R143), and an EOS closes it. -/
def Part.dequeue (p : Part) (f q : Nat) : Part :=
  let F := p.frond f
  let Q := F.queue q
  match Q.toks with
  | [] => p
  | (kind, _) :: rest =>
    let F := { F with queues := Tab.put {} q { Q with toks := rest } F.queues, closedIn := F.closedIn.filter (· != q) }
    let F := if kind = 1 then F.eosIn q else F
    ((p.setFrond f F).addReturn (p.frondHedge f) Q.stream f).frondMoves (p.frondHedge f)

/-! ### MAC array (R162 to R170) -/

/-- The numbers by which an open numeric choice knows an operation (R149): CLASS, then OP as R144 gives them. -/
def opKey (cls op : Nat) : Nat := cls + 8 * op

/-- The number of MAC. -/
def opMac : Nat := opKey 3 1

/-- Whether the weight format is one of the Microscaling formats. -/
def isMx (wfmt : Nat) : Bool := decide (8 ≤ wfmt)

/-- Element k of a packed group. -/
def elemAt (fmt : Nat) (bits k : Nat) : Nat := (bits >>> (k * elemBits fmt)) % 2 ^ elemBits fmt

/-- The exact integer of an INT8 or INT4 element. -/
def intElem (fmt x : Nat) : Int := (BitVec.ofNat (elemBits fmt) x).toInt

/-- The exact integer sum of one row (R166). -/
def rowInt (wfmt afmt cols group act r : Nat) : Int :=
  (List.range cols).foldl (fun acc c =>
    acc + intElem wfmt (elemAt wfmt group (r * cols + c)) * intElem afmt (elemAt afmt act c)) 0

/-- The exact sum of one row's products, block scale applied (R167, R168). -/
def rowSum (wfmt afmt cols words group act r : Nat) : FV :=
  let sum := (List.range cols).foldl (fun acc c =>
    acc.add ((macElem wfmt (elemAt wfmt group (r * cols + c))).mul (macElem afmt (elemAt afmt act c)))) (.num true 0 0)
  if isMx wfmt then
    let scale := (group >>> (64 * (words - 1) + 8 * r)) % 256
    if scale = 255 then .nan
    else match sum with
      | .num n m e => .num n m (e + scale - 127)
      | v => v
  else sum

/-- One row in an FP32 mode (R167 to R169): accumulator plus exact sum, rounded once; NaN bits are open. -/
def Frond.macRowF (F : Frond) (key : List Nat) (i : Nat) (z : Bool) (sum : FV) : Frond :=
  let old := (F.accr i).toNat
  let a := if z then FV.num false 0 0 else readF32 old
  F.setAcc i (BitVec.ofNat 32 (bitsOf (opMac :: old :: key) (a.add sum)))

/-- MAC (R163 to R169). -/
def Part.mac (p : Part) (f a b acc : Nat) (z inc : Bool) : Part :=
  let F := p.frond f
  match macShape F.wfmt F.afmt with
  | none => p
  | some (rows, cols, words, int) =>
    let act := (F.tr a).toNat
    let (ws, p) := p.readUnit f 0 ((F.sr b).toNat % 49152) words 49152 0x01 0x0102 1
    let group := joinWords ws
    p.updFrond f fun G =>
      let G := forN rows (fun r G =>
        if int then
          let base := if z then 0 else (G.accr (acc + r)).toInt
          G.setAcc (acc + r) (BitVec.ofInt 32 (base + rowInt F.wfmt F.afmt cols group act r))
        else G.macRowF [F.wfmt, F.afmt, r, group, act] (acc + r) z (rowSum F.wfmt F.afmt cols words group act r)) G
      if inc then G.setS b (G.sr b + BitVec.ofNat 32 words) else G

/-- Whether the accumulators hold INT32 (R162, R163). -/
def Frond.intMode (F : Frond) : Bool := decide (F.wfmt ≤ 1)

/-- ACCRD (R162, R175). -/
def Frond.accRead (F : Frond) (d acc : Nat) (clr : Bool) : Frond :=
  let G := forN 32 (fun i G =>
    let x := F.accr (acc + i)
    let y := if F.intMode then (readInt 32 0 x.toNat).toF32 else x.toNat
    G.setLane d i (BitVec.ofNat 32 y)) F
  if clr then forN 32 (fun i G => G.setAcc (acc + i) 0) G else G

/-- ACCWR (R162, R175). -/
def Frond.accWrite (F : Frond) (a acc : Nat) : Frond :=
  forN 32 (fun i G =>
    let x := (F.lane a i).toNat
    G.setAcc (acc + i) (BitVec.ofNat 32 (if F.intMode then toIntSat 32 (opF32 x) else x))) F

/-! ### Vector unit (R171 to R175) -/

/-- v[D] of frond f takes the lanes that `g` computes. -/
def Part.vlanes (p : Part) (f d : Nat) (g : Nat → Nat) : Part := p.updFrond f fun F => F.setV d ((List.range 32).map g)

/-- The larger (or smaller) of two lanes; a NaN lane yields the other operand, and of two equal zeros either may result (R171). -/
def pickLane (key : List Nat) (wantMax : Bool) (x y : Nat) : Nat :=
  let x := flush32 x
  let y := flush32 y
  if isNan32 x && isNan32 y then pickNum key [x, y]
  else if isNan32 x then y
  else if isNan32 y then x
  else if (readF32 x).lt (readF32 y) then (if wantMax then y else x)
  else if (readF32 y).lt (readF32 x) then (if wantMax then x else y)
  else pickNum key [x, y]

/-- A value rounded to FP32 between two levels of VRSUM; a NaN stays a NaN. -/
def FV.round32 (v : FV) : FV := if v.isNan then .nan else readF32 v.toF32

/-- One level of the pairwise sum of VRSUM (R173). -/
def pairSum : List FV → List FV
  | a :: b :: t => (a.add b).round32 :: pairSum t
  | l => l

/-- The sum of 32 lanes in five rounded levels (R173). -/
def treeSum (l : List FV) : FV := ((pairSum (pairSum (pairSum (pairSum (pairSum l))))).getD 0 (.num false 0 0))

/-- The largest lane (R171): NaN lanes yield to the others; the choice among equal zeros is open. -/
def maxLane (key : List Nat) (l : List Nat) : Nat :=
  let l := l.map flush32
  let n := l.filter fun x => !isNan32 x
  pickNum key (if n.isEmpty then l else n.filter fun x => !n.any fun y => (readF32 x).lt (readF32 y))

/-- The elements and lanes that part `part` of VUNPK and VPACK pairs (R174). -/
def packMoves (fmt part : Nat) : List (Nat × Nat) :=
  let e := 256 / elemBits fmt
  if 32 ≤ e then (List.range 32).map fun i => (32 * part + i, i) else (List.range e).map fun i => (i, e * part + i)

/-- The FP32 bits of element `x` of format `fmt` (R175): exact, but for INT32; a NaN element's bits are open. -/
def unpackElem (fmt x : Nat) : Nat :=
  if fmt = 6 then x
  else match readElem fmt x with
    | .num n m ex => writeF32 n m ex
    | v => bitsOf [opKey 4 0x11, fmt, x] v

/-- VUNPK (R174, R175): elements of t[A] into lanes of v[D]. -/
def Frond.vunpk (F : Frond) (d a fmt part : Nat) : Frond :=
  let tok := (F.tr a).toNat
  forIn' (packMoves fmt part) (fun mv F => F.setLane d mv.2 (BitVec.ofNat 32 (unpackElem fmt (elemAt fmt tok mv.1)))) F

/-- The element of format `fmt` for an FP32 lane `x` (R175); an open NaN is a function of the two. -/
def packElem (fmt x : Nat) : Nat := (convElem fmt x).getD (nanElem fmt (Config.numeric [opKey 4 0x12, fmt, x]))

/-- VPACK (R174, R175): lanes of v[A] into elements of t[D]; the other elements of a 64-element token stay. -/
def Frond.vpack (F : Frond) (d a fmt part : Nat) : Frond :=
  let w := elemBits fmt
  forIn' (packMoves fmt part) (fun mv F =>
    let m : Payload := BitVec.ofNat 256 ((2 ^ w - 1) <<< (mv.1 * w))
    F.setT d ((F.tr d &&& ~~~m) ||| BitVec.ofNat 256 ((packElem fmt (F.lane a mv.2).toNat % 2 ^ w) <<< (mv.1 * w)))) F

/-- VLD (R171, R172): 128 bytes of the activation store, uncorrectable words as R87. -/
def Part.vld (p : Part) (f d a : Nat) (imm : Word) : Part :=
  let addr := (p.frond f).addr a imm / 128 * 128
  let (ws, p) := p.readUnit f 1 (addr / 8) 16 8192 0x02 0x0103 8
  let bits := joinWords ws
  p.updFrond f fun F => F.setV d ((List.range 32).map fun i => (bits >>> (32 * i)) % 2 ^ 32)

/-- VST (R171, R172). -/
def Frond.vst (F : Frond) (a b : Nat) (imm : Word) : Frond :=
  let addr := F.addr a imm / 128 * 128
  forN 16 (fun i G => G.setWord 1 (addr / 8 + i)
    (BitVec.ofNat 64 ((F.lane b (2 * i)).toNat + (F.lane b (2 * i + 1)).toNat * 2 ^ 32))) F

/-! ### Scalar stores (R153, R154) -/

/-- LD (R153, R154). -/
def Part.ld (p : Part) (f d a : Nat) (imm : Word) : Part :=
  let addr := (p.frond f).addr a imm / 4 * 4
  let (ws, p) := p.readScalar f (addr / 8) 1
  p.updFrond f fun F => F.setS d (BitVec.ofNat 32 (joinWords ws >>> (8 * (addr % 8))))

/-- ST (R153, R154): the other half of the 64-bit word stays; a correctable word is corrected on the way (R86), an uncorrectable one stays so. -/
def Part.st (p : Part) (f a b : Nat) (imm : Word) : Part :=
  let F := p.frond f
  let addr := F.addr a imm / 4 * 4
  let w := addr / 8
  let old := F.word 1 w
  let new := setBits old (8 * (addr % 8)) 32 (F.sr b).toNat
  let ecc := F.eccAt 1 w
  let G := F.setWord 1 w new
  let p := p.setFrond f (if ecc = 2 then { G with ecc := F.ecc } else G)
  if ecc = 1 then p.incS (FAB_CE (f / 64)) else p

/-- LDT (R153, R154). -/
def Part.ldt (p : Part) (f d a : Nat) (imm : Word) : Part :=
  let addr := (p.frond f).addr a imm / 32 * 32
  let (ws, p) := p.readScalar f (addr / 8) 4
  p.updFrond f fun F => F.setT d (BitVec.ofNat 256 (joinWords ws))

/-- STT (R153, R154). -/
def Frond.stt (F : Frond) (a b : Nat) (imm : Word) : Frond :=
  let addr := F.addr a imm / 32 * 32
  forN 4 (fun i G => G.setWord 1 (addr / 8 + i) (BitVec.ofNat 64 ((F.tr b).toNat >>> (64 * i)))) F

/-- GETST (R155). -/
def Frond.getst (F : Frond) (f d : Nat) : Frond :=
  let x := (if F.poison.isSome then 1 else 0) + (if F.seen then 2 else 0) + f * 2 ^ 16
  { F with seen := false }.setS d (BitVec.ofNat 32 x)

/-- TGET (R153). -/
def Frond.tget (F : Frond) (d a k : Nat) : Frond :=
  F.setS d (BitVec.ofNat 32 ((F.tr a).toNat >>> (32 * (k % 8))))

/-- TSET (R153). -/
def Frond.tset (F : Frond) (d a k : Nat) : Frond :=
  let m : Payload := BitVec.ofNat 256 ((2 ^ 32 - 1) <<< (32 * (k % 8)))
  F.setT d ((F.tr d &&& ~~~m) ||| BitVec.ofNat 256 ((F.sr a).toNat <<< (32 * (k % 8))))

/-! ### Stream instructions (R156 to R161, R176) -/

/-- Whether a stream or event instruction must wait (R156, R160, R176). -/
def Part.mustWait (p : Part) (f : Nat) (op : FOp) : Bool :=
  let F := p.frond f
  match op with
  | .recv _ _ q => (F.queue q).toks.isEmpty
  | .recvp _ _ q => (F.queue q).toks.isEmpty
  | .waitany _ mask => (upTo 16 fun q => mask.testBit q && !(F.queue q).toks.isEmpty).isEmpty
  | .send _ q => !p.slotCredit f q
  | .sendeos q => !p.slotCredit f q
  | .sendpsn _ _ q => !p.slotCredit f q
  | .fwd _ q slot => (F.queue q).toks.isEmpty || !p.slotCredit f slot
  | .evt _ _ q _ => !p.slotCredit f q
  | _ => false

/-- RECV and RECVP (R157, R158). -/
def Part.recv (p : Part) (f d b q : Nat) (aware : Bool) : Part :=
  match ((p.frond f).queue q).toks with
  | [] => p
  | (kind, pay) :: _ =>
    -- a token that is consumed opens its stream before poison state is set (R143, R113)
    let p := if kind = 2 ∧ !aware then
        (p.updFrond f fun F => { F with closedIn := F.closedIn.filter (· != q) }.enterPoison pay)
      else p
    let p := p.dequeue f q
    p.updFrond f fun F =>
      let F := F.setS b (BitVec.ofNat 32 kind)
      match kind with
      | 1 => F
      | 2 => F.setT d (if aware then pay else 0)
      | _ => F.setT d pay

/-- FWD (R159 to R161). -/
def Part.fwd (p : Part) (f d q slot : Nat) : Part :=
  match ((p.frond f).queue q).toks with
  | [] => p
  | (kind, pay) :: _ =>
    let p := if kind = 2 then
        (p.updFrond f fun F => { F with closedIn := F.closedIn.filter (· != q) }.enterPoison pay)
      else p
    -- the token leaves as it stood before an EOS ends poison state
    let p := (p.frondSend f slot kind pay).dequeue f q
    p.updFrond f fun F => F.setS d (BitVec.ofNat 32 kind)

/-- TEST (R156). -/
def Frond.test (F : Frond) (d q : Nat) : Frond :=
  let t := (F.queue q).toks
  F.setS d (BitVec.ofNat 32 (t.length % 32 + (match t with
    | [] => 0
    | (k, _) :: _ => k * 256)))

/-- WAITANY (R156). -/
def Frond.waitany (F : Frond) (d mask : Nat) : Frond :=
  F.setS d (BitVec.ofNat 32 ((upTo 16 fun q => mask.testBit q && !(F.queue q).toks.isEmpty).headD 0))

/-- The payload of an EVENT token (R176). -/
def Frond.evtPay (F : Frond) (f a b code : Nat) : Payload :=
  BitVec.ofNat 256 (code % 64 + f * 2 ^ 16 + (F.sr a).toNat * 2 ^ 32 + (F.sr b).toNat * 2 ^ 64)

/-! ### One instruction -/

/-- A change of frond f followed by the next address. -/
def Part.fset (p : Part) (f : Nat) (g : Frond → Frond) : Part := p.updFrond f fun F => (g F).next

/-- A scalar result s[D] of two scalar sources. -/
def Part.salu (p : Part) (f d a b : Nat) (g : Word → Word → Word) : Part :=
  p.fset f fun F => F.setS d (g (F.sr a) (F.sr b))

/-- A nonlinear vector function lane by lane (R173); `op` is its OP. -/
def Part.vfun (p : Part) (f d a op : Nat) (g : FV → Approx) : Part :=
  let F := p.frond f
  (p.vlanes f d fun i =>
    let x := flush32 (F.lane a i).toNat
    bitsOfApprox [opKey 4 op, x] (g (readF32 x))).fset f id

/-- An arithmetic operation lane by lane, rounded once (R172); `op` is its OP, and `args` the lanes that it takes. -/
def Part.varith (p : Part) (f d op : Nat) (args : Nat → List Nat) (g : List FV → FV) : Part :=
  (p.vlanes f d fun i => bitsOf (opKey 4 op :: args i) (g ((args i).map opF32))).fset f id

/-- The first operand of a list. -/
def fv0 (l : List FV) : FV := l.getD 0 .nan
/-- The second operand of a list. -/
def fv1 (l : List FV) : FV := l.getD 1 .nan

/-- The effect of one instruction of frond f that need not wait, and the next address (R147). -/
def Part.frondExec (p : Part) (f : Nat) (op : FOp) : Part :=
  let F := p.frond f
  let x := fun (r i : Nat) => (F.lane r i).toNat
  match op with
  | .nop => p.fset f id
  | .br t => p.updFrond f fun F => F.branch true t
  | .beq a b t => p.updFrond f fun F => F.branch (F.sr a == F.sr b) t
  | .bne a b t => p.updFrond f fun F => F.branch (F.sr a != F.sr b) t
  | .blt a b t => p.updFrond f fun F => F.branch (decide ((F.sr a).toInt < (F.sr b).toInt)) t
  | .loop useReg a count last => p.updFrond f fun F => F.loopStart (if useReg then (F.sr a).toNat else count) last
  | .halt => p.fset f fun F => { F with running := false }
  | .li d imm => p.fset f fun F => F.setS d imm
  | .add d a b => p.salu f d a b (· + ·)
  | .sub d a b => p.salu f d a b (· - ·)
  | .addi d a imm => p.fset f fun F => F.setS d (F.sr a + imm)
  | .mul d a b => p.salu f d a b (· * ·)
  | .band d a b => p.salu f d a b (· &&& ·)
  | .bor d a b => p.salu f d a b (· ||| ·)
  | .bxor d a b => p.salu f d a b (· ^^^ ·)
  | .shl d a n => p.fset f fun F => F.setS d (F.sr a <<< (n % 32))
  | .shr d a n => p.fset f fun F => F.setS d (F.sr a >>> (n % 32))
  | .sra d a n => p.fset f fun F => F.setS d ((F.sr a).sshiftRight (n % 32))
  | .ld d a imm => (p.ld f d a imm).fset f id
  | .st a b imm => (p.st f a b imm).fset f id
  | .getst d => p.fset f fun F => F.getst f d
  | .tget d a k => p.fset f fun F => F.tget d a k
  | .tset d a k => p.fset f fun F => F.tset d a k
  | .vget d a k => p.fset f fun F => F.setS d (F.lane a (k % 32))
  | .vset d a k => p.fset f fun F => F.setLane d (k % 32) (F.sr a)
  | .ldt d a imm => (p.ldt f d a imm).fset f id
  | .stt a b imm => p.fset f fun F => F.stt a b imm
  | .recv d b q => (p.recv f d b q false).fset f id
  | .recvp d b q => (p.recv f d b q true).fset f id
  | .test d q => p.fset f fun F => F.test d q
  | .waitany d mask => p.fset f fun F => F.waitany d mask
  | .send a q => (p.frondSend f q 0 (F.tr a)).fset f id
  | .sendeos q => (p.frondSend f q 1 0).fset f id
  | .sendpsn a b q =>
    (p.frondSend f q 2 (poisonPay 0x04 f ((F.sr a).toNat + (F.sr b).toNat * 2 ^ 32))).fset f id
  | .fwd d q slot => (p.fwd f d q slot).fset f id
  | .mcfg w a => p.fset f fun F => { F with wfmt := w, afmt := a, acc := [] }
  | .mac a b acc z inc => (p.mac f a b acc z inc).fset f id
  | .accrd d acc clr => p.fset f fun F => F.accRead d acc clr
  | .accwr a acc => p.fset f fun F => F.accWrite a acc
  | .vadd d a b => p.varith f d 0x00 (fun i => [x a i, x b i]) fun l => (fv0 l).add (fv1 l)
  | .vsub d a b => p.varith f d 0x01 (fun i => [x a i, x b i]) fun l => (fv0 l).add (fv1 l).negate
  | .vmul d a b => p.varith f d 0x02 (fun i => [x a i, x b i]) fun l => (fv0 l).mul (fv1 l)
  | .vfma d a b => p.varith f d 0x03 (fun i => [x a i, x b i, x d i]) fun l => ((fv0 l).mul (fv1 l)).add (l.getD 2 .nan)
  | .vmax d a b => (p.vlanes f d fun i => pickLane [opKey 4 0x04, x a i, x b i] true (x a i) (x b i)).fset f id
  | .vmin d a b => (p.vlanes f d fun i => pickLane [opKey 4 0x05, x a i, x b i] false (x a i) (x b i)).fset f id
  | .vscl d a b => p.varith f d 0x06 (fun i => [x a i, (F.sr b).toNat]) fun l => (fv0 l).mul (fv1 l)
  | .vofs d a b => p.varith f d 0x07 (fun i => [x a i, (F.sr b).toNat]) fun l => (fv0 l).add (fv1 l)
  | .vexp d a => p.vfun f d a 0x08 exp32
  | .vlog d a => p.vfun f d a 0x09 log32
  | .vtanh d a => p.vfun f d a 0x0A tanh32
  | .vsigm d a => p.vfun f d a 0x0B sigm32
  | .vrcp d a => p.vfun f d a 0x0C rcp32
  | .vrsqrt d a => p.vfun f d a 0x0D rsqrt32
  | .vsilu d a => p.vfun f d a 0x0E silu32
  | .vrsum d a =>
    let l := (List.range 32).map (x a)
    (p.vlanes f d fun _ => bitsOf (opKey 4 0x0F :: l) (treeSum (l.map opF32))).fset f id
  | .vrmax d a =>
    let l := (List.range 32).map (x a)
    (p.vlanes f d fun _ => maxLane (opKey 4 0x10 :: l) l).fset f id
  | .vunpk d a fmt part => p.fset f fun F => F.vunpk d a fmt part
  | .vpack d a fmt part => p.fset f fun F => F.vpack d a fmt part
  | .vld d a imm => (p.vld f d a imm).fset f id
  | .vst a b imm => p.fset f fun F => F.vst a b imm
  | .vbcast d a => p.fset f fun F => F.setV d (List.replicate 32 (F.sr a).toNat)
  | .vmov d a => p.fset f fun F => F.setV d ((List.range 32).map fun i => (F.lane a i).toNat)
  | .evt a b q code => (p.frondSend f q 4 (F.evtPay f a b code)).fset f id

/-- The tokens that a frond owes before it stops (R88) leave while they have credit; when none is left the frond stops. -/
def Part.payOwed (p : Part) (f : Nat) : List (Nat × Nat × Payload) → Part
  | [] => p.updFrond f fun F => { F with owed := [], running := false, wait := none }
  | (q, kind, pay) :: rest =>
    if p.slotCredit f q then (p.frondSend f q kind pay).payOwed f rest
    else p.updFrond f fun F => { F with owed := (q, kind, pay) :: rest }

/-- An instruction fetch meets an uncorrectable word (R88). The poison's DETAIL is the word's byte address in the program store (DEDUCED, notes/assumptions/83.md), and the frond starts again only once its program store was reloaded. -/
def Part.progUe (p : Part) (f : Nat) : Part :=
  let p := p.updFrond f fun F => { F with needLoad := true }
  let F := p.frond f
  let pay := poisonPay 0x03 f (8 * F.pc)
  let outs := upTo 16 fun q => (F.slot q).bound && !F.closedOut.contains q
  let p := p.raiseBoth (0x0100 + f / 64) 0x0104 (p.frondHedge f) noDetail
  p.payOwed f (outs.flatMap fun q => [(q, 2, pay), (q, 1, 0)])

/-- Whether an instruction of a frond takes a branch (R150). -/
def Frond.takes (F : Frond) : FOp → Bool
  | .beq a b _ => F.sr a == F.sr b
  | .bne a b _ => F.sr a != F.sr b
  | .blt a b _ => decide ((F.sr a).toInt < (F.sr b).toInt)
  | _ => false

/-- An instruction of frond f that need not wait takes its effect, and its steps are counted (R147, R148, R543). -/
def Part.frondDo (p : Part) (f : Nat) (op : FOp) : Part :=
  let n := stepsOf ((p.frond f).takes op) op
  (p.profile (f / 64) fun c => { c with steps := Tab.upd 0 (f / 64) (· + n) c.steps }).frondExec f op

/-- Frond f issues an instruction: it waits, or takes its effect (R147, R148). -/
def Part.frondIssue (p : Part) (f : Nat) (op : FOp) : Part :=
  if p.mustWait f op then p.updFrond f fun F => { F with wait := some op } else p.frondDo f op

/-- Frond f fetches and issues an instruction (R86, R88). -/
def Part.frondFetch (p : Part) (f : Nat) (op : FOp) : Part :=
  match (p.frond f).eccAt 2 (p.frond f).pc with
  | 0 => p.frondIssue f op
  | 1 =>
    let p := p.updFrond f fun F => F.setWord 2 F.pc (F.word 2 F.pc)
    (p.incS (FAB_CE (f / 64))).frondIssue f op
  | _ => p.progUe f

/-- Whether frond f is free to issue: running, not debug-halted, not waiting, owing nothing. -/
def Frond.ready (F : Frond) : Bool := F.running && !F.halted && F.wait.isNone && F.owed.isEmpty

/-- The instruction that the program store holds at the program counter, where its word can be read (R147). -/
def Frond.nextOp (F : Frond) : Option FOp := if F.eccAt 2 F.pc = 2 then some .nop else finstr (F.word 2 F.pc)

/-- Whether the instruction `op` is the next one of the frond's program, or its word cannot be read, so that any row meets the error (R88, R147). -/
def Frond.isNext (F : Frond) (op : FOp) : Bool := F.eccAt 2 F.pc == 2 || finstr (F.word 2 F.pc) == some op

/-- One instruction row of a frond: it takes effect only when the frond is ready to issue and the instruction is the next one of its program (R85, R147, R540). -/
def Part.frondRun (p : Part) (f : Nat) (op : FOp) : Part :=
  if isFrond f ∧ (p.frond f).ready ∧ (p.frond f).isNext op then p.frondFetch f op else p

/-- START reaches a frond (R139, R141): a running frond ignores it, and so does one whose program store still awaits its reload (R88). -/
def Frond.start (F : Frond) : Frond :=
  if F.running || F.needLoad then F
  else { F with
    running := true, halted := false, wait := none, pc := 0, s := [], t := [], v := [], acc := [], wfmt := 0, afmt := 0,
    loops := [], poison := none, eosWait := [], closedIn := [], closedOut := [], owed := [] }

/-- STOP reaches a frond (R141, R142): a waiting instruction is abandoned. -/
def Frond.stop (F : Frond) : Frond :=
  if F.running then { F with running := false, halted := false, wait := none, owed := [] } else F

/-- A waiting frond finds its token or credit (R148): the instruction completes. -/
def Part.waitResume (p : Part) (f : Nat) : Part :=
  let F := p.frond f
  if !F.running || F.halted then p
  else if !F.owed.isEmpty then p.payOwed f F.owed
  else match F.wait with
    | none => p
    | some op =>
      if p.mustWait f op then p else (p.updFrond f fun F => { F with wait := none }).frondDo f op

/-- A write of the management processor to a frond's program store, which counts as its reload (R85, R88; DEDUCED, notes/assumptions/84.md): rejected with STATE (0x06) while the frond runs and is not debug-halted. -/
def Part.progWrite (p : Part) (f w : Nat) (v : Dword) : Part :=
  if (p.frond f).running && !(p.frond f).halted then p.emit (.value 16 (f * 2048 + w % 2048) 0x06)
  else p.updFrond f fun F => { F.setWord 2 (w % 2048) v with needLoad := false }

/-! ### Meanings -/

/-- START_TOKEN (R139, R141). -/
def execStartToken (f : Nat) (s : State) : Host.Outcome State Fault Refusal :=
  onPartIf (isFrond f) (fun p => p.updFrond f Frond.start) s

/-- STOP_TOKEN (R141, R142). -/
def execStopToken (f : Nat) (s : State) : Host.Outcome State Fault Refusal :=
  onPartIf (isFrond f) (fun p => p.updFrond f Frond.stop) s

/-- PROGRAM_STORE_WRITE (R85). -/
def execProgramStoreWrite (f word : Nat) (v : Dword) (s : State) : Host.Outcome State Fault Refusal :=
  onPartIf (isFrond f ∧ word < 2048) (fun p => p.progWrite f word v) s

/-- STREAM_WAIT_RESUME (R148). -/
def execFStreamWaitResume (f : Nat) (s : State) : Host.Outcome State Fault Refusal :=
  onPartIf (isFrond f) (fun p => p.waitResume f) s

/-! Each instruction row runs its instruction in its frond; the effect of each is the arm of `Part.frondExec`. -/


/-- NOP, as frond `f` runs it. -/
def execFNop (f : Nat) (s : State) : Host.Outcome State Fault Refusal :=
  onPart (fun p => p.frondRun f (.nop)) s

/-- BR, as frond `f` runs it. -/
def execFBr (f : Nat) (target : Nat) (s : State) : Host.Outcome State Fault Refusal :=
  onPart (fun p => p.frondRun f (.br target)) s

/-- BEQ, as frond `f` runs it. -/
def execFBeq (f : Nat) (a : Nat) (b : Nat) (target : Nat) (s : State) : Host.Outcome State Fault Refusal :=
  onPart (fun p => p.frondRun f (.beq a b target)) s

/-- BNE, as frond `f` runs it. -/
def execFBne (f : Nat) (a : Nat) (b : Nat) (target : Nat) (s : State) : Host.Outcome State Fault Refusal :=
  onPart (fun p => p.frondRun f (.bne a b target)) s

/-- BLT, as frond `f` runs it. -/
def execFBlt (f : Nat) (a : Nat) (b : Nat) (target : Nat) (s : State) : Host.Outcome State Fault Refusal :=
  onPart (fun p => p.frondRun f (.blt a b target)) s

/-- LOOP, as frond `f` runs it. -/
def execFLoop (f : Nat) (useReg : Bool) (a : Nat) (count : Nat) (last : Nat) (s : State) : Host.Outcome State Fault Refusal :=
  onPart (fun p => p.frondRun f (.loop useReg a count last)) s

/-- HALT, as frond `f` runs it. -/
def execFHalt (f : Nat) (s : State) : Host.Outcome State Fault Refusal :=
  onPart (fun p => p.frondRun f (.halt)) s

/-- LI, as frond `f` runs it. -/
def execFLi (f : Nat) (d : Nat) (imm : Word) (s : State) : Host.Outcome State Fault Refusal :=
  onPart (fun p => p.frondRun f (.li d imm)) s

/-- ADD, as frond `f` runs it. -/
def execFAdd (f : Nat) (d : Nat) (a : Nat) (b : Nat) (s : State) : Host.Outcome State Fault Refusal :=
  onPart (fun p => p.frondRun f (.add d a b)) s

/-- SUB, as frond `f` runs it. -/
def execFSub (f : Nat) (d : Nat) (a : Nat) (b : Nat) (s : State) : Host.Outcome State Fault Refusal :=
  onPart (fun p => p.frondRun f (.sub d a b)) s

/-- ADDI, as frond `f` runs it. -/
def execFAddi (f : Nat) (d : Nat) (a : Nat) (imm : Word) (s : State) : Host.Outcome State Fault Refusal :=
  onPart (fun p => p.frondRun f (.addi d a imm)) s

/-- MUL, as frond `f` runs it. -/
def execFMul (f : Nat) (d : Nat) (a : Nat) (b : Nat) (s : State) : Host.Outcome State Fault Refusal :=
  onPart (fun p => p.frondRun f (.mul d a b)) s

/-- AND, as frond `f` runs it. -/
def execFAnd (f : Nat) (d : Nat) (a : Nat) (b : Nat) (s : State) : Host.Outcome State Fault Refusal :=
  onPart (fun p => p.frondRun f (.band d a b)) s

/-- OR, as frond `f` runs it. -/
def execFOr (f : Nat) (d : Nat) (a : Nat) (b : Nat) (s : State) : Host.Outcome State Fault Refusal :=
  onPart (fun p => p.frondRun f (.bor d a b)) s

/-- XOR, as frond `f` runs it. -/
def execFXor (f : Nat) (d : Nat) (a : Nat) (b : Nat) (s : State) : Host.Outcome State Fault Refusal :=
  onPart (fun p => p.frondRun f (.bxor d a b)) s

/-- SHL, as frond `f` runs it. -/
def execFShl (f : Nat) (d : Nat) (a : Nat) (n : Nat) (s : State) : Host.Outcome State Fault Refusal :=
  onPart (fun p => p.frondRun f (.shl d a n)) s

/-- SHR, as frond `f` runs it. -/
def execFShr (f : Nat) (d : Nat) (a : Nat) (n : Nat) (s : State) : Host.Outcome State Fault Refusal :=
  onPart (fun p => p.frondRun f (.shr d a n)) s

/-- SRA, as frond `f` runs it. -/
def execFSra (f : Nat) (d : Nat) (a : Nat) (n : Nat) (s : State) : Host.Outcome State Fault Refusal :=
  onPart (fun p => p.frondRun f (.sra d a n)) s

/-- LD, as frond `f` runs it. -/
def execFLd (f : Nat) (d : Nat) (a : Nat) (imm : Word) (s : State) : Host.Outcome State Fault Refusal :=
  onPart (fun p => p.frondRun f (.ld d a imm)) s

/-- ST, as frond `f` runs it. -/
def execFSt (f : Nat) (a : Nat) (b : Nat) (imm : Word) (s : State) : Host.Outcome State Fault Refusal :=
  onPart (fun p => p.frondRun f (.st a b imm)) s

/-- GETST, as frond `f` runs it. -/
def execFGetst (f : Nat) (d : Nat) (s : State) : Host.Outcome State Fault Refusal :=
  onPart (fun p => p.frondRun f (.getst d)) s

/-- TGET, as frond `f` runs it. -/
def execFTget (f : Nat) (d : Nat) (a : Nat) (k : Nat) (s : State) : Host.Outcome State Fault Refusal :=
  onPart (fun p => p.frondRun f (.tget d a k)) s

/-- TSET, as frond `f` runs it. -/
def execFTset (f : Nat) (d : Nat) (a : Nat) (k : Nat) (s : State) : Host.Outcome State Fault Refusal :=
  onPart (fun p => p.frondRun f (.tset d a k)) s

/-- VGET, as frond `f` runs it. -/
def execFVget (f : Nat) (d : Nat) (a : Nat) (k : Nat) (s : State) : Host.Outcome State Fault Refusal :=
  onPart (fun p => p.frondRun f (.vget d a k)) s

/-- VSET, as frond `f` runs it. -/
def execFVset (f : Nat) (d : Nat) (a : Nat) (k : Nat) (s : State) : Host.Outcome State Fault Refusal :=
  onPart (fun p => p.frondRun f (.vset d a k)) s

/-- LDT, as frond `f` runs it. -/
def execFLdt (f : Nat) (d : Nat) (a : Nat) (imm : Word) (s : State) : Host.Outcome State Fault Refusal :=
  onPart (fun p => p.frondRun f (.ldt d a imm)) s

/-- STT, as frond `f` runs it. -/
def execFStt (f : Nat) (a : Nat) (b : Nat) (imm : Word) (s : State) : Host.Outcome State Fault Refusal :=
  onPart (fun p => p.frondRun f (.stt a b imm)) s

/-- RECV, as frond `f` runs it. -/
def execFRecv (f : Nat) (d : Nat) (b : Nat) (q : Nat) (s : State) : Host.Outcome State Fault Refusal :=
  onPart (fun p => p.frondRun f (.recv d b q)) s

/-- RECVP, as frond `f` runs it. -/
def execFRecvp (f : Nat) (d : Nat) (b : Nat) (q : Nat) (s : State) : Host.Outcome State Fault Refusal :=
  onPart (fun p => p.frondRun f (.recvp d b q)) s

/-- TEST, as frond `f` runs it. -/
def execFTest (f : Nat) (d : Nat) (q : Nat) (s : State) : Host.Outcome State Fault Refusal :=
  onPart (fun p => p.frondRun f (.test d q)) s

/-- WAITANY, as frond `f` runs it. -/
def execFWaitany (f : Nat) (d : Nat) (mask : Nat) (s : State) : Host.Outcome State Fault Refusal :=
  onPart (fun p => p.frondRun f (.waitany d mask)) s

/-- SEND, as frond `f` runs it. -/
def execFSend (f : Nat) (a : Nat) (q : Nat) (s : State) : Host.Outcome State Fault Refusal :=
  onPart (fun p => p.frondRun f (.send a q)) s

/-- SENDEOS, as frond `f` runs it. -/
def execFSendeos (f : Nat) (q : Nat) (s : State) : Host.Outcome State Fault Refusal :=
  onPart (fun p => p.frondRun f (.sendeos q)) s

/-- SENDPSN, as frond `f` runs it. -/
def execFSendpsn (f : Nat) (a : Nat) (b : Nat) (q : Nat) (s : State) : Host.Outcome State Fault Refusal :=
  onPart (fun p => p.frondRun f (.sendpsn a b q)) s

/-- FWD, as frond `f` runs it. -/
def execFFwd (f : Nat) (d : Nat) (q : Nat) (slot : Nat) (s : State) : Host.Outcome State Fault Refusal :=
  onPart (fun p => p.frondRun f (.fwd d q slot)) s

/-- MCFG, as frond `f` runs it. -/
def execFMcfg (f : Nat) (wfmt : Nat) (afmt : Nat) (s : State) : Host.Outcome State Fault Refusal :=
  onPart (fun p => p.frondRun f (.mcfg wfmt afmt)) s

/-- MAC, as frond `f` runs it. -/
def execFMac (f : Nat) (a : Nat) (b : Nat) (acc : Nat) (z : Bool) (inc : Bool) (s : State) : Host.Outcome State Fault Refusal :=
  onPart (fun p => p.frondRun f (.mac a b acc z inc)) s

/-- ACCRD, as frond `f` runs it. -/
def execFAccrd (f : Nat) (d : Nat) (acc : Nat) (clr : Bool) (s : State) : Host.Outcome State Fault Refusal :=
  onPart (fun p => p.frondRun f (.accrd d acc clr)) s

/-- ACCWR, as frond `f` runs it. -/
def execFAccwr (f : Nat) (a : Nat) (acc : Nat) (s : State) : Host.Outcome State Fault Refusal :=
  onPart (fun p => p.frondRun f (.accwr a acc)) s

/-- VADD, as frond `f` runs it. -/
def execFVadd (f : Nat) (d : Nat) (a : Nat) (b : Nat) (s : State) : Host.Outcome State Fault Refusal :=
  onPart (fun p => p.frondRun f (.vadd d a b)) s

/-- VSUB, as frond `f` runs it. -/
def execFVsub (f : Nat) (d : Nat) (a : Nat) (b : Nat) (s : State) : Host.Outcome State Fault Refusal :=
  onPart (fun p => p.frondRun f (.vsub d a b)) s

/-- VMUL, as frond `f` runs it. -/
def execFVmul (f : Nat) (d : Nat) (a : Nat) (b : Nat) (s : State) : Host.Outcome State Fault Refusal :=
  onPart (fun p => p.frondRun f (.vmul d a b)) s

/-- VFMA, as frond `f` runs it. -/
def execFVfma (f : Nat) (d : Nat) (a : Nat) (b : Nat) (s : State) : Host.Outcome State Fault Refusal :=
  onPart (fun p => p.frondRun f (.vfma d a b)) s

/-- VMAX, as frond `f` runs it. -/
def execFVmax (f : Nat) (d : Nat) (a : Nat) (b : Nat) (s : State) : Host.Outcome State Fault Refusal :=
  onPart (fun p => p.frondRun f (.vmax d a b)) s

/-- VMIN, as frond `f` runs it. -/
def execFVmin (f : Nat) (d : Nat) (a : Nat) (b : Nat) (s : State) : Host.Outcome State Fault Refusal :=
  onPart (fun p => p.frondRun f (.vmin d a b)) s

/-- VSCL, as frond `f` runs it. -/
def execFVscl (f : Nat) (d : Nat) (a : Nat) (b : Nat) (s : State) : Host.Outcome State Fault Refusal :=
  onPart (fun p => p.frondRun f (.vscl d a b)) s

/-- VOFS, as frond `f` runs it. -/
def execFVofs (f : Nat) (d : Nat) (a : Nat) (b : Nat) (s : State) : Host.Outcome State Fault Refusal :=
  onPart (fun p => p.frondRun f (.vofs d a b)) s

/-- VEXP, as frond `f` runs it. -/
def execFVexp (f : Nat) (d : Nat) (a : Nat) (s : State) : Host.Outcome State Fault Refusal :=
  onPart (fun p => p.frondRun f (.vexp d a)) s

/-- VLOG, as frond `f` runs it. -/
def execFVlog (f : Nat) (d : Nat) (a : Nat) (s : State) : Host.Outcome State Fault Refusal :=
  onPart (fun p => p.frondRun f (.vlog d a)) s

/-- VTANH, as frond `f` runs it. -/
def execFVtanh (f : Nat) (d : Nat) (a : Nat) (s : State) : Host.Outcome State Fault Refusal :=
  onPart (fun p => p.frondRun f (.vtanh d a)) s

/-- VSIGM, as frond `f` runs it. -/
def execFVsigm (f : Nat) (d : Nat) (a : Nat) (s : State) : Host.Outcome State Fault Refusal :=
  onPart (fun p => p.frondRun f (.vsigm d a)) s

/-- VRCP, as frond `f` runs it. -/
def execFVrcp (f : Nat) (d : Nat) (a : Nat) (s : State) : Host.Outcome State Fault Refusal :=
  onPart (fun p => p.frondRun f (.vrcp d a)) s

/-- VRSQRT, as frond `f` runs it. -/
def execFVrsqrt (f : Nat) (d : Nat) (a : Nat) (s : State) : Host.Outcome State Fault Refusal :=
  onPart (fun p => p.frondRun f (.vrsqrt d a)) s

/-- VSILU, as frond `f` runs it. -/
def execFVsilu (f : Nat) (d : Nat) (a : Nat) (s : State) : Host.Outcome State Fault Refusal :=
  onPart (fun p => p.frondRun f (.vsilu d a)) s

/-- VRSUM, as frond `f` runs it. -/
def execFVrsum (f : Nat) (d : Nat) (a : Nat) (s : State) : Host.Outcome State Fault Refusal :=
  onPart (fun p => p.frondRun f (.vrsum d a)) s

/-- VRMAX, as frond `f` runs it. -/
def execFVrmax (f : Nat) (d : Nat) (a : Nat) (s : State) : Host.Outcome State Fault Refusal :=
  onPart (fun p => p.frondRun f (.vrmax d a)) s

/-- VUNPK, as frond `f` runs it. -/
def execFVunpk (f : Nat) (d : Nat) (a : Nat) (fmt : Nat) (part : Nat) (s : State) : Host.Outcome State Fault Refusal :=
  onPart (fun p => p.frondRun f (.vunpk d a fmt part)) s

/-- VPACK, as frond `f` runs it. -/
def execFVpack (f : Nat) (d : Nat) (a : Nat) (fmt : Nat) (part : Nat) (s : State) : Host.Outcome State Fault Refusal :=
  onPart (fun p => p.frondRun f (.vpack d a fmt part)) s

/-- VLD, as frond `f` runs it. -/
def execFVld (f : Nat) (d : Nat) (a : Nat) (imm : Word) (s : State) : Host.Outcome State Fault Refusal :=
  onPart (fun p => p.frondRun f (.vld d a imm)) s

/-- VST, as frond `f` runs it. -/
def execFVst (f : Nat) (a : Nat) (b : Nat) (imm : Word) (s : State) : Host.Outcome State Fault Refusal :=
  onPart (fun p => p.frondRun f (.vst a b imm)) s

/-- VBCAST, as frond `f` runs it. -/
def execFVbcast (f : Nat) (d : Nat) (a : Nat) (s : State) : Host.Outcome State Fault Refusal :=
  onPart (fun p => p.frondRun f (.vbcast d a)) s

/-- VMOV, as frond `f` runs it. -/
def execFVmov (f : Nat) (d : Nat) (a : Nat) (s : State) : Host.Outcome State Fault Refusal :=
  onPart (fun p => p.frondRun f (.vmov d a)) s

/-- EVT, as frond `f` runs it. -/
def execFEvt (f : Nat) (a : Nat) (b : Nat) (q : Nat) (code : Nat) (s : State) : Host.Outcome State Fault Refusal :=
  onPart (fun p => p.frondRun f (.evt a b q code)) s
end Sys2Proof.Machine
end

