-- ==== Sys2Proof/Machine/Fabric.lean ====
section
/-!
DEFINITION. Sys2Proof/Machine/Fabric.lean: credits, drops, hedge checks, the gateway's routes, the stall monitor, and stopping a hedge (R89 to R137).
-/

namespace Sys2Proof.Machine

open Sys2Proof

/-! ### Ownership -/

/-- The owner of bracken `b`, where it has one. -/
def Part.brkOwner (p : Part) (b : Nat) : Option Nat :=
  if p.flag (FAB_BRK_OWNER_OWNED b) then some (p.fg (FAB_BRK_OWNER_HEDGE b)) else none

/-- Whether hedge `h` owns bracken `b`. -/
def Part.ownsBrk (p : Part) (h b : Nat) : Bool := p.brkOwner b == some h

/-- The brackens of hedge `h`. -/
def Part.brackensOf (p : Part) (h : Nat) : List Nat := upTo 64 (p.ownsBrk h)

/-! ### Route tables -/

/-- The neighbour of bracken `b` in direction d: 0 N, 1 E, 2 S, 3 W (R94, R96). -/
def neighbour (b d : Nat) : Option Nat :=
  match d with
  | 0 => if b / 8 = 0 then none else some (b - 8)
  | 1 => if b % 8 = 7 then none else some (b + 1)
  | 2 => if b / 8 = 7 then none else some (b + 8)
  | _ => if b % 8 = 0 then none else some (b - 1)

/-- The destination number of the hub, and of slice n, in a stream's account. -/
def hubDest : Nat := 0x1000
/-- The destination number of slice n in a stream's account. -/
def sliceDest (n : Nat) : Nat := 0x1001 + n

/-- The leaf of a branch that ends at bracken `b` because nothing there takes the token further. -/
def lostAt (b : Nat) : Nat := 0x2000 + b
/-- The leaf of a branch that leaves bracken `b` in direction `d`, where no bracken lies. -/
def lostLink (b d : Nat) : Nat := 0x3000 + 4 * b + d

/-- The leaves of a stream's tree from bracken `b` onward (a path has at most 14 mesh links): its destinations, and the ends of branches that reach none, where every token is dropped and its credit returned (R108). -/
def Part.destsFrom (p : Part) (s : Nat) : Nat → Nat → List Nat
  | 0, _ => []
  | fuel + 1, b =>
    match p.route b s with
    | none => [lostAt b]
    | some m =>
      let ds := (upTo 48 (m.testBit ·)).map (64 * b + ·) ++
        (if m.testBit 52 then [sliceDest (b / 8)] else []) ++
        (if m.testBit 53 then [hubDest] else []) ++
        ((upTo 4 fun d => m.testBit (48 + d)).flatMap fun d =>
          match neighbour b d with
          | some c => p.destsFrom s fuel c
          | none => [lostLink b d])
      if ds.isEmpty then [lostAt b] else ds

/-! ### Credits (R102 to R108) -/

/-- The leaves `ds` of a dropped token's branch return its credit as if each had dequeued the token (R104, R108). -/
def Part.branchReturn (p : Part) (h s : Nat) (ds : List Nat) : Part :=
  forIn' (ds.filter (p.stream h s).dests.contains) (fun x p => p.addReturn h s x) p

/-- The leaves that a token has still to reach when it stands at bracken `b` on a channel. -/
def Part.leavesOf (p : Part) (b s : Nat) : Chan → List Nat
  | .hedge => p.destsFrom s 16 b
  | .toHub => [hubDest]
  | .toBracken x => p.destsFrom s 16 x
  | .toFrond f => [f]

/-- A dropped token's credit goes back as if every destination that it had still to reach had dequeued it (R108, R104); a stream whose account names no destination gets it back at once. -/
def Part.dropReturn (p : Part) (b : Nat) (ch : Chan) (t : Tok) : Part :=
  if (p.stream t.hedge t.stream).dests.isEmpty then p.addReturn t.hedge t.stream (lostAt b)
  else p.branchReturn t.hedge t.stream (p.leavesOf b t.stream ch)

/-- One destination's return joins the account; the producer gains a credit when every destination has returned one (R104). -/
def StreamCr.ret (c : StreamCr) (d : Nat) : StreamCr :=
  let r := Tab.upd 0 d (· + 1) c.returned
  if c.dests.all fun e => decide (1 ≤ Tab.get 0 e r) then
    { c with credit := c.credit + 1, returned := c.dests.foldl (fun r e => Tab.upd 0 e (· - 1) r) r }
  else { c with returned := r }

/-! ### Drops and hedge checks (R92, R109, R116 to R118) -/

/-- The tag of a token (R89). -/
def tokTag (t : Tok) : Nat := t.hedge % 16 + (t.stream % 256) * 16 + (t.kind % 16) * 4096

/-- Router `b` drops a token: its credit goes back and FAB_DROP_b counts it. -/
def Part.dropTok (p : Part) (b : Nat) (ch : Chan) (t : Tok) : Part :=
  (p.dropReturn b ch t).incS (FAB_DROP b)

/-- A failed hedge check at bracken `b` is counted and raised (R117, R521, R522): point 0 mesh link, 1 frond, 2 slice port, 3 hub. -/
def Part.violationAt (p : Part) (b point : Nat) (owner : Option Nat) (t : Tok) : Part :=
  let p := (p.incS (FAB_DROP b)).incS (DBG_VIOL (t.hedge % 16))
  let own := match owner with
    | some o => o * 2 ^ 28 + 2 ^ 32
    | none => 0
  p.raiseLimited 0x0901 63 (0x0900 + t.hedge) 0x0901 (some t.hedge) (tokTag t + b * 2 ^ 16 + point * 2 ^ 24 + own) [opRing]

/-- A token of a reserved kind or from a disallowed agent (R92); the detail carries the tag and, from bit 16, the entry port. -/
def Part.kindFault (p : Part) (b port : Nat) (ch : Chan) (t : Tok) : Part :=
  (p.dropTok b ch t).raiseOp (0x0100 + b) 0x0105 (some t.hedge) (tokTag t + port * 2 ^ 16)

/-- A hedge-channel token without a valid route entry (R109). -/
def Part.routeMiss (p : Part) (b : Nat) (ch : Chan) (t : Tok) : Part :=
  (p.dropTok b ch t).raiseBoth (0x0100 + b) 0x0108 t.hedge noDetail

/-! ### The gateway (R119 to R122) -/

/-- Gateway route k's buffer. -/
def Part.gwBuf (p : Part) (k : Nat) : GwBuf := Tab.get {} k p.fab.gw

/-- Gateway route k's buffer set. -/
def Part.setGwBuf (p : Part) (k : Nat) (g : GwBuf) : Part := { p with fab := { p.fab with gw := Tab.put {} k g p.fab.gw } }

/-- The gateway sends a token of route k into the west port of its bracken's row (R96, R101), using one credit. -/
def Part.gwSend (p : Part) (k kind : Nat) (pay : Payload) : Part :=
  let h := p.fg (FAB_GW_ROUTE_HEDGE k)
  let s := p.fg (FAB_GW_ROUTE_STREAM k)
  let b := p.fg (FAB_GW_ROUTE_BRACKEN k)
  let p := (p.updStream h s fun c => { c with credit := c.credit - 1 }).addFlight
    { b := b / 8 * 8, port := 51, ch := .toBracken b, tok := ⟨h, s, kind, pay⟩ }
  -- destinations that only another route of the same stream reaches count as if they had dequeued the token
  let far := (p.stream h s).dests.filter fun x => !(p.destsFrom s 16 b).contains x
  p.branchReturn h s far

/-- Route k delivers what waits while it has credit: first the SLIP for dropped triggers, then its tokens (R122). -/
def Part.gwFlush (p : Part) (k : Nat) : Nat → Part
  | 0 => p
  | fuel + 1 =>
    let g := p.gwBuf k
    let h := p.fg (FAB_GW_ROUTE_HEDGE k)
    let s := p.fg (FAB_GW_ROUTE_STREAM k)
    if (p.stream h s).credit = 0 then p
    else match g.toks with
      | [] => p
      | t :: rest =>
        if g.dropped = 0 then (((p.gwSend k 0 t).setGwBuf k { g with toks := rest }).gwFlush k fuel)
        else (((p.gwSend k 3 (BitVec.ofNat 256 (min g.dropped (2 ^ 32 - 1)))).setGwBuf k { g with dropped := 0 }).gwFlush k fuel)

/-- A trigger's token for route k: sent, buffered, or dropped and counted (R120, R122). -/
def Part.gwToken (p : Part) (k : Nat) (pay : Payload) : Part :=
  let g := p.gwBuf k
  let p := if g.toks.length < 16 then p.setGwBuf k { g with toks := g.toks ++ [pay] }
    else (p.setGwBuf k { g with dropped := min (g.dropped + 1) (2 ^ 32 - 1) }).incS (FAB_GW_OVERRUN k)
  p.gwFlush k 34

/-- The enabled route that wins channel c (R119): the highest PRIORITY, then the lowest number. -/
def Part.gwWinner (p : Part) (c : Nat) : Option Nat :=
  let sel := upTo 32 fun k => p.flag (FAB_GW_ROUTE_ENABLE k) && (p.fg (FAB_GW_ROUTE_CHANNELS k)).testBit c
  sel.foldl (fun w k => match w with
    | none => some k
    | some j => if p.fg (FAB_GW_ROUTE_PRIORITY j) < p.fg (FAB_GW_ROUTE_PRIORITY k) then some k else some j) none

/-- The routes that lose channel c to its winner are marked, and each pair is raised once (R119). -/
def Part.gwConflicts (p : Part) (c : Nat) : Part :=
  match p.gwWinner c with
  | none => p
  | some w =>
    let losers := upTo 32 fun k => k != w && p.flag (FAB_GW_ROUTE_ENABLE k) && (p.fg (FAB_GW_ROUTE_CHANNELS k)).testBit c
    forIn' losers (fun k p =>
      let p := p.fs ⟨FAB_GW_CONFLICT, k, 1⟩ 1
      if p.fab.conflicts.contains (k, w) then p
      else { p with fab := { p.fab with conflicts := p.fab.conflicts ++ [(k, w)] } }.raiseOp 0x0141 0x0109 none noDetail) p

/-- A write of FAB_GW_ROUTE_k (R121); what the route has buffered stays, and goes where the new fields say (DEDUCED, notes/assumptions/85.md): ignored when it sets ENABLE while HEDGE does not own BRACKEN; channels that HEDGE does not own are masked off. -/
def Part.gwRouteWrite (p : Part) (k : Nat) (v : Dword) : Part :=
  let h := getBits v 36 4
  if getBits v 32 1 = 1 && !p.ownsBrk h (getBits v 48 6) then p
  else p.setReg (FAB_GW_ROUTE k)
    ((v &&& 0x003FFFFF00000000) ||| (v &&& BitVec.ofNat 64 (p.hedge h).channels &&& 0xFFFFFFFF))

/-- Gateway routes of hedge `h` are disabled and what they hold is gone (R131 step 1); it never entered the mesh and is not counted in FAB_TEARDOWN_DROPS (DEDUCED, notes/assumptions/86.md). -/
def Part.gwDisable (p : Part) (h : Nat) : Part :=
  forN 32 (fun k p => if p.fg (FAB_GW_ROUTE_HEDGE k) = h then (p.setFlag (FAB_GW_ROUTE_ENABLE k) false).setGwBuf k {} else p) p

/-! ### Stall monitor (R129, R130) -/

/-- The fronds of hedge `h` that run and wait for a token or for credit, lowest number first; one that owes tokens before it stops (R88) waits for credit. -/
def Part.waitingFronds (p : Part) (h : Nat) : List Nat :=
  (p.brackensOf h).flatMap fun b => (upTo 48 fun i =>
    let F := p.frond (64 * b + i)
    F.running && (F.wait.isSome || !F.owed.isEmpty)).map (64 * b + ·)

/-- The stream on which a waiting frond waits; of the queues of a WAITANY it is that of the lowest (DEDUCED, notes/assumptions/87.md). -/
def Part.waitStream (p : Part) (f : Nat) : Nat :=
  let F := p.frond f
  match F.owed with
  | (q, _, _) :: _ => (F.slot q).stream
  | [] => match F.wait with
    | some (.recv _ _ q) => (F.queue q).stream
    | some (.recvp _ _ q) => (F.queue q).stream
    | some (.waitany _ mask) => (F.queue ((upTo 16 (mask.testBit ·)).headD 0)).stream
    | some (.send _ q) => (F.slot q).stream
    | some (.sendeos q) => (F.slot q).stream
    | some (.sendpsn _ _ q) => (F.slot q).stream
    | some (.evt _ _ q _) => (F.slot q).stream
    | some (.fwd _ q slot) => if (F.queue q).toks.isEmpty then (F.queue q).stream else (F.slot slot).stream
    | _ => 0

/-- Whether no frond of hedge `h` has consumed or sent a token for its limit, LIMIT × 10 µs (R129). -/
def Part.stalledLong (p : Part) (h : Nat) : Bool :=
  decide (Tab.get 0 h p.fab.moved + p.fg (FAB_STALL_LIMIT h) * 10000 ≤ p.clock)

/-- No token of a watched hedge has moved for its limit (R129); the detail names the lowest waiting frond and, from bit 16, its stream (DEDUCED, notes/assumptions/87.md). -/
def Part.hedgeStall (p : Part) (h : Nat) : Part :=
  match p.waitingFronds h with
  | [] => p
  | f :: _ =>
    if p.fg (FAB_STALL_LIMIT h) = 0 || p.flag (FAB_STALL_STALLED h) || !p.stalledLong h then p
    else ((p.setFlag (FAB_STALL_STALLED h) true).setFlag (FAB_STALL_STALL_SEEN h) true).raiseBoth (0x0150 + h) 0x0106 h
      (f + p.waitStream f * 2 ^ 16)

/-! ### Stop and clear (R131 to R133) -/

/-- Every token of hedge `h` in flight between places and at the hub, those that wait at its stream ports for credit or to be sent among them, is discarded and counted (R131 step 4); its credits and their accounts go with it. -/
def Part.discardTokens (p : Part) (h : Nat) : Part :=
  let mine := fun (k : Nat) => k / 256 == h
  let ports := (p.hedge h).streamPorts
  let cut := fun (k : Nat) (f : Framer) => { f with
    txq := f.txq.filter fun t => t.hedge != h
    rxq := if 1 ≤ k ∧ ports.testBit (k - 1) then [] else f.rxq }
  let held := fun (f : Framer) => f.txq.length + f.rxq.length
  let count := fun (fs : Tab Framer) => (List.range 9).foldl (fun n k => n + held (Tab.get {} k fs)) 0
  let framers := forN 9 (fun k => Tab.upd {} k (cut k)) p.den.framers
  let n := (p.fab.flight.filter fun e => e.tok.hedge == h).length +
    (p.fab.hubWait.filter fun e => mine e.1).foldl (fun n e => n + e.2.length) 0 +
    (count p.den.framers - count framers)
  let p := { p with den := { p.den with framers := framers } }
  { p with fab := { p.fab with
      flight := p.fab.flight.filter fun e => e.tok.hedge != h
      returns := p.fab.returns.filter fun r => r.1 != h
      streams := p.fab.streams.filter fun e => !mine e.1
      hubWait := p.fab.hubWait.filter fun e => !mine e.1 } }.addS FAB_TEARDOWN_DROPS n

/-- The fabric part of the stop-and-clear sequence for hedge `h` (R131): gateway routes and hub entries, fronds, tokens, stores and queues, route tables, and with `release` the ownership of its brackens. STALLED of the hedge falls with its fronds, with no event, since no token moves (DEDUCED, notes/assumptions/88.md). -/
def Part.stopFabric (p : Part) (h : Nat) (release : Bool) : Part :=
  let brks := p.brackensOf h
  let p := p.gwDisable h
  let p := { p with fab := { p.fab with hub := p.fab.hub.filter fun e => e.1 / 256 != h } }
  let p := p.discardTokens h
  let p := { p with fab := { p.fab with
    fronds := p.fab.fronds.filter fun e => !brks.contains (e.1 / 64)
    routes := p.fab.routes.filter fun e => !brks.contains (e.1 / 256) } }
  let p := p.setFlag (FAB_STALL_STALLED h) false
  if release then forIn' brks (fun b p => p.setReg (FAB_BRK_OWNER b) 0) p else p

/-! ### Meanings -/

/-- FAB_HEDGE_STALL (R129). -/
def execFabHedgeStall (h t : Nat) (s : State) : Host.Outcome State Fault Refusal :=
  onPartIf (h < 16) (fun p => (p.at t).hedgeStall h) s

/-- FAB_CLR_CE (R136). -/
def execFabClrCe (coin : Nat) (s : State) : Host.Outcome State Fault Refusal :=
  blockPart 11 (True) (fun p => forN 64 (fun b p => p.clrHit (FAB_CE b) (coin.testBit b)) p) s

/-- FAB_CLR_UE (R136). -/
def execFabClrUe (coin : Nat) (s : State) : Host.Outcome State Fault Refusal :=
  blockPart 11 (True) (fun p => forN 64 (fun b p => p.clrHit (FAB_UE b) (coin.testBit b)) p) s

/-- FAB_CLR_DROP (R136). -/
def execFabClrDrop (coin : Nat) (s : State) : Host.Outcome State Fault Refusal :=
  blockPart 11 (True) (fun p => (forN 64 (fun b p => p.clrHit (FAB_DROP b) (coin.testBit b)) p).clrHit FAB_TEARDOWN_DROPS (coin.testBit 64)) s

/-- FAB_CLR_GW (R136). -/
def execFabClrGw (coin : Nat) (s : State) : Host.Outcome State Fault Refusal :=
  blockPart 11 (True) (fun p => forN 32 (fun k p => p.clrHit (FAB_GW_OVERRUN k) (coin.testBit k)) p) s

/-- GW_ROUTE_WRITE (R121). -/
def execGwRouteWrite (k : Nat) (v : Dword) (s : State) : Host.Outcome State Fault Refusal :=
  blockPart 11 (k < 32) (fun p => p.gwRouteWrite k v) s

/-- GW_CONFLICT_CLEAR (R119, R137): each 1 clears the route's LOST bit and lets its conflicts be raised again; a bit that the part sets in the same access stays set (R12). -/
def execGwConflictClear (bits coin : Word) (s : State) : Host.Outcome State Fault Refusal :=
  blockPart 11 (True) (fun p =>
    let p := p.setReg FAB_GW_CONFLICT ((p.reg FAB_GW_CONFLICT &&& ~~~(bits.setWidth 64)) ||| (bits &&& coin).setWidth 64)
    { p with fab := { p.fab with conflicts := p.fab.conflicts.filter fun c => !(bits &&& ~~~coin).getLsbD c.1 } }) s

end Sys2Proof.Machine
end

