-- ==== Sys2Proof/Machine/Slices.lean ====
section
/-!
DEFINITION. Sys2Proof/Machine/Slices.lean: plots, granules, protection, memory streams and stale plots (R211 to R245).
A memory address of the part is plot × 2^30 + offset; the slice address of R211 is that address less the slice's first plot.
-/

namespace Sys2Proof.Machine

open Sys2Proof

/-! ### Addresses, bytes and words -/

/-- A change to the part of a device. -/
def Dev.onP (d : Dev) (f : Part → Part) : Dev := { d with p := f d.p }

/-- The number that a list of bytes spells, first byte lowest (R10). -/
def leNat : List Byte → Nat
  | [] => 0
  | b :: t => b.toNat + 256 * leNat t

/-- A number in `n` bytes, lowest first. -/
def natLe : Nat → Nat → List Byte
  | 0, _ => []
  | n + 1, x => BitVec.ofNat 8 x :: natLe n (x / 256)

/-- The 32 bytes of a payload. -/
def payBytes (x : Payload) : List Byte := natLe 32 x.toNat

/-- The payload that 32 bytes spell. -/
def bytesPay (bs : List Byte) : Payload := BitVec.ofNat 256 (leNat bs)

/-- Word k (32 bits) of a payload. -/
def payWord (x : Payload) (k : Nat) : Nat := (x.toNat >>> (32 * k)) % 2 ^ 32

/-- A payload of 32-bit words, word 0 first. -/
def wordsPay (ws : List Nat) : Payload := BitVec.ofNat 256 (ws.foldr (fun w acc => acc * 2 ^ 32 + w % 2 ^ 32) 0)

/-- The slice of a memory address. -/
def sliceOf (a : Nat) : Nat := a / 2 ^ 30 / 36

/-- The slice address of a memory address (R211). -/
def sliceAddr (a : Nat) : Nat := a - sliceOf a * 36 * 2 ^ 30

/-- Whether slice n is UP. -/
def Part.sliceUp (p : Part) (n : Nat) : Bool := p.fg (SLC_STATUS_STATE n) == 2

/-- The owner of plot `j`, where it has one (R214). -/
def Part.plotOwner (p : Part) (j : Nat) : Option Nat :=
  if p.flag (SLC_PLOT_OWNED j) then some (p.fg (SLC_PLOT_HEDGE j)) else none

/-- The plots of hedge `h` in slice `n`, in rising order: the rank of R181. -/
def Part.plotsOf (p : Part) (h n : Nat) : List Nat :=
  ((List.range 36).map (36 * n + ·)).filter fun j => p.plotOwner j == some h

/-! ### Stale plots (R233 to R235) -/

/-- The pages of a stale plot: 4 KiB each. -/
def pagesPerPlot : Nat := 2 ^ 18

/-- Whether the page of a memory address is stale and not yet filled (R234). -/
def Part.unfilled (p : Part) (a : Nat) : Bool :=
  let j := a / 2 ^ 30
  p.flag (SLC_PLOT_STALE j) && !(Tab.get [] j p.slc.filled).contains (a % 2 ^ 30 / 4096)

/-- The STALE bits of plot `j` in SLC_PLOT_p and SLC_STALE_n. -/
def Part.setStale (p : Part) (j : Nat) (b : Bool) : Part :=
  (p.setFlag (SLC_PLOT_STALE j) b).setFlag ⟨SLC_STALE (j / 36), j % 36, 1⟩ b

/-- Mirror region `r` (R729), where it is set: its plot, offset, size and hedge. -/
def Part.mirRegion (p : Part) (r : Nat) : Option (Nat × Nat × Nat × Nat) :=
  if p.flag (TWN_MIR_VALID r) then
    some (p.fg (TWN_MIR_PLOT r), p.fg (TWN_MIR_OFFSET r), p.fg (TWN_MIR_HI_SIZE r), p.fg (TWN_MIR_HEDGE r))
  else none

/-- Whether a memory address lies in a mirror region. -/
def Part.mirrored (p : Part) (a : Nat) : Bool :=
  (List.range 64).any fun r => match p.mirRegion r with
    | some (j, o, n, _) => decide (j * 2 ^ 30 + o ≤ a ∧ a < j * 2 ^ 30 + o + n)
    | none => false

/-- Whether the part is STANDBY in MIRROR mode (R747). -/
def Part.mirrorStandby (p : Part) : Bool := p.fg TWN_STATUS_ROLE == 2 && p.fg TWN_STATUS_MODE == 1

/-- A plot of a mirror region that becomes stale on a PRIMARY is sent so in the next epoch, in either mode (R335, R741). -/
def Part.noteStale (p : Part) (j : Nat) : Part :=
  if p.fg TWN_STATUS_ROLE == 1 && !p.tw.stale.contains j &&
      (List.range 64).any (fun r => (p.mirRegion r).any fun m => m.1 == j) then
    { p with tw := { p.tw with stale := p.tw.stale ++ [j] } }
  else p

/-- Plot `j` becomes stale (R233): nothing that it held is seen again. -/
def Dev.markStale (d : Dev) (j : Nat) : Dev :=
  { mem := d.mem.filter fun c => c.1 / 2 ^ 30 != j
    p := ({ d.p.setStale j true with slc := { d.p.slc with
      filled := Tab.put [] j [] d.p.slc.filled
      ecc := d.p.slc.ecc.filter fun e => e.1 / 2 ^ 24 != j } }).noteStale j }

/-- A page of a stale plot is filled with zeros; a fill clears poison (R234, R235). -/
def Part.fillPage (p : Part) (j page : Nat) : Part :=
  let done := Tab.get [] j p.slc.filled
  if p.flag (SLC_PLOT_STALE j) && !done.contains page && decide (page < pagesPerPlot) then
    let ecc := p.slc.ecc.filter fun e => e.1 / 64 != j * pagesPerPlot + page
    if done.length + 1 = pagesPerPlot then
      { p.setStale j false with slc := { p.slc with ecc := ecc, filled := Tab.put [] j [] p.slc.filled } }
    else { p with slc := { p.slc with ecc := ecc, filled := Tab.put [] j (page :: done) p.slc.filled } }
  else p

/-! ### Granules and their protection (R212, R227 to R230) -/

/-- The check state of granule `g`. -/
def Part.gran (p : Part) (g : Nat) : Nat := Tab.get 0 g p.slc.ecc

/-- The check state of granule `g` set. -/
def Part.setGran (p : Part) (g v : Nat) : Part := { p with slc := { p.slc with ecc := Tab.put 0 g v p.slc.ecc } }

/-- The rings of a memory event of plot `j`: the operator's, and the owner hedge's (R228). -/
def Part.plotRings (p : Part) (j : Nat) : List Nat :=
  match p.plotOwner j with
  | some h => [h, opRing]
  | none => [opRing]

/-- A memory event of the granule `g`. -/
def Part.raiseMem (p : Part) (code g : Nat) : Part :=
  let j := g / 2 ^ 24
  p.raise (0x0200 + j / 36) code (p.plotOwner j) noDetail (p.plotRings j)

/-- A corrected error in slice `n` (R227): counted, and MEM_CE_STORM where the second's count passes LIMIT. -/
def Part.countCe (p : Part) (n : Nat) : Part :=
  { p.incS (SLC_CE n) with slc := { p.slc with
    ceSec := Tab.upd (0, false) n (fun c => (c.1 + 1, c.2)) p.slc.ceSec } }.ceStorm n

/-- A read of granule `g` (R227, R228, R234): whether its data is good, and the part after it.
`code` is the event of a new uncorrectable error, MEM_UE or MEM_SCRUB_UE. -/
def Part.readGran (p : Part) (code g : Nat) : Bool × Part :=
  if p.unfilled (64 * g) then (true, p)
  else match p.gran g with
    | 0 => (true, p)
    | 1 => (true, (p.setGran g 0).countCe (g / 2 ^ 24 / 36))
    | 2 =>
      let n := g / 2 ^ 24 / 36
      let p := ((p.setGran g 3).incS (SLC_UE n)).fs (SLC_UE_ADDR_ADDR n) (sliceAddr (64 * g))
      (false, (p.fs (SLC_UE_ADDR_VALID n) 1).raiseMem code g)
    | _ => (false, p)

/-- The byte at a memory address. -/
def Dev.byte (d : Dev) (a : Nat) : Byte := if d.p.unfilled a then 0 else Tab.get 0 a d.mem

/-- `n` bytes from a memory address. -/
def Dev.bytes (d : Dev) (a n : Nat) : List Byte := (List.range n).map fun i => d.byte (a + i)

/-- Bytes stored from a memory address on. -/
def storeBytes (a : Nat) (bs : List Byte) (m : List Host.Cell) : List Host.Cell :=
  (bs.foldl (fun (acc : Nat × List Host.Cell) b => (acc.1 + 1, Tab.put 0 acc.1 b acc.2)) (a, m)).2

/-- A read of `n` bytes within one granule: the bytes, and whether they are good. -/
def Dev.readIn (d : Dev) (a n : Nat) : List Byte × Bool × Dev :=
  let bs := d.bytes a n
  let (ok, p) := d.p.readGran 0x0201 (a / 64)
  (bs, ok, { d with p := p })

/-- A write within one granule as the slice performs it (R212, R230, R234): `mark` writes it with the poison marker.
A part of a granule that is or proves uncorrectable is not written; the answer says whether the bytes were. -/
def Dev.tryRaw (d : Dev) (a : Nat) (bs : List Byte) (mark : Bool) : Bool × Dev :=
  let g := a / 64
  let p := if d.p.unfilled a then d.p.fillPage (a / 2 ^ 30) (a % 2 ^ 30 / 4096) else d.p
  let whole := bs.length == 64
  let p := if whole then p else (p.readGran 0x0201 g).2
  if !whole && decide (3 ≤ p.gran g) then
    let raised := p.gran g == 4
    (false, { d with p := if raised then p else (p.setGran g 4).raiseMem 0x0204 g })
  else (true, { mem := storeBytes a bs d.mem, p := if mark then p.setGran g 3 else if whole then p.setGran g 0 else p })

/-- A write within one granule as the slice performs it. -/
def Dev.writeRaw (d : Dev) (a : Nat) (bs : List Byte) (mark : Bool) : Dev := (d.tryRaw a bs mark).2

/-- A write within one granule by an agent of this part: in a mirror region a standby discards and counts it (R747), and a primary marks its page for the open epoch (R741). The answer says whether the bytes were written. -/
def Dev.tryIn (d : Dev) (a : Nat) (bs : List Byte) (mark : Bool) : Bool × Dev :=
  if !d.p.mirrored a then d.tryRaw a bs mark
  else if d.p.mirrorStandby then (false, d.onP fun p => p.incS TWN_LOCAL_WRITES)
  else
    let (ok, d) := d.tryRaw a bs mark
    (ok, d.onP fun p =>
      if p.fg TWN_STATUS_ROLE == 1 && !p.tw.dirty.contains (a / 4096) then { p with tw := { p.tw with dirty := p.tw.dirty ++ [a / 4096] } } else p)

/-- A write within one granule by an agent of this part. -/
def Dev.writeIn (d : Dev) (a : Nat) (bs : List Byte) (mark : Bool) : Dev := (d.tryIn a bs mark).2

/-- The pieces of `n` bytes at address `a` that lie in one granule each: address and length. -/
def pieces (a n : Nat) : List (Nat × Nat) :=
  (List.range ((a % 64 + n + 63) / 64)).map fun i =>
    let lo := if i = 0 then a else a / 64 * 64 + 64 * i
    let hi := min (a + n) (a / 64 * 64 + 64 * (i + 1))
    (lo, hi - lo)

/-- A read of any length, granule by granule; `ok` when every granule was good. -/
def Dev.readMem (d : Dev) (a n : Nat) : List Byte × Bool × Dev :=
  (pieces a n).foldl (fun (acc : List Byte × Bool × Dev) pc =>
    let (bs, ok, d) := acc.2.2.readIn pc.1 pc.2
    (acc.1 ++ bs, acc.2.1 && ok, d)) ([], true, d)

/-- A write of any length, granule by granule. -/
def Dev.writeMem (d : Dev) (a : Nat) (bs : List Byte) : Dev :=
  (pieces a bs.length).foldl (fun d pc => d.writeIn pc.1 ((bs.drop (pc.1 - a)).take pc.2) false) d

/-! ### Input queues and reply streams (R220, R222) -/

/-- The key of stream `s` of hedge `h` at slice `n`. -/
def qkey (n h s : Nat) : Nat := 4096 * n + skey h s

/-- The tokens that wait at a slice port. -/
def Part.inq (p : Part) (k : Nat) : List SlTok := Tab.get [] k p.slc.inq

/-- The request in progress on a stream. -/
def Part.sreq (p : Part) (k : Nat) : Option SReq := Tab.get none k p.slc.reqs

/-- The request in progress on a stream set. -/
def Part.setSreq (p : Part) (k : Nat) (r : Option SReq) : Part :=
  { p with slc := { p.slc with reqs := Tab.put none k r p.slc.reqs } }

/-- The slice controller dequeues the head token of a stream and returns its credit (R220). -/
def Part.slDeq (p : Part) (n h s : Nat) : Part :=
  let k := qkey n h s
  { p with slc := { p.slc with inq := Tab.put [] k (p.inq k).tail p.slc.inq } }.addReturn h s (sliceDest n)

/-- A stream is discarded up to and including its next EOS. -/
def Part.startDiscard (p : Part) (k : Nat) : Part :=
  { p with slc := { p.slc with discard := if p.slc.discard.contains k then p.slc.discard else k :: p.slc.discard } }

/-- The tokens of a discarded stream that have arrived are dequeued, up to its EOS (R225). -/
def Part.discardTo (p : Part) (n h s : Nat) : Nat → Part
  | 0 => p
  | fuel + 1 =>
    let k := qkey n h s
    if !p.slc.discard.contains k then p
    else match p.inq k with
      | [] => p
      | t :: _ =>
        let p := p.slDeq n h s
        if t.kind = 1 then { p with slc := { p.slc with discard := p.slc.discard.erase k } }
        else p.discardTo n h s fuel

/-- The brackens of hedge `h` where stream `s` has an entry that no neighbour's entry leads to: where its producer enters. -/
def Part.rootsOf (p : Part) (h s : Nat) : List Nat :=
  let own := (p.brackensOf h).filter fun b => (p.route b s).isSome
  let led := own.flatMap fun b => (upTo 4 fun d => ((p.route b s).getD 0).testBit (48 + d)).filterMap (neighbour b)
  own.filter fun b => !led.contains b

/-- The slice controller sends a token on a stream of which it is the producer, on the system channel through a slice port of its row, using one credit (P3, R99, R101, R102). -/
def Part.sliceSend (p : Part) (n h s kind : Nat) (pay : Payload) : Part :=
  let b := ((p.rootsOf h s).find? fun b => b / 8 == n).getD (8 * n)
  (p.updStream h s fun c => { c with credit := c.credit - 1 }).addFlight
    { b := b, port := 52, ch := .toBracken b, tok := ⟨h, s, kind, pay⟩ }

/-- The POISON that stands for an uncorrectable token (R197, R229). -/
def memPoison (n addr : Nat) : Payload := poisonPay 0x10 (0x8000 + n) addr

/-- The produced tokens of a request are sent while REPLY has credit; the bytes of a DECODE's DATA tokens are counted as they leave (R291). -/
def Part.sendOut (p : Part) (n h s : Nat) : Nat → Part
  | 0 => p
  | fuel + 1 =>
    match p.sreq (qkey n h s) with
    | none => p
    | some r =>
      match r.out with
      | [] => p
      | t :: rest =>
        if (p.stream h r.reply).credit = 0 then p
        else
          let p := if r.op = 3 ∧ t.1 = 0 then p.addW (KVC_DEC_BYTES_TOTAL n) 32 else p
          ((p.sliceSend n h r.reply t.1 t.2).setSreq (qkey n h s) (some { r with out := rest })).sendOut n h s fuel

/-! ### Memory streams (R221 to R226) -/

/-- Whether stream `s` of hedge `h` is a codec stream at slice `n` (R249). -/
def Part.claimed (p : Part) (n h s : Nat) : Bool := p.flag ⟨KVC_SMAP n (8 * h + s / 32), s % 32, 1⟩

/-- Whether stream `s` of hedge `h` is the release stream of a weight window in row `n` (R196). -/
def Part.isRelease (p : Part) (n h s : Nat) : Bool :=
  p.slc.windows.any fun e => e.1 / 512 == n && p.frondHedge e.1 == h && e.2.release == s

/-- SLC_REQ_FAULT (R223, R225): the detail holds word 0 in its low half and the stream number from bit 32. -/
def Part.reqFault (p : Part) (n h s word0 : Nat) : Part :=
  p.raiseBoth (0x0200 + n) 0x0221 h (word0 + s * 2 ^ 32)

/-- Whether a request keeps to R221: OP, reserved bits, OFFSET and LENGTH. -/
def memReqLegal (x : Payload) : Bool :=
  let w := payWord x
  let op := bitsOfNat (w 0) 0 8
  let off := bitsOfNat (w 2) 0 30
  let len := bitsOfNat (w 3) 0 21
  (op == 1 || op == 2) && bitsOfNat (w 0) 18 14 == 0 && bitsOfNat (w 1) 16 16 == 0 &&
  bitsOfNat (w 2) 30 2 == 0 && bitsOfNat (w 3) 21 11 == 0 && (x.toNat >>> 128) == 0 &&
  off % 32 == 0 && len % 32 == 0 && decide (32 ≤ len ∧ len ≤ 2 ^ 20 ∧ off + len ≤ 2 ^ 30)

/-- The slice controller takes the next request of a memory stream when its operation is `op` (R221, R225, R226). -/
def Part.memAccept (p : Part) (n h s op : Nat) : Part :=
  let k := qkey n h s
  match p.inq k with
  | [] => p
  | t :: _ =>
    if t.kind = 1 ∨ t.kind = 3 then p.slDeq n h s
    else
      let w := payWord t.pay
      if t.kind != 0 || !memReqLegal t.pay then (((p.slDeq n h s).startDiscard k).reqFault n h s (w 0)).discardTo n h s 8
      else if bitsOfNat (w 0) 0 8 != op then p
      else match (p.plotsOf h n)[bitsOfNat (w 1) 0 16]? with
        | none =>
          (((p.slDeq n h s).violationAt t.brk 2 none ⟨h, s, t.kind, t.pay⟩).startDiscard k).discardTo n h s 8
        | some j =>
          (p.slDeq n h s).setSreq k (some
            { op := op, reply := bitsOfNat (w 0) 8 8, word0 := w 0
              fin := (w 0).testBit (if op = 1 then 16 else 17)
              addr := j * 2 ^ 30 + bitsOfNat (w 2) 0 30, left := bitsOfNat (w 3) 0 21, brk := t.brk })

/-- Whether an AtomicOp locks a granule of `n` bytes at address `a` (R496). -/
def Part.granHeld (p : Part) (a n : Nat) : Bool := p.hs.br.locked.any fun g => decide (a / 64 ≤ g ∧ 64 * g < a + n)

/-- A change of the bridges' own state. -/
def Part.updBr (p : Part) (f : Bridges → Bridges) : Part := { p with hs := { p.hs with br := f p.hs.br } }

/-- An access that a locked granule holds (R496). -/
def Part.holdReq (p : Part) (r : HeldReq) : Part := p.updBr fun b => { b with waiting := b.waiting ++ [r] }

/-- A READ reads its next granule whole, as far as it asks for it, and its tokens wait to be sent (R212, R222, R229, R242). -/
def Dev.readNext (d : Dev) (n : Nat) (r : SReq) : SReq × Dev :=
  let len := min r.left (64 - r.addr % 64)
  let (bs, ok, d) := if d.p.sliceUp n then d.readIn r.addr len else ([], false, d)
  let toks := (List.range (len / 32)).map fun i =>
    if ok then (0, bytesPay ((bs.drop (32 * i)).take 32)) else (2, memPoison n (sliceAddr (r.addr + 32 * i)))
  ({ r with addr := r.addr + len, left := r.left - len, out := r.out ++ toks }, d)

/-- A READ in progress sends what its reply stream has credit for, then its EOS (R222). -/
def Dev.readStream (d : Dev) (n h s : Nat) : Nat → Dev
  | 0 => d
  | fuel + 1 =>
    let k := qkey n h s
    let d := d.onP fun p => p.sendOut n h s 2
    match d.p.sreq k with
    | none => d
    | some r =>
      if r.op != 1 || !r.out.isEmpty then d
      else if r.left = 0 then
        (if r.fin then (d.onP fun p => p.setSreq k (some { r with fin := false, out := [(1, 0)] })).readStream n h s fuel
         else d.onP fun p => p.setSreq k none)
      else if (d.p.stream h r.reply).credit = 0 || d.p.granHeld r.addr 1 then d
      else
        let (r, d) := d.readNext n r
        (d.onP fun p => p.setSreq k (some r)).readStream n h s fuel

/-- The rest of a READ is read at once; its tokens leave as credit allows. -/
def Dev.readAll (d : Dev) (n : Nat) (r : SReq) : Nat → SReq × Dev
  | 0 => (r, d)
  | fuel + 1 => if r.left = 0 then (r, d) else let (r, d) := d.readNext n r; d.readAll n r fuel

/-- The data that a WRITE has taken for one granule is written (R212, R223): each token is 32 bytes, and a POISON token marks the granule. Bytes that the slice discards are not counted as written (R221, R230). -/
def Dev.writeTaken (d : Dev) (n : Nat) (r : SReq) : Dev × SReq :=
  let cnt := 32 * r.buf.length
  if cnt = 0 then (d, r)
  else if d.p.sliceUp n then
    let (ok, d) := d.tryIn (r.addr - cnt) (r.buf.flatMap fun t => payBytes t.pay) (r.buf.any fun t => t.kind == 2)
    (d, { r with buf := [], done := r.done + if ok then cnt else 0 })
  else (d, { r with buf := [] })

/-- A WRITE ends: its ACK waits for credit (R221). -/
def SReq.endWrite (r : SReq) : SReq :=
  { r with left := 0, out := if r.fin then [(0, wordsPay [r.done])] else [] }

/-- A WRITE in progress takes the data that has arrived (R223). -/
def Dev.writeStream (d : Dev) (n h s : Nat) : Nat → Dev
  | 0 => d
  | fuel + 1 =>
    let k := qkey n h s
    match d.p.sreq k with
    | none => d
    | some r =>
      if r.op != 2 then d
      else if r.left = 0 then
        let d := d.onP fun p => p.sendOut n h s 1
        match d.p.sreq k with
        | some r => if r.out.isEmpty then d.onP fun p => p.setSreq k none else d
        | none => d
      else if d.p.granHeld r.addr 1 then d
      else if d.p.claimed n h s then
        -- every token from here on belongs to the codec (R249; DEDUCED, notes/assumptions/91.md)
        let (d, r) := d.writeTaken n r
        (d.onP fun p => p.setSreq k (some r.endWrite)).writeStream n h s fuel
      else match d.p.inq k with
        | [] => d
        | t :: _ =>
          let d := d.onP fun p => p.slDeq n h s
          if t.kind = 1 ∨ t.kind = 3 then
            let (d, r) := d.writeTaken n r
            (d.onP fun p => (p.setSreq k (some r.endWrite)).reqFault n h s r.word0).writeStream n h s fuel
          else
            let r := { r with buf := r.buf ++ [t], addr := r.addr + 32, left := r.left - 32 }
            let (d, r) := if r.addr % 64 = 0 ∨ r.left = 0 then d.writeTaken n r else (d, r)
            (d.onP fun p => p.setSreq k (some (if r.left = 0 then r.endWrite else r))).writeStream n h s fuel

/-- A memory stream goes on with requests of one operation: what must be discarded goes, a request is taken, and it is performed as far as tokens and credit allow. -/
def Dev.memStep (d : Dev) (n h s op : Nat) : Dev :=
  if d.p.isRelease n h s then d
  else
    let d := d.onP fun p => p.discardTo n h s 8
    let d := if (d.p.sreq (qkey n h s)).isNone && !d.p.claimed n h s then d.onP fun p => p.memAccept n h s op else d
    if op = 1 then d.readStream n h s 32770 else d.writeStream n h s 16

/-! ### Temperature, loss and clear-out -/

/-- A stack temperature (R237, R245): HOT above 95 °C, and MEM_HOT once per entry. -/
def Part.stackTemp (p : Part) (n : Nat) (t : Int) : Part :=
  let was := p.flag (SLC_STATUS_HOT n)
  let hot := decide (95 < t)
  let p := (p.fs (SLC_STATUS_TEMP n) (BitVec.ofInt 8 t).toNat).setFlag (SLC_STATUS_HOT n) hot
  if hot && !was then p.raiseOp (0x0200 + n) 0x0205 none noDetail else p

/-- What the slices hold of hedge `h` is discarded (R131, R251): queues, requests, schedules and windows. -/
def Part.stopSlices (p : Part) (h : Nat) : Part :=
  let brks := p.brackensOf h
  { p with slc := { p.slc with
    inq := p.slc.inq.filter fun e => e.1 % 4096 / 256 != h
    discard := p.slc.discard.filter fun k => k % 4096 / 256 != h
    reqs := p.slc.reqs.filter fun e => e.1 % 4096 / 256 != h
    windows := p.slc.windows.filter fun e => !brks.contains (e.1 / 64)
    scheds := p.slc.scheds.filter fun e => e.1 / 8 != h } }

/-! ### Meanings -/

/-- MEMORY_STREAM_READ (R222, R224 to R226). -/
def execMemoryStreamRead (n h stream : Nat) (s : State) : Host.Outcome State Fault Refusal :=
  onDevIf (n < 8 ∧ h < 16 ∧ stream < 256) (fun d => d.memStep n h stream 1) s

/-- MEMORY_STREAM_WRITE (R223 to R226). -/
def execMemoryStreamWrite (n h stream : Nat) (s : State) : Host.Outcome State Fault Refusal :=
  onDevIf (n < 8 ∧ h < 16 ∧ stream < 256) (fun d => d.memStep n h stream 2) s

/-- A scrub read of a granule (R231), held while an AtomicOp locks it (R496). -/
def Part.scrubGran (p : Part) (g : Nat) : Part := if p.granHeld (64 * g) 64 then p.holdReq (.scrub g) else (p.readGran 0x0203 g).2

/-- A mirrored page arrives (R235), unless an AtomicOp locks a granule of it (R496). -/
def Part.fillWhole (p : Part) (plot page : Nat) : Part :=
  if p.granHeld (plot * 2 ^ 30 + page * 4096) 4096 then p.holdReq (.fill plot page)
  else if p.sliceUp (plot / 36) then p.fillPage plot page else p

/-- SCRUB_READ (R231): granule `g` of slice `n` is read while the scrub is enabled and the slice is UP; an unfilled page is skipped. -/
def execScrubRead (n g : Nat) (s : State) : Host.Outcome State Fault Refusal :=
  onPartIf (n < 8) (fun p =>
    if p.sliceUp n && p.flag (SLC_SCRUB_ENABLE n) && decide (g < 36 * 2 ^ 24) then p.scrubGran (n * 36 * 2 ^ 24 + g) else p) s

/-- STALE_PAGE_FILL (R235). -/
def execStalePageFill (plot page : Nat) (s : State) : Host.Outcome State Fault Refusal :=
  onPartIf (plot < 288 ∧ page < 2 ^ 18) (fun p => p.fillWhole plot page) s

/-- MEM_HOT (R237): a temperature of stack `n`. -/
def execMemHot (n : Nat) (t : Int) (s : State) : Host.Outcome State Fault Refusal :=
  onPartIf (n < 8) (fun p => p.stackTemp n t) s

/-- SLC_CLR_CE (R245). -/
def execSlcClrCe (n coin : Nat) (s : State) : Host.Outcome State Fault Refusal := blockPart 12 (n < 8) (fun p => p.clrHit (SLC_CE n) (coin.testBit 0)) s

/-- SLC_CLR_UE (R245). -/
def execSlcClrUe (n coin : Nat) (s : State) : Host.Outcome State Fault Refusal := blockPart 12 (n < 8) (fun p => p.clrHit (SLC_UE n) (coin.testBit 0)) s

/-- A write of a VF plot-map entry (R217): the VF's hedge owns the plot, and 288 to 511 are reserved (R17). -/
def Part.pmapVfWrite (p : Part) (v e plot : Nat) (valid : Bool) : Part :=
  if plot < 288 ∧ p.plotOwner plot = some v then
    (p.fs (SLC_PMAP_VF_PLOT v e) plot).setFlag (SLC_PMAP_VF_VALID v e) valid
  else p

/-- PMAP_VF_WRITE (R217). -/
def execPmapVfWrite (v e plot : Nat) (valid : Bool) (s : State) : Host.Outcome State Fault Refusal :=
  blockPart 12 (True) (fun p => if 1 ≤ v ∧ v ≤ 15 ∧ e < 16 then p.pmapVfWrite v e plot valid else p) s

end Sys2Proof.Machine
end

