-- ==== Sys2Proof/Machine/Kvc.lean ====
section
/-!
DEFINITION. Sys2Proof/Machine/Kvc.lean: the KV-cache codec, its format, regions and requests (R246 to R292).
-/

namespace Sys2Proof.Machine

open Sys2Proof

/-! ### Raw formats and groups (R257 to R263) -/

/-- Elements of a group, mantissa bits and exponent bits of a RAW_FMT (R261). -/
def rawShape (fmt : Nat) : Nat × Nat × Nat :=
  match fmt with
  | 0 => (32, 7, 8)
  | 1 => (32, 10, 5)
  | 2 => (64, 3, 4)
  | _ => (64, 2, 5)

/-- The fields of a list of numbers packed from bit 0, `w` bits each. -/
def packBits (w : Nat) (xs : List Nat) : Nat := xs.foldr (fun x acc => acc * 2 ^ w + x % 2 ^ w) 0

/-- A GEXP group of 64 raw bytes, given as one number (R260, R261, R275). -/
def gexpEnc (fmt raw : Nat) : List Byte :=
  if raw = 0 then natLe 2 0x1000
  else
    let (e, m, ew) := rawShape fmt
    let elem := fun i => bitsOfNat raw (i * (1 + m + ew)) (1 + m + ew)
    let ex := fun i => bitsOfNat (elem i) m ew
    let is := List.range e
    let base := is.foldl (fun b i => min b (ex i)) (2 ^ ew)
    let dw := is.foldl (fun d i => max d (bitLen (ex i - base))) 0
    let plane1 := packBits (1 + m) (is.map fun i => (elem i >>> (m + ew)) * 2 ^ m + bitsOfNat (elem i) 0 m)
    let plane2 := packBits dw (is.map fun i => ex i - base)
    natLe 2 (base + dw * 256) ++ natLe ((e * (1 + m + dw) + 7) / 8) (plane1 + plane2 <<< (e * (1 + m)))

/-- The walk's answer for one group: its size and raw bytes, a bad group, or one that ends beyond the payload. -/
inductive GroupRes where
  | good (size : Nat) (raw : List Byte)
  | bad
  | short
  deriving DecidableEq, Repr

/-- A GEXP group at the head of the payload bytes (R260 to R262). -/
def gexpDec (fmt : Nat) (bs : List Byte) : GroupRes :=
  if bs.length < 2 then .short
  else
    let hd := leNat (bs.take 2)
    let base := bitsOfNat hd 0 8
    let dw := bitsOfNat hd 8 4
    let (e, m, ew) := rawShape fmt
    if hd >>> 13 ≠ 0 ∨ dw > ew ∨ (hd.testBit 12 ∧ (base ≠ 0 ∨ dw ≠ 0)) then .bad
    else if hd.testBit 12 then .good 2 (List.replicate 64 0)
    else
      let size := (e * (1 + m + dw) + 7) / 8
      if bs.length < 2 + size then .short
      else
        let body := leNat ((bs.drop 2).take size)
        let ex := fun i => base + bitsOfNat body (e * (1 + m) + i * dw) dw
        let is := List.range e
        if is.any fun i => decide (2 ^ ew ≤ ex i) then .bad
        else
          let elem := fun i =>
            let f := bitsOfNat body (i * (1 + m)) (1 + m)
            (f >>> m) <<< (m + ew) + ex i <<< m + f % 2 ^ m
          .good (2 + size) (natLe 64 (packBits (1 + m + ew) (is.map elem)))

/-- The element format of an MXTYPE (R263), as numbered by R174. -/
def mxFmt (t : Nat) : Nat := [9, 10, 11, 12, 13, 8].getD t 8

/-- The largest exponent of an MX element format, and its largest magnitude's encoding (OCP Microscaling). -/
def mxEmax (t : Nat) : Int × Nat :=
  match t with
  | 0 => (8, 0x7E)
  | 1 => (15, 0x7B)
  | 2 => (2, 0x1F)
  | 3 => (4, 0x1F)
  | 4 => (2, 0x7)
  | _ => (0, 0x7F)

/-- One element rounded to its MX format, to nearest even, saturating (OCP Microscaling). -/
def mxElem (t : Nat) (neg : Bool) (m : Nat) (e : Int) : Nat :=
  let top := (mxEmax t).2
  match t with
  | 0 => writeIeee 4 3 neg m e top top
  | 1 => writeIeee 5 2 neg m e top top
  | 2 => writeIeee 2 3 neg m e top top
  | 3 => writeIeee 3 2 neg m e top top
  | 4 => writeIeee 2 1 neg m e top top
  | _ => (BitVec.ofInt 8 (sgn neg (min 127 (rneAt m (e + 6) 0)))).toNat

/-- The value of element i of a group of a 16-bit format. -/
def rawElem (fmt raw i : Nat) : FV :=
  let x := bitsOfNat raw (16 * i) 16
  if fmt = 0 then readIeee 8 7 true x else readIeee 5 10 true x

/-- An MXQ group (R263, R275): a group with a NaN or an infinity has scale 0xFF, and its element bits are left open (DEDUCED, notes/assumptions/16.md). -/
def mxqEnc (fmt t raw : Nat) : List Byte :=
  let eb := elemBits (mxFmt t)
  let vs := (List.range 32).map (rawElem fmt raw)
  let size := (32 * eb + 7) / 8
  if vs.any fun v => match v with
    | .num _ _ _ => false
    | _ => true
  then 0xFF :: natLe size (Config.mxBody t raw)
  else
    let top := vs.foldl (fun (a : Int) v => match v with
      | .num _ m e => if m = 0 then a else max a (e + bitLen m - 1)
      | _ => a) (-1000)
    let scale := max 0 (min 254 (top - (mxEmax t).1 + 127)).toNat
    BitVec.ofNat 8 scale :: natLe size (packBits eb (vs.map fun v => match v with
      | .num n m e => mxElem t n m (e - (scale - 127))
      | _ => 0))

/-- An element of an MXQ group, converted to the raw format (R263, R175); the bits of a NaN are an open function of the group's scale and the element (DEDUCED, notes/assumptions/13.md). -/
def mxqVal (fmt scale fe x : Nat) : Nat :=
  let wr := fun n m e => if fmt = 0 then writeIeee 8 7 n m e 0x7F7F 0x7F80 else writeIeee 5 10 n m e 0x7BFF 0x7C00
  let nan := nanElem (if fmt = 0 then 4 else 5) (Config.numeric [7, fmt, scale, fe, x])
  if scale = 255 then nan
  else match readElem fe x with
    | .nan => nan
    | .inf n => if fmt = 0 then (if n then 0xFF80 else 0x7F80) else (if n then 0xFC00 else 0x7C00)
    | .num n m e => wr n m (e + scale - 127)

/-- The elements of an MXQ group at the head of the payload. -/
def mxqDec (fmt t : Nat) (bs : List Byte) : Option (List Nat) :=
  let fe := mxFmt t
  let eb := elemBits fe
  let size := 1 + (32 * eb + 7) / 8
  if bs.length < size then none
  else
    let scale := (bs.headD 0).toNat
    let body := leNat ((bs.take size).drop 1)
    some ((List.range 32).map fun i => mxqVal fmt scale fe (bitsOfNat body (i * eb) eb))

/-! ### Regions (R246 to R248) -/

/-- The configuration of region `r` of engine `n`. -/
structure Region where
  enable : Bool
  hedge : Nat
  fmt : Nat
  code : Nat
  first : Nat
  plots : Nat
  index : Nat
  count : Nat
  data : Nat
  wptr : Nat
  deriving DecidableEq, Repr

/-- A region as its registers hold it, with `cfg` as the word of KVC_RGN_CFG. -/
def Part.regionOf (p : Part) (n r : Nat) (cfg : Dword) : Region :=
  { enable := getBits cfg 0 1 == 1, hedge := getBits cfg 1 4, fmt := getBits cfg 5 2, code := getBits cfg 8 4
    first := getBits cfg 12 6, plots := getBits cfg 18 6
    index := p.fg (KVC_RGN_INDEX_INDEX_BASE n r), count := p.fg (KVC_RGN_INDEX_COUNT n r)
    data := p.fg (KVC_RGN_DATA_DATA_BASE n r), wptr := p.fg (KVC_RGN_WPTR_WPTR n r) }

/-- Region `r` of engine `n`. -/
def Part.region (p : Part) (n r : Nat) : Region := p.regionOf n r (p.reg (KVC_RGN_CFG n r))

/-- The declared raw size (R252, R255). -/
def Region.raw (r : Region) : Nat := (r.code + 1) * 1024

/-- The granules of a region. -/
def Region.size (r : Region) : Nat := r.plots * 2 ^ 24

/-- The plots of a region, in rank order (R246). -/
def Part.regionPlots (p : Part) (n : Nat) (r : Region) : List Nat := ((p.plotsOf r.hedge n).drop r.first).take r.plots

/-- The memory address of region granule `g` (R246); none where the hedge no longer owns a plot of that rank (DEDUCED, notes/assumptions/92.md). -/
def Part.regionAddr (p : Part) (n : Nat) (r : Region) (g : Nat) : Option Nat :=
  ((p.regionPlots n r)[g / 2 ^ 24]?).map fun j => j * 2 ^ 30 + g % 2 ^ 24 * 64

/-- A read of `len` bytes at byte `o` of region granule `g`: the bytes, and whether they are good. -/
def Dev.regionRead (d : Dev) (n : Nat) (r : Region) (g o len : Nat) : List Byte × Bool × Dev :=
  match d.p.regionAddr n r g with
  | some a => d.readIn (a + o) len
  | none => ([], false, d)

/-- A write at byte `o` of region granule `g`. -/
def Dev.regionPut (d : Dev) (n : Nat) (r : Region) (g o : Nat) (bs : List Byte) (mark : Bool) : Dev :=
  match d.p.regionAddr n r g with
  | some a => d.writeIn (a + o) bs mark
  | none => d

/-- The checks of R247 on a region that is to be enabled. -/
def Part.regionLegal (p : Part) (n k : Nat) (r : Region) : Bool :=
  let mine := p.regionPlots n r
  decide (1 ≤ r.plots ∧ r.plots ≤ 36 ∧ r.first ≤ 35 ∧ mine.length = r.plots) &&
  decide (1 ≤ r.count ∧ r.index + (r.count + 7) / 8 ≤ r.data ∧ r.data < r.size) &&
  decide (r.data ≤ r.wptr ∧ r.wptr < r.size) &&
  (List.range 16).all fun j => j == k ||
    (let o := p.region n j
     !o.enable || !((p.regionPlots n o).any mine.contains))

/-- A write of KVC_RGN_CFG (R247, R248): while ENABLE is 1 only ENABLE can change, and setting ENABLE needs every check. -/
def Part.regionWrite (p : Part) (n k : Nat) (v : Word) : Part :=
  let v := v &&& 0x00FFFF7F
  let reg := KVC_RGN_CFG n k
  if (p.region n k).enable then (if v.getLsbD 0 then p else p.fs (KVC_RGN_CFG_ENABLE n k) 0)
  else if v.getLsbD 0 then
    (if p.regionLegal n k (p.regionOf n k (v.setWidth 64)) then p.setReg reg (v.setWidth 64) else p)
  else
    let old := p.reg reg
    let w : Dword := v.setWidth 64
    let w := if getBits w 12 6 ≤ 35 then w else setBits w 12 6 (getBits old 12 6)
    let w := if 1 ≤ getBits w 18 6 ∧ getBits w 18 6 ≤ 36 then w else setBits w 18 6 (getBits old 18 6)
    p.setReg reg w

/-- Plot `j` is about to leave its hedge: the regions that include it are disabled (R251). -/
def Part.kvcPlotLeaves (p : Part) (j : Nat) : Part :=
  let n := j / 36
  forIn' ((List.range 16).filter fun r => (p.regionPlots n (p.region n r)).contains j)
    (fun r p => p.fs (KVC_RGN_CFG_ENABLE n r) 0) p

/-- Hedge `h` is reset or destroyed: its regions and claims go (R251). -/
def Part.kvcStop (p : Part) (h : Nat) : Part :=
  forN 8 (fun n p =>
    let p := forN 16 (fun r p => if (p.region n r).hedge = h then p.fs (KVC_RGN_CFG_ENABLE n r) 0 else p) p
    forN 8 (fun w p => p.setReg (KVC_SMAP n (8 * h + w)) 0) p) p

/-! ### Decoding a block (R252 to R256, R283 to R289) -/

/-- What the walk of a block's groups gives: the raw bytes, or a reason. -/
inductive Walk where
  | done (raw : List Byte)
  | fail (reason : Nat)
  deriving DecidableEq, Repr

/-- The walk of R284 and R285: `groups` group headers left, payload bytes `bs`, and raw bytes decoded so far. -/
def walkGroups (mode fmt t raw : Nat) : Nat → Nat → List Byte → List Byte → Walk
  | 0, _, _, _ => .fail 0x09
  | fuel + 1, groups, bs, acc =>
    if acc.length = raw then
      (if groups ≠ 0 ∨ 64 ≤ bs.length ∨ bs.any (· != 0) then .fail 0x08 else .done acc)
    else if groups = 0 then .fail 0x09
    else match mode with
      | 1 => if bs.length < 64 then .fail 0x09
        else walkGroups mode fmt t raw fuel (groups - 1) (bs.drop 64) (acc ++ bs.take 64)
      | 2 => match gexpDec fmt bs with
        | .bad => .fail 0x07
        | .short => .fail 0x09
        | .good size r => walkGroups mode fmt t raw fuel (groups - 1) (bs.drop size) (acc ++ r)
      | _ => match mxqDec fmt t bs with
        | none => .fail 0x09
        | some es => walkGroups mode fmt t raw fuel (groups - 1) (bs.drop (1 + (32 * elemBits (mxFmt t) + 7) / 8)) (acc ++ es.flatMap (natLe 2))

/-- The entry checks of R283 that read no block: the reason of the first that fails. -/
def entryReason (r : Region) (e : Nat) : Option Nat :=
  let mode := bitsOfNat e 43 3
  let off := bitsOfNat e 0 34
  let len := bitsOfNat e 34 9
  if mode = 0 ∨ 4 ≤ mode ∨ (mode = 3 ∧ 2 ≤ r.fmt) then some 0x02
  else if bitsOfNat e 46 4 ≠ r.code ∨ len = 0 ∨ r.raw / 64 + 1 < len then some 0x03
  else if off < r.data ∨ r.size < off + len then some 0x04
  else none

/-- The header checks of R283: HCRC, then the header's fields. -/
def headerReason (r : Region) (e index : Nat) (hd : List Byte) : Option Nat :=
  let at' := fun o n => leNat ((hd.drop o).take n)
  let mode := at' 2 1
  let fr := at' 3 1
  let g := at' 4 2
  let mx := at' 6 1
  if crc14 hd ≠ bitsOfNat e 50 14 then some 0x05
  else if at' 0 2 ≠ 0x564B ∨ mode ≠ bitsOfNat e 43 3 ∨ bitsOfNat fr 4 4 ≠ bitsOfNat e 46 4 ∨ at' 8 4 ≠ index ∨
      bitsOfNat fr 0 2 ≠ r.fmt ∨ bitsOfNat fr 2 2 ≠ 0 ∨ g = 0 ∨ 256 < g ∨ (if mode = 3 then 5 < mx else mx ≠ 0) ∨
      at' 7 1 ≠ 0 ∨ at' 16 48 ≠ 0 then some 0x06
  else none

/-- The length of the payload's groups in a walk that succeeded: what is left over is padding. -/
def groupsEnd (mode fmt t : Nat) : Nat → List Byte → Nat
  | 0, _ => 0
  | g + 1, bs =>
    let size := match mode with
      | 1 => 64
      | 2 => match gexpDec fmt bs with
        | .good s _ => s
        | _ => 0
      | _ => 1 + (32 * elemBits (mxFmt t) + 7) / 8
    size + groupsEnd mode fmt t g (bs.drop size)

/-- The checks of a block whose granules were all read, and its walk. -/
def checkBlock (r : Region) (e index : Nat) (bs : List Byte) : Walk :=
  let hd := bs.take 64
  match headerReason r e index hd with
  | some x => .fail x
  | none =>
    let mode := bitsOfNat e 43 3
    let t := leNat ((hd.drop 6).take 1)
    let g := leNat ((hd.drop 4).take 2)
    let pay := bs.drop 64
    match walkGroups mode r.fmt t r.raw 300 g pay [] with
    | .fail x => .fail x
    | .done raw =>
      if crc32c (pay.take (groupsEnd mode r.fmt t g pay)) = leNat ((hd.drop 12).take 4) then .done raw else .fail 0x0A

/-- The read and checks of block `k` of a region (R256, R283): its raw bytes, or the reason for which it is poisoned. -/
def Dev.decodeBlock (d : Dev) (n : Nat) (r : Region) (k : Nat) : Walk × Dev :=
  if !d.p.sliceUp n then (.fail 0x01, d)
  else
    let (eb, ok, d) := d.regionRead n r (r.index + k / 8) (k % 8 * 8) 8
    let e := leNat eb
    if !ok then (.fail 0x01, d)
    else if e = 0 then (.done (List.replicate r.raw 0), d)
    else match entryReason r e with
      | some x => (.fail x, d)
      | none =>
        let (bs, ok, d) := (List.range (bitsOfNat e 34 9)).foldl (fun (acc : List Byte × Bool × Dev) i =>
          let (b, ok, d) := acc.2.2.regionRead n r (bitsOfNat e 0 34 + i) 0 64
          (acc.1 ++ b, acc.2.1 && ok, d)) ([], true, d)
        if !ok then (.fail 0x01, d) else (checkBlock r e k bs, d)

/-- The 32-byte tokens of a list of bytes. -/
def tokensOf (bs : List Byte) : List Payload :=
  (List.range (bs.length / 32)).map fun i => bytesPay ((bs.drop (32 * i)).take 32)

/-- A poisoned block (R286, R287): the tokens, the event, the counter and KVC_LAST. -/
def Part.corruptBlock (p : Part) (n h k region reason : Nat) : Part :=
  let detail := k + region * 2 ^ 32 + reason * 2 ^ 40
  let p := (p.raiseBoth (0x0300 + n) 0x0301 h detail).incS (KVC_CORRUPT n)
  (p.fs (KVC_LAST_DETAIL n) detail).fs (KVC_LAST_VALID n) 1

/-- Whether an AtomicOp locks one of `cnt` granules of a region from granule `g` on (R496). -/
def Part.regionHeld (p : Part) (n : Nat) (r : Region) (g cnt : Nat) : Bool :=
  !p.hs.br.locked.isEmpty && (List.range cnt).any fun i => match p.regionAddr n r (g + i) with
    | some a => p.granHeld a 64
    | none => false

/-- Whether an AtomicOp holds the decode of block `k`: its index entry or its granules. -/
def Dev.blockHeld (d : Dev) (n : Nat) (r : Region) (k : Nat) : Bool :=
  d.p.regionHeld n r (r.index + k / 8) 1 ||
  match d.p.regionAddr n r (r.index + k / 8) with
  | some a => let e := leNat (d.bytes (a + k % 8 * 8) 8); d.p.regionHeld n r (bitsOfNat e 0 34) (bitsOfNat e 34 9)
  | none => false

/-- The tokens of the next block of a DECODE join those that wait to be sent (R268, R286). -/
def Dev.decodeNext (d : Dev) (n h s : Nat) (q : SReq) : Dev :=
  let r := d.p.region n q.region
  let (w, d) := d.decodeBlock n r q.block
  let q := { q with block := q.block + 1, blocks := q.blocks - 1 }
  match w with
  | .done raw =>
    d.onP fun p => (p.addW (KVC_DEC_BLOCKS_TOTAL n) 1).setSreq (qkey n h s) (some { q with out := q.out ++ (tokensOf raw).map fun x => (0, x) })
  | .fail x =>
    let detail := (q.block - 1) + q.region * 2 ^ 32 + x * 2 ^ 40
    let pay := poisonPay 0x11 (0x8000 + n) detail
    d.onP fun p => (p.corruptBlock n h (q.block - 1) q.region x).setSreq (qkey n h s)
      (some { q with out := q.out ++ List.replicate (r.raw / 32) (2, pay) })

/-- The rest of a DECODE is decoded at once; its tokens leave as credit allows. -/
def Dev.decodeAll (d : Dev) (n h s : Nat) : Nat → Dev
  | 0 => d
  | fuel + 1 => match d.p.sreq (qkey n h s) with
    | none => d
    | some q => if q.blocks = 0 then d else (d.decodeNext n h s q).decodeAll n h s fuel

/-- A DECODE goes on: tokens leave while the reply stream has credit, and the block after the one that is being sent is read and checked meanwhile (R268, R274; DESIGN CHOICE, notes/assumptions/93.md). -/
def Dev.decodeStream (d : Dev) (n h s : Nat) : Nat → Dev
  | 0 => d
  | fuel + 1 =>
    let k := qkey n h s
    let d := d.onP fun p => p.sendOut n h s 1024
    match d.p.sreq k with
    | none => d
    | some q =>
      if q.op != 3 then d
      else if q.blocks ≠ 0 && decide (q.out.length ≤ (d.p.region n q.region).raw / 32) && !d.blockHeld n (d.p.region n q.region) q.block then (d.decodeNext n h s q).decodeStream n h s fuel
      else if q.blocks ≠ 0 || !q.out.isEmpty then d
      else if q.fin then (d.onP fun p => p.setSreq k (some { q with fin := false, out := [(1, 0)] })).decodeStream n h s fuel
      else d.onP fun p => p.setSreq k none

/-! ### Encoding a block (R269, R275 to R279) -/

/-- The groups of raw bytes. -/
def rawGroups (raw : List Byte) : List (List Byte) :=
  (List.range (raw.length / 64)).map fun i => (raw.drop (64 * i)).take 64

/-- The payload of a block in a mode (R258 to R263). -/
def encPayload (mode fmt t : Nat) (raw : List Byte) : List Byte :=
  match mode with
  | 2 => (rawGroups raw).flatMap fun g => gexpEnc fmt (leNat g)
  | 3 => (rawGroups raw).flatMap fun g => mxqEnc fmt t (leNat g)
  | _ => raw

/-- The header granule of a block (R257). -/
def encHeader (r : Region) (mode t groups index crc : Nat) : List Byte :=
  natLe 2 0x564B ++ natLe 1 mode ++ natLe 1 (r.fmt + r.code * 16) ++ natLe 2 groups ++
  natLe 1 (if mode = 3 then t else 0) ++ natLe 1 0 ++ natLe 4 index ++ natLe 4 crc ++ natLe 48 0

/-- A block ready to write: its mode and its bytes in whole granules, header first. -/
def encBlock (r : Region) (mode t index : Nat) (raw : List Byte) : Nat × List Byte :=
  let pay := encPayload mode r.fmt t raw
  let fits := decide ((64 + pay.length + 63) / 64 ≤ r.raw / 64 + 1)
  let mode' := if fits then mode else 1
  let pay := if fits then pay else raw
  let hd := encHeader r mode' t (raw.length / 64) index (crc32c pay)
  (mode', hd ++ pay ++ List.replicate ((64 - pay.length % 64) % 64) 0)

/-- The index entry of a block (R252). -/
def encEntry (r : Region) (mode : Nat) (blk : List Byte) : Nat :=
  r.wptr + (blk.length / 64) * 2 ^ 34 + mode * 2 ^ 43 + r.code * 2 ^ 46 + crc14 (blk.take 64) * 2 ^ 50

/-- One whole block of an ENCODE (R269, R276, R277, R279, R290). -/
def Dev.encodeBlock (d : Dev) (n h s : Nat) (q : SReq) (toks : List SlTok) : Dev :=
  let k := qkey n h s
  let r := d.p.region n q.region
  let q := { q with block := q.block + 1, blocks := q.blocks - 1, buf := [] }
  if q.status ≠ 0 then d.onP fun p => p.setSreq k (some q)
  else if !d.p.sliceUp n then d.onP fun p => p.setSreq k (some { q with status := 3 })
  else
    let bad := toks.any fun t => t.kind == 2
    let raw := toks.flatMap fun t => if t.kind = 2 then List.replicate 32 0 else payBytes t.pay
    let (mode, blk) := encBlock r (if bad then 1 else q.mode) q.mxtype (q.block - 1) raw
    if r.size < r.wptr + blk.length / 64 then
      d.onP fun p => (p.setSreq k (some { q with status := 1 })).raiseBoth (0x0300 + n) 0x0303 h noDetail
    else
      let fell := !bad && q.mode == 2 && mode == 1
      let d := (List.range (blk.length / 64)).foldl (fun (d : Dev) i =>
        let mark := bad && (((toks.drop (2 * (i - 1))).take 2).any fun t => t.kind == 2) && i != 0
        d.regionPut n r (r.wptr + i) 0 ((blk.drop (64 * i)).take 64) mark) d
      let d := d.regionPut n r (r.index + (q.block - 1) / 8) ((q.block - 1) % 8 * 8) (natLe 8 (encEntry r mode blk)) false
      d.onP fun p =>
        let p := (p.fs (KVC_RGN_WPTR_WPTR n q.region) (r.wptr + blk.length / 64)).addW (KVC_ENC_BLOCKS_TOTAL n) 1
        let p := if fell then p.incS (KVC_FALLBACK n) else p
        let p := if bad then p.raiseBoth (0x0300 + n) 0x0304 h noDetail else p
        p.setSreq k (some { q with done := q.done + 1, stored := q.stored + (if fell then 1 else 0) })

/-- Whether an AtomicOp holds the writes of the next block of an ENCODE: the granules it may fill, or its index entry (R496). -/
def Part.encodeHeld (p : Part) (n : Nat) (q : SReq) : Bool :=
  let r := p.region n q.region
  decide (32 * (q.buf.length + 1) = r.raw) &&
    (p.regionHeld n r r.wptr (r.raw / 64 + 1) || p.regionHeld n r (r.index + q.block / 8) 1)

/-- KVC_REQ_FAULT (R272, R278): word 0 in the low half of the detail and the stream number from bit 32. -/
def Part.kvcFault (p : Part) (n h s word0 : Nat) : Part :=
  p.raiseBoth (0x0300 + n) 0x0302 h (word0 + s * 2 ^ 32)

/-- The ACK token of an ENCODE that has ended (R271). -/
def Part.encodeAck (p : Part) (n : Nat) (q : SReq) : List (Nat × Payload) :=
  if q.fin then [(0, wordsPay [q.done, q.status, p.fg (KVC_RGN_WPTR_WPTR n q.region), q.stored])] else []

/-- An ENCODE that ends before its last block, with the first status that it reached (R278, R279, R290; DEDUCED, notes/assumptions/91.md). -/
def SReq.endEncode (q : SReq) : SReq := { q with blocks := 0, buf := [], status := if q.status = 0 then 2 else q.status }

/-- The ENCODEs in progress at slice `n` when it goes DOWN end with status SLICE_DOWN (R290). -/
def Part.encodesDown (p : Part) (n : Nat) : Part :=
  { p with slc := { p.slc with reqs := p.slc.reqs.map fun e =>
      (e.1, if e.1 / 4096 = n then e.2.map fun q => if q.op = 4 ∧ q.blocks ≠ 0 ∧ q.status = 0 then { q with status := 3 } else q else e.2) } }

/-- An ENCODE takes the raw tokens that have arrived (R269, R278). -/
def Dev.encodeStream (d : Dev) (n h s : Nat) : Nat → Dev
  | 0 => d
  | fuel + 1 =>
    let k := qkey n h s
    match d.p.sreq k with
    | none => d
    | some q =>
      if q.op != 4 then d
      else if q.blocks = 0 then
        let d := d.onP fun p => p.sendOut n h s 1
        match d.p.sreq k with
        | some q => if q.out.isEmpty then d.onP fun p => p.setSreq k none else d
        | none => d
      else if !d.p.claimed n h s then
        -- every token from here on belongs to memory streams (R249; DEDUCED, notes/assumptions/91.md)
        (d.onP fun p => p.setSreq k (some { q.endEncode with out := p.encodeAck n q.endEncode })).encodeStream n h s fuel
      else if d.p.encodeHeld n q then d
      else match d.p.inq k with
        | [] => d
        | t :: _ =>
          let d := d.onP fun p => p.slDeq n h s
          let d :=
            if t.kind = 1 ∨ t.kind = 3 then
              d.onP fun p => (p.setSreq k (some q.endEncode)).kvcFault n h s q.word0
            else
              let buf := q.buf ++ [t]
              if 32 * buf.length = (d.p.region n q.region).raw then d.encodeBlock n h s q buf
              else d.onP fun p => p.setSreq k (some { q with buf := buf })
          let d := d.onP fun p => match p.sreq k with
            | some q => if q.blocks = 0 then p.setSreq k (some { q with out := p.encodeAck n q }) else p
            | none => p
          d.encodeStream n h s fuel

/-! ### Requests (R267, R272, R273) -/

/-- Whether a codec request holds no reserved operation, field or encoding (R267). -/
def kvcReqLegal (x : Payload) : Bool :=
  let w := payWord x
  let op := bitsOfNat (w 0) 0 8
  let mode := bitsOfNat (w 1) 8 3
  let mx := bitsOfNat (w 1) 12 4
  (op == 1 && mode == 0 && mx == 0 ||
    op == 2 && (mode == 1 && mx == 0 || mode == 2 && mx == 0 || mode == 3 && decide (mx ≤ 5))) &&
  bitsOfNat (w 0) 18 14 == 0 && bitsOfNat (w 1) 4 4 == 0 && bitsOfNat (w 1) 11 1 == 0 && bitsOfNat (w 1) 16 16 == 0 &&
  bitsOfNat (w 3) 16 16 == 0 && bitsOfNat (w 3) 0 16 != 0 && (x.toNat >>> 128) == 0

/-- The engine takes the next request of a codec stream when its operation is `op` (3 DECODE, 4 ENCODE). -/
def Part.kvcAccept (p : Part) (n h s op : Nat) : Part :=
  let k := qkey n h s
  match p.inq k with
  | [] => p
  | t :: _ =>
    if t.kind = 1 ∨ t.kind = 3 then p.slDeq n h s
    else
      let w := payWord t.pay
      let rn := bitsOfNat (w 1) 0 4
      let r := p.region n rn
      let refuse := fun (p : Part) =>
        ((((p.slDeq n h s).startDiscard k).kvcFault n h s (w 0)).incS (KVC_REQ_FAULTS n)).discardTo n h s 8
      if t.kind != 0 || !kvcReqLegal t.pay || !r.enable then refuse p
      else if r.hedge ≠ h then
        (((p.slDeq n h s).violationAt t.brk 2 (some r.hedge) ⟨h, s, t.kind, t.pay⟩).startDiscard k).discardTo n h s 8
      else if r.count < w 2 + bitsOfNat (w 3) 0 16 ∨ (bitsOfNat (w 1) 8 3 = 3 ∧ 2 ≤ r.fmt) then refuse p
      else if bitsOfNat (w 0) 0 8 + 2 ≠ op then p
      else (p.slDeq n h s).setSreq k (some
        { op := op, reply := bitsOfNat (w 0) 8 8, word0 := w 0, fin := (w 0).testBit (if op = 3 then 16 else 17)
          region := rn, block := w 2, blocks := bitsOfNat (w 3) 0 16, mode := bitsOfNat (w 1) 8 3, mxtype := bitsOfNat (w 1) 12 4, brk := t.brk })

/-- A codec stream goes on with requests of one operation. -/
def Dev.kvcStep (d : Dev) (n h s op : Nat) : Dev :=
  if d.p.isRelease n h s then d
  else
    let d := d.onP fun p => p.discardTo n h s 8
    let d := if (d.p.sreq (qkey n h s)).isNone && d.p.claimed n h s then d.onP fun p => p.kvcAccept n h s op else d
    if op = 3 then d.decodeStream n h s 64 else d.encodeStream n h s 16

/-! ### Meanings -/

/-- KVC_DECODE (R268, R272, R273, R286, R290). -/
def execKvcDecode (n h stream : Nat) (s : State) : Host.Outcome State Fault Refusal :=
  onDevIf (n < 8 ∧ h < 16 ∧ stream < 256) (fun d => d.kvcStep n h stream 3) s

/-- KVC_ENCODE (R269, R271 to R273, R276 to R279). -/
def execKvcEncode (n h stream : Nat) (s : State) : Host.Outcome State Fault Refusal :=
  onDevIf (n < 8 ∧ h < 16 ∧ stream < 256) (fun d => d.kvcStep n h stream 4) s

/-- KVC_REGION_ENABLE_WRITE (R247, R248). -/
def execKvcRegionEnableWrite (n r : Nat) (v : Word) (s : State) : Host.Outcome State Fault Refusal :=
  blockPart 12 (True) (fun p => if n < 8 ∧ r < 16 then p.regionWrite n r v else p) s

/-- KVC_SMAP_WRITE (R249): word w of hedge h's claims. -/
def execKvcSmapWrite (n h w : Nat) (v : Word) (s : State) : Host.Outcome State Fault Refusal :=
  blockPart 12 (True) (fun p => if n < 8 ∧ h < 16 ∧ w < 8 then p.setReg (KVC_SMAP n (8 * h + w)) (v.setWidth 64) else p) s

/-- CLR_CORRUPT (R292). -/
def execClrCorrupt (n coin : Nat) (s : State) : Host.Outcome State Fault Refusal := blockPart 12 (n < 8) (fun p => p.clrHit (KVC_CORRUPT n) (coin.testBit 0)) s

/-- CLR_FALLBACK (R292). -/
def execClrFallback (n coin : Nat) (s : State) : Host.Outcome State Fault Refusal := blockPart 12 (n < 8) (fun p => p.clrHit (KVC_FALLBACK n) (coin.testBit 0)) s

/-- KVC_CLR_FAULTS (R292). -/
def execKvcClrFaults (n coin : Nat) (s : State) : Host.Outcome State Fault Refusal := blockPart 12 (n < 8) (fun p => p.clrHit (KVC_REQ_FAULTS n) (coin.testBit 0)) s

end Sys2Proof.Machine
end

