-- ==== Sys2Proof/Machine/MbxCore.lean ====
section
/-!
DEFINITION. Sys2Proof/Machine/MbxCore.lean: mailboxes: requests, responses and the codes of R411 and R412 that every command uses.
-/

namespace Sys2Proof.Machine

open Sys2Proof

/-- Mailbox `m`. -/
def Part.mbx (p : Part) (m : Nat) : Mbox := Tab.get {} m p.hs.mbx

/-- Mailbox `m` with a change. -/
def Part.updMbx (p : Part) (m : Nat) (f : Mbox → Mbox) : Part :=
  { p with hs := { p.hs with mbx := Tab.upd {} m f p.hs.mbx } }

/-- The `n` bytes of a list from offset `off`, as a number; missing bytes read as zero (R410). -/
def bytesAt (bs : List Byte) (off n : Nat) : Nat := leNat ((bs.drop off).take n)

/-- What the running command's header and arguments say: opcode, and the argument field of `n` bytes at `off` (R407, R409). -/
def Mbox.opcode (b : Mbox) : Nat := bytesAt b.run 0 2

/-- The argument bytes of the running command: LENGTH of them after the header. -/
def Mbox.args (b : Mbox) : List Byte := (b.run.drop 16).take (bytesAt b.run 4 2)

/-- An argument field of the running command of mailbox `m`. -/
def Part.arg (p : Part) (m off n : Nat) : Nat := bytesAt (p.mbx m).args off n

/-- One row of the command table (R414): opcode; who may issue it (0 mailbox 0; 1 and the VF mailboxes; 2 every mailbox; 3 mailboxes 0 and 16; 4 mailboxes 0, VF and 16); the Moss column (0 R, 1 F, 2 served only at PARTIAL and FULL); the hedge that it acts on (0 none, 1 the header's, 2 none but on a VF mailbox, 3 its FUNCTION's; a VF mailbox's own stands for the header's; notes/assumptions/41.md); and the sizes of its arguments. -/
structure CmdRow where
  op : Nat
  boxes : Nat
  moss : Nat
  hedge : Nat
  args : List Nat
  deriving DecidableEq, Repr

/-- The command table of FWIF 3.2 (R414). -/
def cmdTable : List CmdRow :=
  [⟨0x0101, 2, 0, 0, []⟩, ⟨0x0102, 2, 0, 0, []⟩, ⟨0x0103, 2, 0, 0, []⟩,
   ⟨0x0201, 0, 2, 1, [1]⟩, ⟨0x0202, 0, 2, 1, []⟩, ⟨0x0203, 0, 2, 1, [1, 1, 1, 4, 8]⟩,
   ⟨0x0204, 0, 2, 1, [2, 1]⟩, ⟨0x0205, 1, 1, 1, []⟩, ⟨0x0301, 0, 1, 1, [1, 2]⟩,
   ⟨0x0302, 1, 1, 1, [2, 2, 4, 8, 8, 4]⟩, ⟨0x0303, 1, 1, 1, [2]⟩, ⟨0x0304, 1, 1, 1, [2]⟩,
   ⟨0x0401, 0, 1, 1, [1, 1, 8, 8]⟩, ⟨0x0402, 0, 1, 1, []⟩, ⟨0x0403, 1, 1, 1, []⟩,
   ⟨0x0501, 0, 2, 1, [1, 1, 8]⟩, ⟨0x0502, 0, 2, 3, [1, 1, 2, 1]⟩, ⟨0x0503, 0, 2, 0, [1]⟩,
   ⟨0x0504, 1, 2, 1, [1]⟩, ⟨0x0601, 1, 2, 1, [1, 1, 1, 1, 1, 1, 1, 4, 8, 8, 8]⟩, ⟨0x0602, 1, 2, 1, [1, 32]⟩,
   ⟨0x0603, 1, 2, 1, [1, 1]⟩, ⟨0x0701, 0, 2, 0, [1, 1, 1, 1, 2, 8, 8, 8]⟩, ⟨0x0702, 0, 2, 1, [1, 4]⟩,
   ⟨0x0703, 1, 2, 1, [4, 8, 8]⟩, ⟨0x0704, 1, 2, 2, [1]⟩, ⟨0x0801, 0, 2, 0, [1, 8]⟩,
   ⟨0x0802, 0, 2, 0, [1, 1, 4]⟩, ⟨0x0803, 1, 1, 1, [2, 4]⟩, ⟨0x0804, 0, 2, 0, [4]⟩,
   ⟨0x0805, 0, 2, 0, [4]⟩, ⟨0x0806, 1, 1, 1, []⟩, ⟨0x0901, 1, 1, 2, []⟩] ++
  [⟨0x0902, 0, 2, 0, [64]⟩, ⟨0x0903, 0, 2, 0, [1, 4]⟩, ⟨0x0904, 0, 2, 0, [1, 1, 1]⟩,
   ⟨0x0905, 0, 2, 0, [1, 8]⟩, ⟨0x0906, 0, 2, 0, [2, 4]⟩, ⟨0x0907, 0, 2, 0, [64]⟩,
   ⟨0x0A01, 0, 2, 0, [1, 16]⟩, ⟨0x0A02, 1, 2, 2, [1]⟩, ⟨0x0A03, 0, 2, 0, [1, 1, 1, 1]⟩,
   ⟨0x0A04, 0, 2, 0, [1, 1]⟩, ⟨0x0B01, 0, 2, 0, [1, 4, 4, 4]⟩, ⟨0x0B02, 0, 2, 0, [1]⟩,
   ⟨0x0B03, 0, 2, 1, [1, 1, 2, 8, 8]⟩, ⟨0x0B04, 0, 2, 0, []⟩, ⟨0x0B05, 0, 2, 0, [1]⟩,
   ⟨0x0B06, 1, 2, 2, []⟩, ⟨0x0C01, 3, 1, 0, []⟩, ⟨0x0C02, 4, 2, 1, []⟩,
   ⟨0x0D01, 3, 1, 0, [2, 1, 4, 4, 8]⟩, ⟨0x0D02, 3, 1, 0, [2, 1, 4, 4, 8]⟩, ⟨0x0D03, 3, 1, 0, [2, 1, 4]⟩,
   ⟨0x0D04, 3, 1, 0, [1, 2, 8, 8]⟩, ⟨0x0D05, 3, 1, 0, [1, 8, 8]⟩, ⟨0x0E01, 2, 0, 0, []⟩,
   ⟨0x0E02, 0, 1, 0, [1]⟩, ⟨0x0E03, 0, 2, 0, [1, 97]⟩, ⟨0x0F01, 0, 0, 0, [1, 1, 8, 8]⟩,
   ⟨0x0F02, 0, 0, 0, []⟩, ⟨0x0F03, 0, 0, 0, [1]⟩]

/-- The row of an opcode. -/
def cmdRow (op : Nat) : Option CmdRow := cmdTable.find? (·.op == op)

/-- An argument or result of `n` bytes begins at a multiple of its size, and a larger one at a multiple of 8 (R409). -/
def fieldAlign (off n : Nat) : Nat := let a := if n ∈ [1, 2, 4, 8] then n else 8; (off + a - 1) / a * a

/-- The offsets of fields of the sizes given, each with its size (R409). -/
def fieldOffsets (sizes : List Nat) : List (Nat × Nat) :=
  (sizes.foldl (fun (acc : Nat × List (Nat × Nat)) n => (fieldAlign acc.1 n + n, acc.2 ++ [(fieldAlign acc.1 n, n)])) (0, [])).2

/-- Results laid out by R409: each with its size in bytes. -/
def packFields (fs : List (Nat × Nat)) : List Byte :=
  fs.foldl (fun out f => out ++ List.replicate (fieldAlign out.length f.1 - out.length) 0 ++ natLe f.1 f.2) []

/-- Whether mailbox `m` belongs to a VF. -/
def vfBox (m : Nat) : Bool := decide (1 ≤ m ∧ m ≤ 15)

/-- The hedge that the running command of mailbox `m` acts on (R407, R415): a VF's own, its FUNCTION's, or the header's; 0 for a command that acts on none. -/
def Part.mbxHedge (p : Part) (m : Nat) : Nat :=
  match (cmdRow (p.mbx m).opcode).map (·.hedge) with
  | none => 0
  | some 0 => 0
  | some 3 => p.arg m 0 1 % 16
  | some k => if vfBox m then m else if k = 2 then 0 else bytesAt (p.mbx m).run 8 1 % 16

/-- A status code with its reason (R411, R412). -/
structure Sts where
  code : Nat
  reason : Nat := 0
  deriving DecidableEq, Repr

/-- The status codes of R411, and the pairs with a reason of R412 that the commands name. -/
def stOk : Sts := ⟨0, 0⟩
/-- BUSY. -/
def stBusy : Sts := ⟨1, 0⟩
/-- BAD_OPCODE. -/
def stBadOpcode : Sts := ⟨2, 0⟩
/-- BAD_ARG without a reason. -/
def stBadArg : Sts := ⟨3, 0⟩
/-- BAD_ARG, reason RANGE. -/
def stRange : Sts := ⟨3, 0x13⟩
/-- NO_RESOURCE. -/
def stNoResource : Sts := ⟨4, 0⟩
/-- NO_RESOURCE, reason OWNERSHIP. -/
def stNotOwned : Sts := ⟨4, 0x11⟩
/-- DENIED, reason CALLER. -/
def stCaller : Sts := ⟨5, 1⟩
/-- DENIED, reason OWNERSHIP. -/
def stDenied : Sts := ⟨5, 0x11⟩
/-- STATE without a reason. -/
def stState : Sts := ⟨6, 0⟩
/-- STATE, reason HEDGE_STATE. -/
def stHedge : Sts := ⟨6, 2⟩
/-- STATE, reason ABORTED. -/
def stAborted : Sts := ⟨6, 0x10⟩
/-- STATE, reason IN_USE. -/
def stInUse : Sts := ⟨6, 0x12⟩
/-- MOSS_ONLY, reason MOSS. -/
def stMoss : Sts := ⟨7, 3⟩
/-- TIMEOUT. -/
def stTimeout : Sts := ⟨8, 0⟩
/-- PARTNER. -/
def stPartner : Sts := ⟨9, 0⟩
/-- LIFECYCLE. -/
def stLife : Sts := ⟨10, 0⟩
/-- AUTH. -/
def stAuth : Sts := ⟨11, 0⟩
/-- INTERNAL. -/
def stInternal : Sts := ⟨12, 0⟩

/-- The command on mailbox `m` ends: its response waits for MBX_COMMAND_DONE (R400, R407). -/
def Part.mbxEnd (p : Part) (m : Nat) (st : Sts) (result : List Byte) : Part :=
  let b := p.mbx m
  p.updMbx m fun b' => { b' with
    ended := true
    rsp := b.run.take 4 ++ natLe 2 result.length ++ natLe 1 st.code ++ natLe 1 st.reason ++ natLe 1 (p.mbxHedge m) ++
      List.replicate 7 0 ++ result }

/-- A command that ends without its own results (R326, R410, R419): an IMAGE_BIND then sets IMAGE and answers that no rule, check, frond or place is named. -/
def Part.mbxFail (p : Part) (m : Nat) (st : Sts) : Part :=
  if (p.mbx m).opcode = 0x0401 then (p.setVfIrq (p.mbxHedge m) 2).mbxEnd m st (List.replicate 8 0) else p.mbxEnd m st []

end Sys2Proof.Machine
end

