-- ==== Sys2Proof/Machine/Timing.lean ====
section
/-!
DEFINITION. Sys2Proof/Machine/Timing.lean: operating points, glides, tempo monitors and the cadence guard (R40 to R80).
-/

namespace Sys2Proof.Machine

open Sys2Proof

/-! ### Points and bands -/

/-- The nominal VDD_FAB of each point in mV (R43). -/
def nominalMv (vl : Nat) : Nat := [500, 550, 620, 700, 780, 850].getD vl 850

/-- The minimum step rate in M steps/s of a point in a band: 0 C, 1 N, 2 H (R47). -/
def stepRate (vl band : Nat) : Nat :=
  (([[140, 160, 150], [290, 310, 300], [460, 480, 460], [660, 660, 630], [820, 810, 770], [940, 920, 880]] :
    List (List Nat)).getD vl []).getD band 0

/-- The window of a point (R46): −20 mV to +30 mV around nominal. -/
def inWindow (vl mv : Nat) : Bool := decide (nominalMv vl ≤ mv + 20) && decide (mv ≤ nominalMv vl + 30)

/-- The highest point whose window floor is at or below a voltage; VL0 where none is (R58, R59). -/
def pointBelow (mv : Nat) : Nat := ((upTo 6 fun vl => decide (nominalMv vl ≤ mv + 20)).getLast?).getD 0

/-- The bands that contain a sensor reading (R47): bit 0 C, which only the -G suffix has, bit 1 N, bit 2 H. -/
def bandsOf (suffixG : Bool) (t : Int) : Nat :=
  let c := if suffixG && decide (t ≤ 0) then 1 else 0
  let n := if decide (t ≤ 85) && (decide (0 ≤ t) || !suffixG) then 2 else 0
  let h := if decide (85 ≤ t) then 4 else 0
  c + n + h

/-- The bands in which a sensor still counts because its reading lies within 2 °C of their edges (R49).
How the hysteresis works is this model's choice (DESIGN CHOICE, notes/assumptions/77.md): a sensor enters a band at its edge and stops counting in the old one only 2 °C beyond, so that it counts in both meanwhile. -/
def bandsNear (suffixG : Bool) (t : Int) : Nat :=
  let c := if suffixG && decide (t ≤ 2) then 1 else 0
  let n := if decide (t ≤ 87) && (decide (-2 ≤ t) || !suffixG) then 2 else 0
  let h := if decide (83 ≤ t) then 4 else 0
  c + n + h

/-- The bands that bracken `b` counts in. -/
def Part.bandsAt (p : Part) (b : Nat) : Nat := Tab.get 2 b p.vl.bands

/-- The service level (R769): 0 MOSS_ROM, 1 MOSS_FW, 2 PARTIAL, 3 FULL. -/
def Part.service (p : Part) : Nat := p.fg GBL_STATUS_SERVICE

/-- The active point. -/
def Part.active (p : Part) : Nat := p.fg TEL_VL_STATUS_ACTIVE

/-- Whether a bound image's footprint holds bracken `b` (brackens are numbered 8 × row + column, R94). -/
def Part.brackenRuns (p : Part) (b : Nat) : Bool :=
  (List.range 16).any fun h =>
    match (p.hedge h).image with
    | some im => decide (im.row ≤ b / 8 ∧ b / 8 < im.row + im.rows ∧ im.col ≤ b % 8 ∧ b % 8 < im.col + im.cols)
    | none => false

/-! ### The cadence guard's requirement -/

/-- Whether hedge `h` is guarded (R63). -/
def Part.guarded (p : Part) (h : Nat) : Bool := p.flag (TEL_CADENCE_ENABLE h) && p.fg (TEL_CADENCE_FLOOR h) != 0

/-- The static point of a floor in the governing band (R64). -/
def Part.staticPoint (p : Part) (floor : Nat) : Nat :=
  ((List.range' 1 5).find? fun vl => decide (floor ≤ stepRate vl (p.fg TEL_VL_STATUS_BAND))).getD 5

/-- The guard's working state of hedge `h`. -/
def Part.guard (p : Part) (h : Nat) : Guard := Tab.get {} h p.vl.guards

/-- The guard's working state of hedge `h` with a change. -/
def Part.updGuard (p : Part) (h : Nat) (f : Guard → Guard) : Part :=
  { p with vl := { p.vl with guards := Tab.upd {} h f p.vl.guards } }

/-- The highest required point of all guarded hedges (R68). -/
def Part.guardPoint (p : Part) : Nat :=
  (List.range 16).foldl (fun m h => if p.guarded h then max m (p.guard h).req else m) 0

/-- The target point (R44, R45); stages S4 and S7 glide to VL1 (R766). -/
def Part.targetPoint (p : Part) : Nat :=
  if p.service ≤ 1 then (if p.brackenRuns 0 || p.boot.rising then 1 else 0)
  else min (max (max (p.fg TEL_VL_CTRL_BASE) p.guardPoint) 1) (p.fg TEL_VL_CTRL_CEIL)

/-- The guarded hedges' required points rise to their static points (R64: recomputed when the governing band changes).
Where the static point falls, the required point stays, and the guard lowers it step by step as after a deficit (R66; DEDUCED, notes/assumptions/79.md). -/
def Part.raiseStatic (p : Part) : Part :=
  forN 16 (fun h p => if p.guarded h then
    p.updGuard h fun g => { g with req := max g.req (p.staticPoint (p.fg (TEL_CADENCE_FLOOR h))) } else p) p

/-- The governing band (R49): the lowest step-rate entry at the active point among the bands that hold a reading. -/
def Part.regov (p : Part) : Part :=
  let here := upTo 3 fun x => (List.range 64).any fun b => (p.bandsAt b).testBit x
  let low := here.foldl (fun m x => min m (stepRate p.active x)) 10000
  let (g, p) := p.choose (p.fg TEL_VL_STATUS_BAND) (here.filter fun x => stepRate p.active x == low)
  if g = p.fg TEL_VL_STATUS_BAND then p else (p.fs TEL_VL_STATUS_BAND g).raiseStatic

/-! ### Glides (R53 to R59) -/

/-- The VOUT_COMMAND code of PMBus. -/
def voutCommand : Nat := 0x21

/-- A glide to `t` begins (R57): a lowering lowers ACTIVE first; during a glide ACTIVE never exceeds the confirmed point nor the new target (R56). -/
def Part.glideStart (p : Part) (t : Nat) : Part :=
  let a := if p.flag TEL_VL_STATUS_GLIDING then min p.active (min p.vl.confirmed t) else min p.active t
  let p := (p.fs TEL_VL_STATUS_ACTIVE a).fs TEL_VL_STATUS_TARGET t
  ({ p with vl := { p.vl with retrying := false } }.setFlag TEL_VL_STATUS_GLIDING true).emit (.pmbus voutCommand (nominalMv t))

/-- The part acts on the target point: a glide begins when it is new (R45, R57). A glide that waits for its retry starts with the retry (R58). -/
def Part.retarget (p : Part) : Part :=
  let t := p.targetPoint
  if p.flag TEL_VL_STATUS_GLIDING then
    if t = p.fg TEL_VL_STATUS_TARGET then p else p.glideStart t
  else if p.vl.retrying then (if t < p.active then p.glideStart t else p)
  else if t = p.active then p
  else p.glideStart t

/-- The target, the governing band at the new active point, and what follows from it. -/
def Part.vlSettle (p : Part) : Part := p.retarget.regov.retarget

/-- A failed glide (R58, R59): the regulator did not acknowledge, or the voltage read lies outside the window. -/
def Part.vlFault (p : Part) (read : Option Nat) : Part :=
  let a := match read with
    | some mv => pointBelow mv
    | none => min p.vl.confirmed (p.fg TEL_VL_STATUS_TARGET)
  let p := p.setGbl TEL_VL_STATUS_VOUT_FAULT 3
  let p := (p.raiseOp 0x0142 0x0112 none noDetail).incS TEL_VL_FAULTS
  let p := ((p.fs TEL_VL_STATUS_ACTIVE a).fs TEL_VL_STATUS_TARGET a).setFlag TEL_VL_STATUS_GLIDING false
  let wait := if p.vl.retryMs = 0 then 1 else min 1000 (2 * p.vl.retryMs)
  { p with vl := { p.vl with retrying := true, retryMs := wait, vdd := read.getD p.vl.vdd } }

/-- READ_VOUT after the slew (R55, R57): inside the window the target becomes active and confirmed. -/
def Part.glideRead (p : Part) (read : Option Nat) : Part :=
  if !p.flag TEL_VL_STATUS_GLIDING then p
  else
    let t := p.fg TEL_VL_STATUS_TARGET
    match read with
    | some mv =>
      if inWindow t mv then
        let p := (p.fs TEL_VL_STATUS_ACTIVE t).setFlag TEL_VL_STATUS_GLIDING false
        let p := { p with vl := { p.vl with confirmed := t, retryMs := 0, vdd := mv } }
        p.regov.retarget
      else (p.vlFault (some mv)).regov
    | none => (p.vlFault none).regov

/-- The repeated glide after the backoff wait (R58). -/
def Part.glideRetry (p : Part) (ack : Bool) : Part :=
  if !p.vl.retrying then p
  else
    let t := p.targetPoint
    let p := p.glideStart t
    if ack then p.regov else (p.vlFault none).regov

/-! ### Tempo monitors and guard -/

/-- One gate of the guard for hedge `h` (R65, R67, R69, R70). `since` counts the gates that ended since the last lowering, so the k-th gate after it finds k − 1, and a deficit recurs within 256 gates where that is below 256. -/
def Part.guardGate (p : Part) (h : Nat) : Part :=
  let own := upTo 64 fun b => p.flag (FAB_BRK_OWNER_OWNED b) && p.fg (FAB_BRK_OWNER_HEDGE b) == h && p.flag (TEL_TEMPO_VALID b)
  let low := own.foldl (fun m b => min m (p.fg (TEL_TEMPO_RATE b))) 0x10000
  let ceil := p.fg TEL_VL_CTRL_CEIL
  if p.guarded h && decide (low < p.fg (TEL_CADENCE_FLOOR h)) then
    let p := p.updGuard h fun g =>
      { req := min (p.active + 1) ceil, clean := 0, toward := 0,
        period := if g.since < 256 then min 4096 (2 * g.period) else g.period, since := 257 }
    if decide (ceil ≤ p.active) && !p.flag (TEL_CADENCE_DEFICIT h) then
      ((p.setFlag (TEL_CADENCE_DEFICIT h) true).setFlag (TEL_CADENCE_DEFICIT_SEEN h) true).raiseBoth (0x0150 + h) 0x0110 h noDetail
    else p
  else
    p.updGuard h fun g =>
      { g with clean := min 4096 (g.clean + 1), toward := min 4096 (g.toward + 1), since := min 257 (g.since + 1),
               period := if g.clean + 1 ≥ 4096 then 256 else g.period }

/-- The gate's result of bracken `b` (R60, R62, R78). -/
def Part.gateRate (p : Part) (counts : List Nat) (b : Nat) : Part :=
  let rate := counts.getD b 0 / 2 ^ p.fg TEL_TEMPO_CTRL_GATE
  let low := if p.vl.clearMin then rate else min rate (p.fg (TEL_TEMPO_MIN_MIN_RATE b))
  let p := (p.fs (TEL_TEMPO_RATE b) rate).setFlag (TEL_TEMPO_VALID b) true
  (p.fs (TEL_TEMPO_MIN_MIN_RATE b) low).setFlag (TEL_TEMPO_MIN_VALID b) true

/-- The end of a tempo monitor gate with each bracken's step count (R60, R65, R72). -/
def Part.gateEnd (p : Part) (counts : List Nat) : Part :=
  let p := forN 64 (fun b p => p.gateRate counts b) p
  let p := { p with vl := { p.vl with clearMin := false } }
  (forN 16 (fun h p => p.guardGate h) p).vlSettle

/-- The guard lowers a required point after its waiting period, never below the static point (R66). -/
def Part.cadenceLower (p : Part) (h : Nat) : Part :=
  let g := p.guard h
  if p.guarded h && decide (g.period ≤ g.toward) && decide (p.staticPoint (p.fg (TEL_CADENCE_FLOOR h)) < g.req) then
    (p.updGuard h fun g => { g with req := g.req - 1, toward := 0, since := 0 }).vlSettle
  else p

/-- Sixteen consecutive gates without deficit end the deficit at CEIL (R70). -/
def Part.tempoRestored (p : Part) (h : Nat) : Part :=
  if p.flag (TEL_CADENCE_DEFICIT h) && decide (16 ≤ (p.guard h).clean) then
    (p.setFlag (TEL_CADENCE_DEFICIT h) false).raiseBoth (0x0150 + h) 0x0111 h noDetail
  else p

/-- FLOOR and ENABLE of hedge `h` are set (R63, R64): the static point is recomputed; a hedge that becomes guarded starts from it. -/
def Part.setCadence (p : Part) (h floor : Nat) (enable : Bool) : Part :=
  let was := p.guarded h
  let p := (p.fs (TEL_CADENCE_FLOOR h) floor).setFlag (TEL_CADENCE_ENABLE h) enable
  let st := p.staticPoint (p.fg (TEL_CADENCE_FLOOR h))
  let p :=
    if !p.guarded h then p.updGuard h fun g => { g with req := 0 }
    else if was then p.updGuard h fun g => { g with req := max g.req st }
    else p.updGuard h fun g => { req := st, clean := g.clean }
  p.vlSettle

/-- A bracken sensor reading (R49, R75, R78): the bracken's bands, TJ_MAX, the governing band, and what follows. -/
def Part.bandChange (p : Part) (b : Nat) (t : Int) : Part :=
  let g := p.ep.suffixG
  let m := bandsOf g t ||| (p.bandsAt b &&& bandsNear g t)
  let p := p.fs (TEL_TEMPO_TJ b) (BitVec.ofInt 8 t).toNat
  let p := { p with vl := { p.vl with bands := Tab.put 2 b m p.vl.bands } }
  let tj := (List.range 64).foldl (fun m b => max m (BitVec.ofNat 8 (p.fg (TEL_TEMPO_TJ b))).toInt) (-128)
  let p := p.fs TEL_VL_STATUS_TJ_MAX (BitVec.ofInt 8 tj).toNat
  p.regov.vlSettle

/-- Every VALID bit clears and the measurement restarts (R62): the VALID bits of the TEL_TEMPO_b registers.
TEL_TEMPO_MIN_b.VALID says that a valid gate was seen since CLEAR_MIN (R78) and stays (DEDUCED, notes/assumptions/78.md). -/
def Part.tempoRestart (p : Part) : Part := forN 64 (fun b p => p.setFlag (TEL_TEMPO_VALID b) false) p

/-- A legal encoding of BASE and CEIL (R74). -/
def legalPoint (v : Nat) : Bool := decide (1 ≤ v ∧ v ≤ 5)

/-! ### Meanings -/

/-- TEL_VL_CTRL_WRITE (R45, R74): BASE and CEIL take legal encodings (R17), and the target is recomputed. -/
def execTelVlCtrlWrite (base ceil : Nat) (s : State) : Host.Outcome State Fault Refusal :=
  blockPart 11 (True) (fun p =>
    let p := if legalPoint base then p.fs TEL_VL_CTRL_BASE base else p
    let p := if legalPoint ceil then p.fs TEL_VL_CTRL_CEIL ceil else p
    p.vlSettle) s

/-- GLIDE_READ_VOUT (R55, R57, R58). -/
def execGlideReadVout (read : Option Nat) (s : State) : Host.Outcome State Fault Refusal :=
  onPart (fun p => p.glideRead read) s

/-- GLIDE_RETRY (R58). -/
def execGlideRetry (ack : Bool) (s : State) : Host.Outcome State Fault Refusal :=
  onPart (fun p => p.glideRetry ack) s

/-- CADENCE_LOWER (R66). -/
def execCadenceLower (h : Nat) (s : State) : Host.Outcome State Fault Refusal :=
  onPartIf (h < 16) (fun p => p.cadenceLower h) s

/-- TEMPO_RESTORED (R70). -/
def execTempoRestored (h : Nat) (s : State) : Host.Outcome State Fault Refusal :=
  onPartIf (h < 16) (fun p => p.tempoRestored h) s

/-- TEMPO_GATE_WRITE (R62, R76): a reserved encoding is ignored (R17). -/
def execTempoGateWrite (gate : Nat) (s : State) : Host.Outcome State Fault Refusal :=
  blockPart 11 (True) (fun p => if gate ≤ 10 then (p.fs TEL_TEMPO_CTRL_GATE gate).tempoRestart else p) s

/-- CLEAR_MIN (R76, R78). -/
def execClearMin (s : State) : Host.Outcome State Fault Refusal :=
  blockPart 11 (True) (fun p =>
    let p := forN 64 (fun b p => p.setFlag (TEL_TEMPO_MIN_VALID b) false) p
    { p with vl := { p.vl with clearMin := true } }) s

/-- CLEAR_FAULTS (R76). -/
def execClearFaults (coin : Nat) (s : State) : Host.Outcome State Fault Refusal :=
  blockPart 11 (True) (fun p => p.clrHit TEL_VL_FAULTS (coin.testBit 0)) s

/-- CADENCE_FLOOR_WRITE (R63, R64, R77). -/
def execCadenceFloorWrite (h floor : Nat) (enable : Bool) (s : State) : Host.Outcome State Fault Refusal :=
  blockPart 11 (h < 16) (fun p => p.setCadence h floor enable) s

/-- BAND_CHANGE (R49, R64). -/
def execBandChange (b : Nat) (t : Int) (s : State) : Host.Outcome State Fault Refusal :=
  onPartIf (b < 64) (fun p => p.bandChange b t) s

end Sys2Proof.Machine
end

