-- ==== Sys2Proof/Machine/LichenCore.lean ====
section
/-!
DEFINITION. Sys2Proof/Machine/LichenCore.lean: the core domain's clock, records and their way to the operator ring (R631 to R655).
-/

namespace Sys2Proof.Machine

open Sys2Proof

/-- A change to the core domain. -/
def Part.updCore (p : Part) (f : Core → Core) : Part := { p with core := f p.core }

/-! ### The real-time clock (R637 to R639) -/

/-- The RTC now: ticks of 1/32,768 s since its value was set. -/
def Part.rtcNow (p : Part) : Nat := (p.core.rtcBase + (p.clock - p.core.rtcAt) * 32768 / 10 ^ 9) % 2 ^ 64

/-- The RTC set to a value now. -/
def Part.rtcSet (p : Part) (v : Nat) : Part := p.updCore fun c => { c with rtcBase := v % 2 ^ 64, rtcAt := p.clock }

/-- Device time starts again at zero (R389); the Lichen die's clocks run on (R332). -/
def Part.timeRestart (p : Part) : Part := { p with past := p.clock, time := 0 }

/-- RTC seconds: bits 46 to 15 (R639). -/
def rtcSeconds (rtc : Nat) : Nat := bitsOfNat rtc 15 32

/-! ### Records (R647 to R655) -/

/-- Whether the core domain runs from VSTBY. -/
def Part.vstby (p : Part) : Bool := p.flag LCH_CORE_STATUS_VSTBY_OK

/-- The 32 bytes of a record (R647). -/
def CoreRec.encode (r : CoreRec) : List Byte :=
  let b := natLe 4 r.seq ++ natLe 2 r.code ++ natLe 1 r.flags ++ natLe 1 0 ++ natLe 8 r.rtc ++ natLe 4 r.detail ++ natLe 8 0
  b ++ natLe 4 (crc32c b)

/-- RET_COUNT follows retention RAM. -/
def Part.retView (p : Part) : Part := p.fs LCH_CORE_STATUS_RET_COUNT p.core.ret.length

/-- The codes whose DETAIL holds CELL_ONLY in bit 5 and RTC_VALID in bit 6 (R652). -/
def detailFlags (code : Nat) : Bool := code == 0x0C01 || code == 0x0C03

/-- A record latched on the cell alone and not yet written gets CELL_ONLY; every other stays as it is (R647, R652, R654). -/
def CoreRec.cellOnly (r : CoreRec) : CoreRec :=
  if !r.cell then r else { r with flags := r.flags ||| 1, detail := if detailFlags r.code then r.detail ||| 32 else r.detail }

/-- A record is latched into retention RAM, which takes 63; a full one loses it but its SEQ is consumed (R648); without power nothing latches it (R635). -/
def Part.record (p : Part) (code detail : Nat) : Part :=
  let valid := p.fg LCH_CORE_STATUS_RTC_VALID
  let d := if detailFlags code then detail ||| valid * 64 else detail
  let r : CoreRec := ⟨p.fg LCH_LOG_SEQ_SEQ, code, 2 * valid, p.rtcNow, d, !p.vstby⟩
  let r := if p.core.cellFailed then r.cellOnly else r
  if p.core.dead then p
  else
  let p := p.addW LCH_LOG_SEQ_SEQ 1
  if 63 ≤ p.core.ret.length then p.incE LCH_RET_OVERFLOW_COUNT
  else (p.updCore fun c => { c with ret := c.ret ++ [r] }).retView

/-- A core NVM write is counted (R676). -/
def Part.nvmWrite (p : Part) : Part := p.incE LCH_NVM_WRITES_COUNT

/-- The oldest retention record goes to the NVM log, a ring of 1,536 (R649, R650, R654, R675). -/
def Part.recordWrite (p : Part) : Part :=
  if !(p.vstby || (p.core.cellOk && !p.core.cellFailed)) || p.core.run.isSome then p
  else match p.core.ret with
    | [] => p
    | r :: rest =>
      let log := if 1536 ≤ p.core.log.length then p.core.log.drop 1 else p.core.log
      ((p.updCore fun c => { c with ret := rest, log := log ++ [r], cellOk := false }).nvmWrite).retView

/-- Whether SEQ `a` lies above SEQ `b` by modular difference (R20). -/
def seqAbove (a b : Nat) : Bool :=
  let d := (a + 2 ^ 32 - b % 2 ^ 32) % 2 ^ 32
  decide (0 < d ∧ d < 2 ^ 31)

/-- The hedge that owns the loop variable port. -/
def Part.lvOwner (p : Part) : Option Nat := (upTo 16 fun h => (p.hedge h).loopPort).head?

/-- Whether ring `r` would take a record now (R375). -/
def Part.ringTakes (p : Part) (r : Nat) : Bool := p.ringOpen r && decide ((p.ring r).held.length < p.ringFree r + 64)

/-- The next undelivered record of the NVM log goes to the operator ring (R651, R628). -/
def Part.logDeliver (p : Part) : Part :=
  if p.service < 1 || !p.ringTakes opRing then p
  else match p.core.log.find? fun r => seqAbove r.seq (p.fg LCH_LOG_DELIVERED_SEQ) with
    | none => p
    | some r =>
      let h := if 0x0B01 ≤ r.code ∧ r.code ≤ 0x0B03 then p.lvOwner else none
      let p := p.raise (r.code / 256 * 256) r.code h (r.detail + rtcSeconds r.rtc * 2 ^ 32) (h.toList ++ [opRing])
      p.fs LCH_LOG_DELIVERED_SEQ r.seq

/-- A loaded-cell test with VBAT `mv` under load (R636, R654). -/
def Part.cellTest (p : Part) (mv : Nat) : Part :=
  if p.core.dead then p
  else
  let p := (p.updCore fun c => { c with vbat := mv }).fs LCH_CORE_STATUS_VBAT (mv / 20)
  if 2700 ≤ mv then (p.setFlag LCH_CORE_STATUS_CELL_LOW false).updCore fun c => { c with cellOk := !p.vstby && !c.cellFailed }
  else
    let first := !p.flag LCH_CORE_STATUS_CELL_LOW
    let p := p.setFlag LCH_CORE_STATUS_CELL_LOW true
    let p := if p.vstby then p
      else p.updCore fun c => { c with cellFailed := true, cellOk := false, ret := c.ret.map CoreRec.cellOnly }
    if first then p.record 0x0C05 (mv + (if p.vstby then 0 else 2 ^ 16)) else p

/-! ### Meanings -/

/-- CELL_TEST (R636). -/
def execCellTest (mv : Nat) (s : State) : Host.Outcome State Fault Refusal := onPart (fun p => p.cellTest mv) s

/-- RECORD_NVM_WRITE (R649, R650, R654, R655). -/
def execRecordNvmWrite (s : State) : Host.Outcome State Fault Refusal := onPart (fun p => p.recordWrite) s

/-- LOG_DELIVERY (R651). -/
def execLogDelivery (s : State) : Host.Outcome State Fault Refusal := onPart (fun p => p.logDeliver) s

end Sys2Proof.Machine
end

