-- ==== Sys2Proof/Machine/Loop.lean ====
section
/-!
DEFINITION. Sys2Proof/Machine/Loop.lean: the loop domain: what drives the loop, inputs, sensors, faults, storage jobs and configuration (R591 to R613, R622 to R630).
-/

namespace Sys2Proof.Machine

open Sys2Proof

/-- A change to the loop domain. -/
def Part.updLoop (p : Part) (f : Loop → Loop) : Part := { p with loop := f p.loop }

/-! ### Configuration fields (R622, R623) -/

/-- A field of the loop configuration. -/
def Part.lcfg (p : Part) (off n : Nat) : Nat := bytesAt p.loop.cfg.loop off n

/-- A field of the HART configuration. -/
def Part.hcfg (p : Part) (off n : Nat) : Nat := bytesAt p.loop.cfg.hart off n

/-- SOURCE: 0 ACCEL, 1 MEASURE, 2 FIXED. -/
def Part.loopSource (p : Part) : Nat := p.lcfg 0 1

/-- Bytes of a configuration replaced from an offset on. -/
def putBytes (bs : List Byte) (off : Nat) (x : List Byte) : List Byte := bs.take off ++ x ++ bs.drop (off + x.length)

/-- Whether an FP32 pattern is finite. -/
def finite32 (x : Nat) : Bool := x / 2 ^ 23 % 256 != 255

/-- A finite FP32 pattern as an integer multiple of 2^−149. -/
def f32Int (x : Nat) : Int :=
  match readF32 x with
  | .num n m e => sgn n (shl m (e + 149))
  | _ => 0

/-- Whether a loop configuration keeps to the ranges of R622; bytes not listed are reserved. -/
def loopCfgOk (bs : List Byte) : Bool :=
  let f := bytesAt bs
  let sens (o : Nat) := decide (f o 1 ≤ 5 ∧ f (o + 1) 1 ≤ 1 ∧ f (o + 2) 1 ≤ 1) && [1, 2, 4, 8].contains (f (o + 3) 1)
  decide (f 0 1 ≤ 2 ∧ f 1 1 ≤ 2 ∧ f 2 1 ≤ 2 ∧ f 3 1 = 0 ∧ 10 ≤ f 4 4 ∧ f 4 4 ≤ 10000) &&
  finite32 (f 8 4) && finite32 (f 12 4) && decide (f32Int (f 8 4) ≠ f32Int (f 12 4)) &&
  decide (3500 ≤ f 0x10 2 ∧ f 0x10 2 ≤ 3600 ∧ 21000 ≤ f 0x12 2 ∧ f 0x12 2 ≤ 23000 ∧ 3500 ≤ f 0x14 2 ∧ f 0x14 2 ≤ 23000 ∧ f 0x17 1 = 0) &&
  sens 0x18 && sens 0x1C && decide (f 0x20 1 ≤ 1 ∧ f 0x21 31 = 0)

/-- Whether a HART configuration keeps to the ranges of R623. DATE lies in any three bytes. -/
def hartCfgOk (bs : List Byte) : Bool :=
  let f := bytesAt bs
  decide (f 0 1 ≤ 63 ∧ f 1 1 ≤ 1 ∧ f 2 1 ≤ 1 ∧ f 3 1 ≤ 1 ∧ 5 ≤ f 4 1 ∧ f 4 1 ≤ 20 ∧ f 5 3 = 0 ∧ f 0x0E 2 = 0 ∧ f 0x3F 1 = 0)

/-! ### Conditions (R600 to R602, R618, R619) -/

/-- Whether the core domain holds the Quickset die in reset, or PERST_N does (R336, R633, R645, R803). -/
def Part.qsDown (p : Part) : Bool := !p.vstby || !p.core.rails || p.flag LCH_CORE_STATUS_OVERTEMP || p.ep.perst

/-- The mapped action of the active alarms (R600, R642): 1 DOWNSCALE when any maps to it, otherwise 2 UPSCALE, 0 none. -/
def Part.alarmAction (p : Part) : Nat :=
  let acts := (upTo 5 fun i => (p.fg LCH_CORE_STATUS_ALARM).testBit i).map fun i => p.fg ⟨LCH_ALARM_CFG, 4 * i, 2⟩
  if acts.contains 1 then 1 else if acts.contains 2 then 2 else 0

/-- Whether R602 applies: the twin role is STANDBY and SOURCE is ACCEL. -/
def Part.loopStandby (p : Part) : Bool := p.fg TWN_STATUS_ROLE == 2 && p.loopSource == 0

/-- SENSOR_FAULT of the measuring input. -/
def Part.sensorFault (p : Part) : Bool := (Tab.get (0, false) (p.lcfg 0x20 1) p.loop.bad).2

/-- Write protect in force (R619). -/
def Part.writeProtect (p : Part) : Bool :=
  if p.fg LCH_LIFECYCLE_STATE == 3 && p.hcfg 3 1 == 0 then true else p.hcfg 2 1 == 1

/-- Byte 0 of the device-specific status (R618). STALE and HOST_ABSENT show under ACCEL, where they can drive the loop. -/
def Part.loopFaults (p : Part) : Nat :=
  let bit (b : Bool) (n : Nat) := if b then 2 ^ n else 0
  let accel := p.loopSource == 0
  bit (p.fg TWN_STATUS_ROLE == 2) 0 + bit p.loop.openLoop 1 + bit p.loop.noCompliance 2 + bit (accel && p.loop.stale) 3 +
    bit (accel && p.loop.absent) 4 + bit (p.alarmAction != 0) 5 + bit p.sensorFault 6

/-! ### The level in force and its current (R597, R598, R600) -/

/-- The two whole numbers of µA next to a value of R597, clamped to 3.8 mA to 20.5 mA, and whether it was clamped. -/
def Part.rangeUa (p : Part) (pv : Word) : (Nat × Nat) × Bool :=
  let lrv := f32Int (p.lcfg 8 4)
  let den := f32Int (p.lcfg 12 4) - lrv
  let num := 16000 * (f32Int pv.toNat - lrv)
  let (num, den) := if den < 0 then (-num, -den) else (num, den)
  let lo := 4000 + num.fdiv den
  let hi := if num.fdiv den * den = num then lo else lo + 1
  if hi < 3800 ∨ (hi = 3800 ∧ lo < 3800) then ((3800, 3800), true)
  else if lo > 20500 ∨ (lo = 20500 ∧ hi > 20500) then ((20500, 20500), true)
  else ((lo.toNat, hi.toNat), false)

/-- The current of an action (R598): 0 HOLD, 1 DOWNSCALE, 2 UPSCALE. -/
def Part.actionUa (p : Part) (a : Nat) : Nat :=
  if a = 2 then p.lcfg 0x12 2 else if a = 1 then p.lcfg 0x10 2 else p.loop.source.getD (p.lcfg 0x10 2)

/-- A current that is a whole number of µA and not clamped. -/
def exactUa (n : Nat) : (Nat × Nat) × Bool := ((n, n), false)

/-- Which of levels 4 to 8 holds, the whole numbers of µA that its current lies between, and whether it is clamped (R600). -/
def Part.sourceLevel (p : Part) : Nat × (Nat × Nat) × Bool :=
  if p.loop.fixed.isSome || p.loopSource == 2 then (4, exactUa (p.loop.fixed.getD (p.lcfg 0x14 2)))
  else if p.loopSource = 1 then
    if p.sensorFault then (5, exactUa (p.actionUa (p.lcfg 1 1)))
    else match Tab.get none (p.lcfg 0x20 1) p.loop.sens with
      | some v => (5, p.rangeUa v)
      | none => (5, exactUa p.loop.noInput)
  else if p.loop.absent then (6, exactUa (p.actionUa (p.lcfg 2 1)))
  else if p.loop.stale then (7, exactUa (p.actionUa (p.lcfg 1 1)))
  else if p.loopStandby then (8, exactUa (p.loop.dcc.getD p.loop.noInput))
  else match p.loop.pv with
    | some v => (8, p.rangeUa v)
    | none => (8, exactUa p.loop.noInput)

/-- The level in force, its current, and whether it is clamped (R600); where levels 4 to 8 drive, their current is `given`. -/
def Part.loopLevel (p : Part) (given : Nat) : Nat × Nat × Bool :=
  if !p.loop.running then (0, 3550, false)
  else if p.hcfg 1 1 = 0 then (1, 4000, false)
  else if p.alarmAction != 0 then (2, p.actionUa p.alarmAction, false)
  else match p.loop.cal with
    | some c => (3, c.point, false)
    | none => (p.sourceLevel.1, given, p.sourceLevel.2.2)

/-- The proxy registers follow the loop domain while it is present (R630). -/
def Part.loopView (p : Part) : Part :=
  if !p.loop.running then p
  else
    let p := ((p.fs LCH_LOOP_STATUS_LOOP_PRESENT 1).fs LCH_LOOP_STATUS_LEVEL p.loop.level).fs LCH_LOOP_STATUS_SOURCE p.loopSource
    let p := ((p.fs LCH_LOOP_STATUS_FAULTS p.loopFaults).setFlag LCH_LOOP_STATUS_WP p.writeProtect).fs LCH_LOOP_STATUS_POLL_ADDR (p.hcfg 0 1)
    (p.fs LCH_LOOP_CURRENT_SET_UA p.loop.setUa).fs LCH_LOOP_PV_PV (p.loop.pv.getD 0).toNat

/-- The loop domain applies the level in force: the set current, the end of a calibration that a lower level ends (R627), HOLD's memory (R598), and LOOP_STALE once per entry (R603, R628). -/
def Part.loopSettle (p : Part) : Part :=
  let p := if (p.loopLevel 0).1 < 3 then p.updLoop fun l => { l with cal := none } else p
  let (lo, hi) := p.sourceLevel.2.1
  let (g, p) := match p.loop.given with
    | some g => if g = lo ∨ g = hi then (g, p) else p.choose lo (if lo = hi then [lo] else [lo, hi])
    | none => p.choose lo (if lo = hi then [lo] else [lo, hi])
  let (lv, ua, sat) := p.loopLevel g
  let old := p.loop.setUa
  let p := p.updLoop fun l => { l with
    level := lv, setUa := ua, saturated := sat, source := if 4 ≤ lv then some ua else l.source
    given := if l.running then some g else none }
  let p := if ua = old then p else p.emit (.loopCurrent ua)
  let fail := lv == 7 || (lv == 5 && p.sensorFault)
  let was := p.loop.failing
  let p := p.updLoop fun l => { l with failing := fail }
  let cause := if lv = 5 then 3 else if p.loopStandby then 2 else 1
  (if fail && !was then p.record 0x0B03 (ua + cause * 2 ^ 16) else p).loopView

/-! ### Host-absent, staleness and inputs (R601 to R607) -/

/-- Host-absent begins (R601, R628). -/
def Part.hostAbsent (p : Part) : Part :=
  if p.loop.absent then p
  else
    let p := (p.updLoop fun l => { l with absent := true }).loopSettle
    if p.loop.running then p.record 0x0B04 (p.loop.setUa + 2 ^ 16) else p

/-- The staleness timer restarts (R603). -/
def Part.staleRestart (p : Part) : Part := p.updLoop fun l => { l with timer := p.clock, stale := false }

/-- An input is accepted (R601, R603, R604, R607). -/
def Part.inputAccepted (p : Part) : Part :=
  let p := (p.staleRestart).updLoop fun l => { l with accepted := some p.clock }
  let ends := p.loop.absent && !p.qsDown
  let p := if ends then p.updLoop fun l => { l with absent := false } else p
  let p := p.loopSettle
  if ends then p.record 0x0B04 p.loop.setUa else p

/-- Whether an input comes less than 1 ms after the last accepted one (R607). -/
def Part.tooSoon (p : Part) : Bool := p.loop.accepted.any fun a => decide (p.clock < a + 1000000)

/-- A source current with its PV is taken as an input (R602, R761). -/
def Part.sourceTake (p : Part) (ua pv : Nat) : Part :=
  (p.updLoop fun l => { l with pv := some (BitVec.ofNat 32 pv), dcc := some ua, dccNext := none }).inputAccepted

/-- A source current from DCC-P reaches the loop domain of a STANDBY (R602, R761); one that comes sooner than a millisecond after the last input waits, and replaces the one that waits (R607). -/
def Part.sourceInput (p : Part) (ua pv : Nat) : Part :=
  if !p.loop.running || !p.loopStandby then p
  else if p.tooSoon then p.updLoop fun l => { l with dccNext := some (ua, pv) }
  else p.sourceTake ua pv

/-- The loop domain takes the input that waits (R606, R607), at most one per millisecond; a STANDBY discards its own port's values (R602). -/
def Part.loopInput (p : Part) (t : Nat) : Part :=
  let p := p.at t
  let p := match p.loop.dccNext with
    | none => p
    | some x => if !p.loopStandby then p.updLoop fun l => { l with dccNext := none } else if p.tooSoon then p else p.sourceTake x.1 x.2
  match p.hs.br.lv with
  | none => p
  | some v =>
    if !p.loop.running then p
    else
      let took := { p with hs := { p.hs with br := { p.hs.br with lv := none } } }
      if p.loopStandby then took
      else if !finite32 v then took.incS LCH_LV_REJECTED
      else if p.tooSoon then p
      else ((took.addW LCH_LV_ACCEPTED_TOTAL 1).updLoop fun l => { l with pv := some (BitVec.ofNat 32 v) }).inputAccepted

/-- STALE_MS have passed without an accepted input (R603). -/
def Part.goStale (p : Part) (t : Nat) : Part :=
  let p := p.at t
  if p.loop.running && decide (p.loop.timer + p.lcfg 4 4 * 1000000 ≤ p.clock) then
    (p.updLoop fun l => { l with stale := true }).loopSettle
  else p

/-! ### Reset and start (R596, R624, R625, R665) -/

/-- The governing copy (R624): the valid one with the higher sequence number; the answer says whether it is copy A. -/
def Loop.governing (l : Loop) : Option (Bool × Nat × LoopCfg) :=
  match l.copyA, l.copyB with
  | some a, some b => if a.1 < b.1 then some (false, b) else some (true, a)
  | some a, none => some (true, a)
  | none, some b => some (false, b)
  | none, none => none

/-- A configuration is stored in the older copy with the next sequence number (R624). -/
def Loop.store (l : Loop) (c : LoopCfg) : Loop :=
  match l.governing with
  | some (true, n, _) => { l with copyB := some (n + 1, c) }
  | some (false, n, _) => { l with copyA := some (n + 1, c) }
  | none => { l with copyA := some (1, c) }

/-- A new configuration takes effect: a change of SOURCE restarts the timer and ends a HART fixed current (R603, R617). -/
def Part.cfgTake (p : Part) (c : LoopCfg) : Part :=
  let src := bytesAt c.loop 0 1 != p.loopSource
  let p := p.updLoop fun l => { l with cfg := c, fixed := if src then none else l.fixed }
  (if src then p.staleRestart else p).loopSettle

/-- CSTORE fell below 3.0 V (R596): what the domain held is gone, a copy being written is lost, and host commands that waited for one end with TIMEOUT (R624). -/
def Part.loopReset (p : Part) : Part :=
  let torn := p.loop.writes.any (·.admitted)
  let p := forIn' (p.loop.writes.filterMap (·.mbx)) (fun m p => p.mbxEnd m stTimeout []) p
  let p := p.updLoop fun l =>
    let keepA := !(torn && (l.governing.all fun g => !g.1))
    let keepB := !(torn && (l.governing.any fun g => g.1))
    { copyA := if keepA then l.copyA else none, copyB := if keepB then l.copyB else none
      trims := l.trims, absent := l.absent, setUa := l.setUa, maker := l.maker, devType := l.devType, counter := l.counter, cfg := l.cfg
      changed := l.changed }
  p.loopSettle

/-- LOOP_DEFAULTS_PENDING is served (R625, R665): both configurations return to their defaults. -/
def Part.loopDefaults (p : Part) : Part :=
  let p := (p.updLoop fun l => (l.store defaultCfg)).incE LCH_LOOP_NVM_WRITES_COUNT
  ((p.cfgTake defaultCfg).updCore fun c => { c with loopDefaults := false }).nvmWrite

/-- CSTORE passes 4.5 V (R596, R601, R624): the configuration is loaded. -/
def Part.loopStart (p : Part) : Part :=
  if p.loop.running then p
  else
    let (free, p) := p.draw 16701
    let p := p.updLoop fun l => { l with
      running := true, cold := true, stale := false, timer := p.clock, noInput := 3800 + free, absent := p.qsDown
      cfg := (l.governing.map fun g => g.2.2).getD defaultCfg
      changed := l.changed || l.governing.isNone }
    let p := p.incE LCH_LOOP_RESTARTS_COUNT
    let p := if p.core.loopDefaults then p.loopDefaults else p
    p.loopSettle

/-! ### Faults, sensors and jobs (R594, R595, R609 to R613) -/

/-- OPEN_LOOP by a readback in µA (R611, R613). -/
def Part.openLoop (p : Part) (read : Nat) (clear : Bool) : Part :=
  if !p.loop.running then p else
  let p := p.fs LCH_LOOP_CURRENT_READ_UA read
  if p.loop.openLoop != clear || decide (2 * read < p.loop.setUa) == clear then p
  else
    let p := (p.updLoop fun l => { l with openLoop := !clear }).loopView
    if clear then p else p.record 0x0B01 (read + p.loop.setUa * 2 ^ 16)

/-- NO_COMPLIANCE by the headroom in mV (R612, R613). -/
def Part.compliance (p : Part) (mv : Nat) (clear : Bool) : Part :=
  if !p.loop.running then p else
  let p := p.fs LCH_LOOP_AUX_HEADROOM_MV mv
  if p.loop.noCompliance != clear || (if clear then decide (mv < 900) else decide (800 ≤ mv)) then p
  else
    let p := (p.updLoop fun l => { l with noCompliance := !clear }).loopView
    if clear then p else p.record 0x0B02 (mv + p.loop.setUa * 2 ^ 16)

/-- The range of a sensor TYPE (R608), as whole numbers of its unit. -/
def sensorRange (type : Nat) : Int × Int :=
  if type = 1 ∨ type = 2 then (0, 4000) else if type = 4 then (-30, 30) else (-78, 78)

/-- A conversion's value beyond its range. -/
def beyondRange (type : Nat) (v : Word) : Bool :=
  let r := sensorRange type
  !finite32 v.toNat || decide (f32Int v.toNat < r.1 * 2 ^ 149 ∨ r.2 * 2 ^ 149 < f32Int v.toNat)

/-- A conversion of input `i` ends with a measured value, an FP32 pattern (R609, R610). -/
def Part.conversion (p : Part) (i : Nat) (v : Word) : Part :=
  if !p.loop.running || !p.loop.converting.contains i then p
  else
    let (n, f) := Tab.get (0, false) i p.loop.bad
    let n := if beyondRange (p.lcfg (0x18 + 4 * i) 1) v then max n 0 + 1 else min n 0 - 1
    let f := if 2 ≤ n then true else if n ≤ -2 then false else f
    (p.updLoop fun l => { l with
      sens := Tab.put none i (some v) l.sens
      bad := Tab.put (0, false) i (max (min n 2) (-2), f) l.bad
      converting := l.converting.erase i }).loopSettle

/-- The charge of a conversion in µC, by TYPE (R594). -/
def convCharge (type : Nat) : Nat := if type = 4 then 60 else if type ≤ 2 then 15 else 2

/-- What the jobs admitted in the last second took from CSTORE. -/
def Part.spentNow (p : Part) : Nat :=
  (p.loop.spent.filter fun e => decide (p.clock < e.1 + 1000000000)).foldl (fun n e => n + e.2) 0

/-- A job takes its charge. -/
def Part.spend (p : Part) (uc : Nat) : Part :=
  p.updLoop fun l => { l with spent := l.spent.filter (fun e => decide (p.clock < e.1 + 1000000000)) ++ [(p.clock, uc)] }

/-- The input whose conversion is due (R609). -/
def Part.dueInput (p : Part) : Option Nat :=
  (upTo 2 fun i => p.lcfg (0x18 + 4 * i) 1 != 0 && !p.loop.converting.contains i &&
    decide (Tab.get 0 i p.loop.due ≤ p.clock)).head?

/-- Whether R594 allows a job its charge. -/
def Part.jobRoom (p : Part) (uc : Nat) : Bool := decide (p.spentNow + uc ≤ 400)

/-- The conversion that is due is admitted where R594 allows its charge. -/
def Part.admitConversion (p : Part) : Part :=
  match p.dueInput with
  | none => p
  | some i =>
    let uc := convCharge (p.lcfg (0x18 + 4 * i) 1)
    if p.jobRoom uc then (p.spend uc).updLoop fun l => { l with
      converting := l.converting ++ [i], due := Tab.put 0 i (p.clock + 1000000000 / max 1 (p.lcfg (0x1B + 4 * i) 1)) l.due }
    else p

/-- CSTORE stands at `mv`: the first waiting job in order of R595 is admitted where R594 allows its charge. A write behind one that runs does not wait for admission (R621). -/
def Part.admitJob (p : Part) (t mv : Nat) : Part :=
  let p := p.at t
  if !p.loop.running then p else
  let p := p.fs LCH_LOOP_AUX_CSTORE_MV mv
  if mv < 6000 then p
  else match p.loop.replies with
    | r :: rest => if p.jobRoom 120 then ((p.spend 120).updLoop fun l => { l with replies := rest }).emit (.serial 16 r) else p
    | [] => match p.loop.writes with
      | w :: rest => if w.admitted then p.admitConversion else if !p.jobRoom 40 then p
        else (p.spend 40).updLoop fun l => { l with writes := { w with admitted := true } :: rest }
      | [] => p.admitConversion

/-- A loop NVM write joins the queue (R621). -/
def Part.queueWrite (p : Part) (w : LoopWrite) : Part := p.updLoop fun l => { l with writes := l.writes ++ [w] }

/-- The configuration that a new write starts from: what the last write in line will store. -/
def Part.lastCfg (p : Part) : LoopCfg := (p.loop.writes.getLast?.map (·.cfg)).getD p.loop.cfg

/-- The admitted write is complete and takes effect (R624); a host command that waited for it ends. -/
def Part.writeDone (p : Part) : Part :=
  match p.loop.writes with
  | w :: rest =>
    if !w.admitted || !p.loop.running then p
    else
      let p := (p.updLoop fun l => { (l.store w.cfg) with writes := rest, trims := w.trims <|> l.trims }).incE LCH_LOOP_NVM_WRITES_COUNT
      let p := p.cfgTake w.cfg
      match w.mbx with
      | some m => p.mbxEnd m stOk []
      | none => p
  | [] => p

/-- 600 s without a calibration command (R627). -/
def Part.calTimeout (p : Part) (t : Nat) : Part :=
  let p := p.at t
  if p.loop.cal.any fun c => decide (c.last + 600000000000 ≤ p.clock) then (p.updLoop fun l => { l with cal := none }).loopSettle else p

/-! ### Meanings -/

/-- LOOP_DOMAIN_RESET (R596). -/
def execLoopDomainReset (s : State) : Host.Outcome State Fault Refusal := onPart (fun p => p.loopReset) s

/-- LOOP_DOMAIN_START (R596). -/
def execLoopDomainStart (s : State) : Host.Outcome State Fault Refusal := onPart (fun p => p.loopStart) s

/-- CSTORE_JOB_ADMIT (R594, R595). -/
def execCstoreJobAdmit (t mv : Nat) (s : State) : Host.Outcome State Fault Refusal := onPart (fun p => p.admitJob t mv) s

/-- LOOP_INPUT_ACCEPT (R606, R607). -/
def execLoopInputAccept (t : Nat) (s : State) : Host.Outcome State Fault Refusal := onPart (fun p => p.loopInput t) s

/-- LOOP_STALE (R603). -/
def execLoopStale (t : Nat) (s : State) : Host.Outcome State Fault Refusal := onPart (fun p => p.goStale t) s

/-- LOOP_HOST_ABSENT (R601). -/
def execLoopHostAbsent (s : State) : Host.Outcome State Fault Refusal := onPart (fun p => if p.qsDown then p.hostAbsent else p) s

/-- CORE_FRAME_TIMEOUT (R601). -/
def execCoreFrameTimeout (s : State) : Host.Outcome State Fault Refusal := onPart (fun p => p.hostAbsent) s

/-- OPEN_LOOP (R611). -/
def execOpenLoop (read : Nat) (s : State) : Host.Outcome State Fault Refusal := onPart (fun p => p.openLoop read false) s

/-- OPEN_LOOP_CLEAR (R611). -/
def execOpenLoopClear (read : Nat) (s : State) : Host.Outcome State Fault Refusal := onPart (fun p => p.openLoop read true) s

/-- NO_COMPLIANCE (R612). -/
def execNoCompliance (mv : Nat) (s : State) : Host.Outcome State Fault Refusal := onPart (fun p => p.compliance mv false) s

/-- NO_COMPLIANCE_CLEAR (R612). -/
def execNoComplianceClear (mv : Nat) (s : State) : Host.Outcome State Fault Refusal := onPart (fun p => p.compliance mv true) s

/-- SENSOR_CONVERSION (R609, R610). -/
def execSensorConversion (k : Nat) (v : Word) (s : State) : Host.Outcome State Fault Refusal := onPartIf (k < 2) (fun p => p.conversion k v) s

/-- CALIBRATION_TIMEOUT (R627). -/
def execCalibrationTimeout (t : Nat) (s : State) : Host.Outcome State Fault Refusal := onPart (fun p => p.calTimeout t) s

/-- LOOP_NVM_WRITE_DONE (R624). -/
def execLoopNvmWriteDone (s : State) : Host.Outcome State Fault Refusal := onPart (fun p => p.writeDone) s

/-- LOOP_PRESENT_LOSS (R630). -/
def execLoopPresentLoss (s : State) : Host.Outcome State Fault Refusal :=
  onPart (fun p => if p.loop.running then p else p.setFlag LCH_LOOP_STATUS_LOOP_PRESENT false) s

/-- CLR_REJECTED (R630). -/
def execClrRejected (coin : Nat) (s : State) : Host.Outcome State Fault Refusal := blockPart 9 (True) (fun p => p.clrHit LCH_LV_REJECTED (coin.testBit 0)) s

/-- CLR_HART (R630). -/
def execClrHart (coin : Nat) (s : State) : Host.Outcome State Fault Refusal := blockPart 9 (True) (fun p => p.clrHit LCH_HART_ERRORS (coin.testBit 0)) s

/-- HART_FRAME_ERROR (R630). -/
def execHartFrameError (s : State) : Host.Outcome State Fault Refusal :=
  onPart (fun p => if p.loop.running then p.incS LCH_HART_ERRORS else p) s

end Sys2Proof.Machine
end

