-- ==== Sys2Proof/Machine/Endpoint.lean ====
section
/-!
DEFINITION. Sys2Proof/Machine/Endpoint.lean: the link, configuration space, identity and the VF interrupt block (R293 to R331).
Values of a standard capability that the manual does not give are those of the PCI Express and CXL specifications (PRESUMED, notes/assumptions/17.md).
-/

namespace Sys2Proof.Machine

open Sys2Proof

/-! ### Configuration registers -/

/-- One dword of configuration space: the value before any write, the bits that a write changes, and the bits that a written 1 clears. -/
structure CfgReg where
  init : Nat := 0
  rw : Nat := 0
  w1c : Nat := 0
  deriving DecidableEq, Repr

/-- The high dword that PF BAR2/3 reads after all ones are written, for each BAR2 size code (R311). -/
def bar2High (code : Nat) : Nat := [0xFFFFFFFC, 0xFFFFFFF0, 0xFFFFFFC0].getD code 0xFFFFFFFC

/-- The type 0 header of PF0 (R306, R311). -/
def pfHeader (p : Part) (off : Nat) : CfgReg :=
  match off with
  | 0x00 => { init := 0x72601D5A }
  | 0x04 => { init := 0x00100000, rw := 0x0546, w1c := 0xF9000000 }
  | 0x08 => { init := 0x12000021 }
  | 0x0C => { rw := 0xFF }
  | 0x10 => { init := 0x4, rw := 0xFE000000 }
  | 0x14 => { rw := 0xFFFFFFFF }
  | 0x18 => { init := 0xC }
  | 0x1C => { rw := bar2High p.ep.bar2Code }
  | 0x20 => { init := 0x4, rw := 0xFFF00000 }
  | 0x24 => { rw := 0xFFFFFFFF }
  | 0x2C => { init := 0x72601D5A }
  | 0x30 => { rw := 0xFFF00001 }
  | 0x34 => { init := 0x40 }
  | 0x3C => { rw := 0xFF }
  | _ => {}

/-- The PCI Express capability at its own offsets (R295, R298): Flit Mode Supported is bit 15 of its capabilities register, and Device Control has no auxiliary power enable (R293). -/
def pcieCap (p : Part) (next off : Nat) : CfgReg :=
  match off with
  | 0x00 => { init := 0x80020010 + next * 256 }
  | 0x04 => { init := 2 + 1 <<< 5 + 6 <<< 9 + 1 <<< 15 + 1 <<< 28 }
  | 0x08 => { init := 0x2910, rw := 0x79FF, w1c := 0x000F0000 }
  | 0x0C => { init := 6 + 16 <<< 4 + 2 <<< 10 + 4 <<< 15 + 1 <<< 22 }
  | 0x10 => { init := p.ep.speed <<< 16 + p.ep.width <<< 20, rw := 0x00CB }
  | 0x24 => { init := 0xF + 1 <<< 4 + 1 <<< 7 + 1 <<< 8 + 1 <<< 9 + 1 <<< 16 + 1 <<< 17 }
  | 0x28 => { rw := 0x135F }
  | 0x2C => { init := 0x7E }
  | 0x30 => { init := 6, rw := 0x000F }
  | _ => {}

/-- The AER capability at its own offsets. -/
def aerCap (next off : Nat) : CfgReg :=
  match off with
  | 0x00 => { init := 0x00020001 + next <<< 20 }
  | 0x04 => { w1c := 0x07FFF030 }
  | 0x08 => { rw := 0x07FFF030 }
  | 0x0C => { init := 0x00462030, rw := 0x07FFF030 }
  | 0x10 => { w1c := 0x0000F1C1 }
  | 0x14 => { init := 0x2000, rw := 0x0000F1C1 }
  | _ => {}

/-- The ATS capability at its own offsets (R293): Invalidate Queue Depth 32, page-aligned requests, global invalidate. -/
def atsCap (next off : Nat) : CfgReg :=
  match off with
  | 0x00 => { init := 0x0001000F + next <<< 20 }
  | 0x04 => { init := 0x60, rw := 0x801F0000 }
  | _ => {}

/-- The SR-IOV capability at its own offsets (R311, R321); VF Enable has commands of its own. -/
def sriovCap (off : Nat) : CfgReg :=
  match off with
  | 0x00 => { init := 0x1A010010 }
  | 0x08 => { rw := 0x18 }
  | 0x0C => { init := 0x000F000F }
  | 0x10 => { rw := 0xFFFF }
  | 0x14 => { init := 0x00010001 }
  | 0x18 => { init := 0x72610000 }
  | 0x1C => { init := 0x13 }
  | 0x20 => { init := 1, rw := 0xFFFFFFFF }
  | 0x24 => { init := 0x4, rw := 0xFFFC0000 }
  | 0x28 => { rw := 0xFFFFFFFF }
  | 0x2C => { init := 0xC }
  | 0x30 => { rw := 0xFFFFFFFC }
  | _ => {}

/-- The extended capabilities of PF0 beyond SR-IOV (R307, R308, R310). -/
def pfExtended (p : Part) (off : Nat) : CfgReg :=
  match off with
  | 0x148 => { init := 0x15810003 }
  | 0x14C => { init := p.ep.serial % 2 ^ 32 }
  | 0x150 => { init := p.ep.serial / 2 ^ 32 }
  | 0x158 => { init := 0x1601000E }
  | 0x1A8 => { init := 0x1B810013 }
  | 0x1AC => { rw := 0x3, w1c := 0x00030000 }
  | 0x1B0 => { init := 512 }
  | 0x1B4 => { rw := 0xFFFFFFFF }
  | 0x1B8 => { init := 0x1C01001B }
  | 0x1BC => { init := 20 <<< 8, rw := 0x00010000 }
  | 0x1C0 => { init := 0x1C81000D }
  | 0x1C4 => { init := 0xC, rw := 0x000C0000 }
  | 0x1C8 => { init := 0x1F810019 }
  | 0x1F8 => { init := 0x20810025 }
  | 0x208 => { init := 0x23810026 }
  | 0x238 => { init := 0x2681002A }
  | 0x268 => { init := 0x29810031 }
  | 0x298 => { init := 0x2E010027 }
  | 0x2E0 => { init := 0x32010023 }
  | 0x2E4 => { init := 0x04031E98 }
  | 0x2E8 => { init := 0x00030000 }
  | 0x2EC => { rw := if p.ep.cxl then 0x1 else 0 }
  | 0x2F4 => { init := 0x10020000 }
  | 0x320 => { init := 0x34010023 }
  | 0x324 => { init := 0x02031E98 }
  | 0x328 => { init := 0x00030007 }
  | 0x340 => { init := 0x0001000B }
  | 0x344 => { init := 0x01810001 }
  | 0x348 => { init := p.ep.cfgImage }
  | 0x34C => { init := p.service + p.fg GBL_STATUS_STAGE * 16 }
  | 0x350 => { init := p.ep.bar2Code }
  | _ => {}

/-- The configuration register of PF0 at a dword offset (R305 to R308). -/
def pfCfg (p : Part) (off : Nat) : CfgReg :=
  if off < 0x40 then pfHeader p off
  else if off = 0x40 then { init := 0x00035001 }
  else if off = 0x44 then { init := 0x8 + if (p.func 0).d3 then 3 else 0 }
  else if off = 0x50 then { init := 0x01FF6011, rw := 0xC0000000 }
  else if off = 0x54 then { init := 4 }
  else if off = 0x58 then { init := 0x80004 }
  else if 0x60 ≤ off ∧ off < 0x9C then pcieCap p 0 (off - 0x60)
  else if 0x100 ≤ off ∧ off < 0x148 then aerCap 0x148 (off - 0x100)
  else if 0x160 ≤ off ∧ off < 0x1A0 then
    (let r := sriovCap (off - 0x160)
     if off = 0x168 then { r with init := if p.ep.vfEnable then 1 else 0 } else r)
  else if 0x1A0 ≤ off ∧ off < 0x1A8 then atsCap 0x1A8 (off - 0x1A0)
  else pfExtended p off

/-- The configuration register of a VF at a dword offset (R306, R309). Its Device Control is PF0's, as SR-IOV has it. -/
def vfCfg (p : Part) (off : Nat) : CfgReg :=
  if off = 0 then { init := 0xFFFFFFFF }
  else if off = 0x04 then { init := 0x00100000, rw := 0x0004, w1c := 0xF9000000 }
  else if off = 0x08 then { init := 0x12000021 }
  else if off = 0x2C then { init := 0x72611D5A }
  else if off = 0x34 then { init := 0x40 }
  else if off = 0x40 then { init := 0x001F5011, rw := 0xC0000000 }
  else if off = 0x44 then { init := 0x38000 }
  else if off = 0x48 then { init := 0x39000 }
  else if off = 0x58 then { w1c := 0x000F0000 }
  else if 0x50 ≤ off ∧ off < 0x8C then pcieCap p 0 (off - 0x50)
  else if 0x100 ≤ off ∧ off < 0x148 then aerCap 0x148 (off - 0x100)
  else if off = 0x148 then { init := 0x1501000E }
  else if 0x150 ≤ off ∧ off < 0x158 then atsCap 0 (off - 0x150)
  else {}

/-- The configuration register of function `f`. -/
def Part.cfgReg (p : Part) (f off : Nat) : CfgReg := if f = 0 then pfCfg p off else vfCfg p off

/-- What function `f`'s configuration register at `off` reads: the written bits over the image. -/
def Part.cfgRead (p : Part) (f off : Nat) : Nat :=
  let r := p.cfgReg f off
  let w := (p.func f).cfgOr off r.init
  (r.init &&& (0xFFFFFFFF - (r.rw ||| r.w1c))) ||| (w &&& (r.rw ||| r.w1c))

/-- A configuration write with byte enables: writable bits take the data, and a written 1 clears a status bit. -/
def Part.cfgWrite (p : Part) (f off be data : Nat) : Part :=
  let r := p.cfgReg f off
  let en := (upTo 4 (be.testBit ·)).foldl (fun m i => m ||| 0xFF <<< (8 * i)) 0
  let old := p.cfgRead f off
  let rw := r.rw &&& en
  let clr := r.w1c &&& en &&& data
  let v := (old &&& (0xFFFFFFFF - rw)) ||| (data &&& rw)
  p.updFunc f fun F => { F with cfg := Tab.put none off (some (v &&& (0xFFFFFFFF - clr))) F.cfg }

/-- Bits of a configuration register set by the part. -/
def Part.cfgSet (p : Part) (f off mask : Nat) : Part :=
  p.updFunc f fun F => { F with cfg := Tab.put none off (some (p.cfgRead f off ||| mask)) F.cfg }

/-- The offset of AER in PF0 and in a VF (R307, R309). -/
def aerOff : Nat := 0x100

/-- An Unsupported Request is logged in AER of function `f`. -/
def Part.logUr (p : Part) (f : Nat) : Part := p.cfgSet f (aerOff + 4) (1 <<< 20)

/-- Whether function `f` exists: PF0 always, VF v while VF Enable is set and NumVFs covers it, and to the end of its FLR (R321, R322, R328). -/
def Part.fnExists (p : Part) (f : Nat) : Bool :=
  f == 0 || (p.ep.vfEnable && decide (f ≤ 15 ∧ f ≤ p.cfgRead 0 0x170)) || (p.func f).resetting

/-- Whether the host reaches function `f`: with ARI Capable Hierarchy clear, only functions 0 to 7 (R322). -/
def Part.fnReach (p : Part) (f : Nat) : Bool := p.fnExists f && (decide (f < 8) || (p.cfgRead 0 0x168).testBit 4)

/-- PF0's Device Control, which governs the requests of every function. -/
def Part.devCtl (p : Part) : Nat := p.cfgRead 0 0x68

/-- Max_Payload_Size in bytes: at most 512 (R293). -/
def Part.maxPayload (p : Part) : Nat := 128 * 2 ^ min 2 (p.devCtl / 2 ^ 5 % 8)

/-- Max_Read_Request_Size in bytes: at most 4,096 (R293). -/
def Part.maxRead (p : Part) : Nat := 128 * 2 ^ min 5 (p.devCtl / 2 ^ 12 % 8)

/-- The attributes of a request of agent number `n`: bit 0 Relaxed Ordering, bit 1 No Snoop, each only while Device Control allows it (R298), and Relaxed Ordering never on what must stay ordered (R467). Which requests the part marks beyond that is open (DEDUCED, notes/assumptions/94.md). -/
def Part.reqAttr (p : Part) (n : Nat) (ordered : Bool) : Nat :=
  (if p.devCtl.testBit 4 && !ordered && Config.relaxed n then 1 else 0) + (if p.devCtl.testBit 11 && Config.noSnoop n then 2 else 0)

/-- The status of a completion. -/
def cplOk : Nat := 0
/-- Unsupported Request. -/
def cplUr : Nat := 1
/-- Completer Abort. -/
def cplCa : Nat := 2
/-- Configuration Request Retry Status. -/
def cplCrs : Nat := 3

/-- Every reservation that a core holds is broken (R502, R513). -/
def Part.breakAll (p : Part) : Part :=
  { p with hs := { p.hs with br := { p.hs.br with reserv := [] } } }.fs HBR_SEM_RESERVED_BY 0

/-- Whether AtomicOp Requester Enable is set in PF0's Device Control 2 (R500). -/
def Part.atomicEnable (p : Part) : Bool := (p.cfgRead 0 0x88).testBit 6

/-- A change of AtomicOp Requester Enable breaks every reservation (R513). -/
def Part.atomicChange (p q : Part) : Part := if p.atomicEnable = q.atomicEnable then q else q.breakAll

/-- Whether memory requests reach function `f`: its Memory Space Enable, which the VFs share in the SR-IOV control. -/
def Part.memSpace (p : Part) (f : Nat) : Bool := if f = 0 then (p.cfgRead 0 4).testBit 1 else (p.cfgRead 0 0x168).testBit 3

/-- A configuration request to function `f` (R300, R305, R329, R340): a read, or a write with byte enables and data. -/
def Part.cfgRequest (p : Part) (f off : Nat) (wr : Option (Nat × Nat)) : Part :=
  let off := off / 4 * 4
  let p := { p with ep := { p.ep with aspmL1 := false } }
  if p.ep.perst || !p.ep.linkUp then p
  else if p.ep.crs || (p.func f).resetting then p.emit (.completion f cplCrs [])
  else if !p.fnReach f then p.emit (.completion f cplUr [])
  else match wr with
    | none => p.emit (.completion f cplOk ((List.range 4).map fun i => BitVec.ofNat 8 (p.cfgRead f off >>> (8 * i))))
    | some (be, data) => ((p.atomicChange (p.cfgWrite f off be data)).flushMsi f).emit (.completion f cplOk [])

/-! ### The link (R295 to R303) -/

/-- The highest rate: 32.0 GT/s (5) outside Flit mode, 64.0 GT/s (6) within it (R295). -/
def Part.topSpeed (p : Part) : Nat := if p.ep.flit then 6 else 5

/-- The initial flow-control credits (R477): those of completions are infinite. -/
def initialCredits : Credits := { ph := 256, pd := 8192, nph := 128, npd := 256, cplh := none, cpld := none }

/-- The endpoint advertises its credits. -/
def Part.advertise (p : Part) : Part :=
  let c := initialCredits
  { p with ep := { p.ep with credits := c } }.emit (.credits c.ph c.pd c.nph c.npd c.cplh c.cpld)

/-- Training from Detect, which also ends a link disable (R295, R302, R303, R337): `partnerFlit` says whether the partner advertises Flit mode, `alt` whether it accepts CXL.io and CXL.cache with 256-byte flits. -/
def Part.linkTrain (p : Part) (speed width : Nat) (partnerFlit alt : Bool) : Part :=
  if p.boot.stage = 0 || p.ep.linkUp then p
  else
    let s := min speed (if partnerFlit then 6 else 5)
    { p with ep := { p.ep with
      linkUp := true, linkDisabled := false, flit := partnerFlit, cxl := alt, degraded := false, aspmL1 := false
      speed := s, width := width, upSpeed := s, upWidth := width } }.advertise

/-- The detail of EP_LINK_DEGRADED and EP_LINK_RESTORED: link-up rate and width, then the present ones, a byte each. -/
def Part.linkDetail (p : Part) : Nat :=
  p.ep.upSpeed + p.ep.upWidth * 2 ^ 8 + p.ep.speed * 2 ^ 16 + p.ep.width * 2 ^ 24

/-- Recovery leaves the link at a rate and width, which are never above the present ones (R296, R297). -/
def Part.linkDegrade (p : Part) (speed width : Nat) : Part :=
  if !p.ep.linkUp then p
  else
    let speed := min speed p.ep.speed
    let width := min width p.ep.width
    let low := decide (speed < p.ep.upSpeed ∨ width < p.ep.upWidth)
    let p := { p with ep := { p.ep with speed := speed, width := width, degraded := p.ep.degraded || low } }
    if low then p.raiseOp 0x0400 0x0401 none p.linkDetail else p

/-- A change of rate or width that the host directs (R296, R297). -/
def Part.linkDirected (p : Part) (speed width : Nat) : Part :=
  if !p.ep.linkUp then p
  else
    let p := { p with ep := { p.ep with speed := min speed p.topSpeed, width := width } }
    if p.ep.degraded && p.ep.speed == p.ep.upSpeed && p.ep.width == p.ep.upWidth then
      { p with ep := { p.ep with degraded := false } }.raiseOp 0x0400 0x0402 none p.linkDetail
    else p

/-! ### Directory and identity (R313 to R317) -/

/-- Offset and size of the features of PF0's directory (R316), by ID from 1. -/
def features : List (Nat × Nat) :=
  [(0x00010000, 960 * 1024), (0x00100000, 0x100000), (0x00200000, 272 * 1024), (0x00300000, 0x40000),
   (0x00340000, 0x40000), (0x00380000, 0x80000), (0x00400000, 0x80000), (0x00480000, 0x40000),
   (0x004C0000, 0x40000), (0x00500000, 0x100000), (0x00600000, 0x100000), (0x00700000, 0x100000), (0x01000000, 0x1000000)]

/-- Whether function `f` finds feature `id` available (R316, R317, R327): a VF has beyond its mailbox nothing below PARTIAL. -/
def Part.finds (p : Part) (f id : Nat) : Bool := p.available id && (f == 0 || id == 3 || decide (2 ≤ p.service))

/-- The IDs of the features of function `f`'s directory (R316, R324). -/
def dirIds (f : Nat) : List Nat := if f = 0 then List.range' 1 13 else [1, 2, 3, 6]

/-- DIR_GEN of each directory counts the AVAILABLE flags that `q` shows otherwise than `p` (R317; DEDUCED, notes/assumptions/54.md). -/
def Part.dirChange (p q : Part) : Part :=
  let n := fun (f : Nat) => ((dirIds f).filter fun id => p.finds f id != q.finds f id).length
  let q := q.addW DIR_GEN_GEN (n 0)
  { q with ep := { q.ep with vfGen := (List.range' 1 15).foldl (fun t v => Tab.upd 0 v (fun g => (g + n v) % 2 ^ 32) t) q.ep.vfGen } }

/-- AVAILABLE flags set to a mask (R317). -/
def Part.setAvail (p : Part) (m : Nat) : Part := p.dirChange { p with ep := { p.ep with avail := m } }

/-- The identity record (R314). -/
def Part.ident (p : Part) : List Nat :=
  let le := fun n x => (List.range n).map fun i => (x >>> (8 * i)) % 256
  le 2 0x1D5A ++ le 2 0x7260 ++ [0x21, if p.ep.suffixG then 0x47 else 0x43, if p.ep.cxl then 1 else 0, p.ep.bar2Code] ++
  le 8 p.ep.serial ++ le 4 p.ep.fwif ++ le 4 p.ep.fwVersion ++ le 4 p.ep.romVersion ++ le 4 p.ep.cfgImage

/-! ### Meanings -/

/-- LINK_TRAINING (R295, R302, R303). -/
def execLinkTraining (speed width : Nat) (flit alt : Bool) (s : State) : Host.Outcome State Fault Refusal :=
  onPart (fun p => p.linkTrain speed width flit alt) s

/-- EP_LINK_DEGRADED (R297). -/
def execEpLinkDegraded (speed width : Nat) (s : State) : Host.Outcome State Fault Refusal :=
  onPart (fun p => p.linkDegrade speed width) s

/-- HOST_DIRECTED_RETRAIN (R296, R297). -/
def execHostDirectedRetrain (speed width : Nat) (s : State) : Host.Outcome State Fault Refusal :=
  onPart (fun p => p.linkDirected speed width) s

/-- MRDLK (R294): completed with Unsupported Request and logged in AER. -/
def execMrdlk (f : Nat) (s : State) : Host.Outcome State Fault Refusal :=
  onPart (fun p => if p.fnReach f then (p.logUr f).emit (.completion f cplUr []) else p.emit (.completion f cplUr [])) s

/-- CONFIGURATION_REQUEST (R300, R305, R340). -/
def execConfigurationRequest (f off : Nat) (wr : Option (Nat × Nat)) (s : State) : Host.Outcome State Fault Refusal :=
  onPart (fun p => p.cfgRequest f off wr) s

/-- ASPM_L1_ENTRY (R301): only when the host enabled L1 in ASPM Control. -/
def execAspmL1Entry (s : State) : Host.Outcome State Fault Refusal :=
  onPart (fun p => if p.ep.linkUp && (p.cfgRead 0 0x70).testBit 1 then { p with ep := { p.ep with aspmL1 := true } } else p) s

/-- A write of GBL_VF_IRQ_MASK of VF v (R326): unmasking a set bit sends VF vector 0. -/
def Part.vfMaskWrite (p : Part) (v m : Nat) : Part :=
  let old := p.fg (GBL_VF_IRQ_MASK_MASK v)
  let irq := (p.reg (GBL_VF_IRQ v)).toNat % 16
  let p := p.fs (GBL_VF_IRQ_MASK_MASK v) m
  if (upTo 4 fun i => old.testBit i && !m.testBit i && irq.testBit i).isEmpty then p else p.sendMsi v 0

end Sys2Proof.Machine
end

