-- ==== Sys2Proof/Machine/Bridges.lean ====
section
/-!
DEFINITION. Sys2Proof/Machine/Bridges.lean: the failure logs of the two bridges (R484 to R494, R507), and their clear registers.
-/

namespace Sys2Proof.Machine

open Sys2Proof

/-- The log of bridge `b`: 0 the host bridge, 1 the peripheral bridge. -/
def logReg (b i w : Nat) : Nat := if b = 0 then HBR_LOG i w else PBR_LOG i w

/-- A failure beyond or in a bridge (R491): hedge where one is concerned, `kind` 0 read, 1 posted write, 2 AtomicOp, direction, and reason. -/
structure BridgeFail where
  addr : Nat
  rid : Nat
  hedge : Option Nat
  kind : Nat
  out : Bool
  pasid : Option Nat
  reason : Nat
  deriving DecidableEq, Repr

/-- The four 64-bit words of a log record (R491). -/
def BridgeFail.words (f : BridgeFail) (time seq : Nat) : List Nat :=
  [f.addr, time,
   seq + f.rid % 2 ^ 16 * 2 ^ 32 + ((f.hedge.map (· % 16 + 128)).getD 0) * 2 ^ 48 + (f.kind + if f.out then 128 else 0) * 2 ^ 56,
   ((f.pasid.map (· % 2 ^ 20 + 2 ^ 31)).getD 0) + f.reason * 2 ^ 32]

/-- The record of a failure is written over the oldest of bridge `b`'s sixteen (R491). -/
def Part.logFail (p : Part) (b : Nat) (f : BridgeFail) : Part :=
  let seqF := if b = 0 then HBR_LOG_SEQ_SEQ else PBR_LOG_SEQ_SEQ
  let seq := p.fg seqF
  let ws := f.words p.time seq
  (forN 4 (fun w p => p.setReg (logReg b (seq % 16) w) (BitVec.ofNat 64 (ws.getD w 0))) p).addW seqF 1

/-- A failure is logged, counted, flagged and raised (R491 to R494, R507). -/
def Part.bridgeFail (p : Part) (b : Nat) (f : BridgeFail) : Part :=
  let seq := p.fg (if b = 0 then HBR_LOG_SEQ_SEQ else PBR_LOG_SEQ_SEQ)
  let p := p.logFail b f
  let p :=
    if f.kind = 1 then
      if b = 0 then (p.incS HBR_WFAILS).setGbl HBR_STATUS_WFAIL 1 else (p.incS PBR_WFAILS).setGbl PBR_STATUS_WFAIL 2
    else if b = 0 then (p.incS HBR_RFAILS).fs HBR_STATUS_RFAIL 1
    else (p.incS PBR_RFAILS).fs PBR_STATUS_RFAIL 1
  let code := if f.kind = 1 then 0x0802 else 0x0801
  let rings := match f.hedge with
    | some h => [h, opRing]
    | none => [opRing]
  p.raiseLimited (code + b * 2 ^ 16) 41 (0x0800 + b) code f.hedge
    (seq + f.reason * 2 ^ 32 + f.kind * 2 ^ 36 + (if f.out then 2 ^ 40 else 0) + f.rid % 2 ^ 16 * 2 ^ 48) rings

/-- Whether a memory request reaches function `f`: the host reaches the function, its memory space is enabled, it is not in D3hot and no FLR of it runs (R322, R329, R340). -/
def Part.accessOpen (p : Part) (f : Nat) : Bool :=
  if f = 0 then p.pfOpen else p.fnReach f && p.memSpace f && !(p.func f).resetting && !p.inD3 f && !p.ep.perst

/-- The bus address at which a BAR of function `f` begins: BAR 0, 2, 4, or 6 for the expansion ROM. -/
def Part.barBase (p : Part) (f bar : Nat) : Nat :=
  let pair := fun lo hi => p.cfgRead 0 lo / 16 * 16 + p.cfgRead 0 hi * 2 ^ 32
  if f = 0 then (if bar = 6 then p.cfgRead 0 0x30 / 2 ^ 20 * 2 ^ 20 else pair (0x10 + 4 * bar) (0x14 + 4 * bar))
  else if bar = 0 then pair 0x184 0x188 + (f - 1) * 2 ^ 18
  else pair 0x18C 0x190 + (f - 1) * 2 ^ 34

/-- The read error mode of a BAR of function `f` (R485): 0 BAR0, 1 BAR2, 2 BAR4. -/
def Part.urMode (p : Part) (f bar : Nat) : Bool := (p.reg (HBR_RDERR f)).getLsbD bar

/-- The completion of a failed inbound read or AtomicOp of `n` bytes under the BAR's mode (R485). -/
def Part.failedRead (p : Part) (f bar n : Nat) : Part :=
  if p.urMode f bar then (p.logUr f).emit (.completion f cplUr [])
  else p.emit (.completion f cplOk (List.replicate n 0xFF))

/-- An inbound failure in the host bridge's log (R491): the hedge is the one that the function serves. -/
def Part.inboundFail (p : Part) (f bar off rid kind reason : Nat) : Part :=
  p.bridgeFail 0 ⟨p.barBase f bar + off, rid, some f, kind, false, none, reason⟩

/-! ### Target timeouts and the loop variable port (R505 to R509) -/

/-- An access through the peripheral bridge fails (R507) with reason 1 TARGET_TIMEOUT, 3 TARGET_ABSENT or 4 PROXY_LINK: from the host (read of `len` bytes, or write, at a BAR of PF0), the management processor, or the hub's loop variable port. -/
def Part.targetFail (p : Part) (who bar off len rid reason : Nat) (write : Bool) : Part :=
  let k := if write then 1 else 0
  match who with
  | 0 =>
    let p := p.bridgeFail 1 ⟨p.barBase 0 bar + off, rid, none, k, false, none, reason⟩
    let p := p.inboundFail 0 bar off rid k 6
    if write then p else if bar = 6 then p.emit (.completion 0 cplOk (List.replicate len 0xFF)) else p.failedRead 0 (bar / 2) len
  | 1 => p.bridgeFail 1 ⟨off, 0, none, k, true, none, reason⟩
  | _ => (p.bridgeFail 1 ⟨off, 0, none, 1, true, none, reason⟩).updBr fun b => { b with lv := none }

/-! ### OBSERVED (R545 to R547) -/

/-- OBSERVED of hedge `h` is set; its rise shows in the VF's block (R326). -/
def Part.observe (p : Part) (h : Nat) : Part :=
  let f : Fld := ⟨DBG_OBSERVED, h, 1⟩
  if p.flag f then p else (p.fs f 1).setVfIrq h 3

/-- OBSERVED of the hedge that owns bracken `b`, where one does. -/
def Part.observeBrk (p : Part) (b : Nat) : Part :=
  match p.brkOwner b with
  | some h => p.observe h
  | none => p

/-- OBSERVED of the hedge that owns plot `j`, where one does. -/
def Part.observePlot (p : Part) (j : Nat) : Part :=
  match p.plotOwner j with
  | some h => p.observe h
  | none => p

/-- A PF0 access through BAR2 observes the owner of the plot that the entry names (R545). -/
def Part.observeBar2 (p : Part) (f off : Nat) : Part :=
  if f = 0 ∧ p.flag (SLC_PMAP_PF_VALID (off / 2 ^ 30)) then p.observePlot (p.fg (SLC_PMAP_PF_PLOT (off / 2 ^ 30))) else p

/-! ### Meanings -/

/-- GBL_VF_IRQ_MASK_WRITE (R326); a VF whose service level is below PARTIAL has no such block (R327), and one in D3hot or in its FLR discards the write (R329, R340). -/
def execGblVfIrqMaskWrite (v m : Nat) (s : State) : Host.Outcome State Fault Refusal :=
  onPart (fun p => if 1 ≤ v ∧ v ≤ 15 ∧ p.accessOpen v ∧ p.finds v 1 then p.vfMaskWrite v m else p) s

/-- HBR_CLR_RFAILS (R511). -/
def execHbrClrRfails (coin : Nat) (s : State) : Host.Outcome State Fault Refusal := blockPart 5 (True) (fun p => p.clrHit HBR_RFAILS (coin.testBit 0)) s

/-- HBR_CLR_WFAILS (R511). -/
def execHbrClrWfails (coin : Nat) (s : State) : Host.Outcome State Fault Refusal := blockPart 5 (True) (fun p => p.clrHit HBR_WFAILS (coin.testBit 0)) s

/-- PBR_CLR_RFAILS (R511). -/
def execPbrClrRfails (coin : Nat) (s : State) : Host.Outcome State Fault Refusal := blockPart 5 (True) (fun p => p.clrHit PBR_RFAILS (coin.testBit 0)) s

/-- PBR_CLR_WFAILS (R511). -/
def execPbrClrWfails (coin : Nat) (s : State) : Host.Outcome State Fault Refusal := blockPart 5 (True) (fun p => p.clrHit PBR_WFAILS (coin.testBit 0)) s

/-- CLR_LV (R511). -/
def execClrLv (coin : Nat) (s : State) : Host.Outcome State Fault Refusal := blockPart 5 (True) (fun p => p.clrHit PBR_LV_REPLACED (coin.testBit 0)) s

end Sys2Proof.Machine
end

