-- ==== Sys2Proof/Machine/Atu.lean ====
section
/-!
DEFINITION. Sys2Proof/Machine/Atu.lean: windows, PASIDs, the translation cache, page requests, and how an outbound request leaves (R431 to R472, R478, R479).
-/

namespace Sys2Proof.Machine

open Sys2Proof

/-! ### Windows (R434 to R438) -/

/-- Whether window `k` matches a request of hedge `h` at device address `a` (R434). -/
def Part.winMatch (p : Part) (h a k : Nat) : Bool :=
  p.flag (ATU_WIN_CFG_ENABLE k) && (p.fg (ATU_WIN_CFG_HEDGE_MASK k)).testBit h &&
  decide ((p.reg (ATU_WIN_BASE k)).toNat ≤ a ∧ a ≤ (p.reg (ATU_WIN_LIMIT k)).toNat)

/-- The winning window: the highest PRIORITY, then the lowest number (R434). -/
def Part.winWinner (p : Part) (h a : Nat) : Option Nat :=
  (upTo 64 (p.winMatch h a)).foldl (fun w k => match w with
    | none => some k
    | some j => if p.fg (ATU_WIN_CFG_PRIORITY j) < p.fg (ATU_WIN_CFG_PRIORITY k) then some k else some j) none

/-- The windows that lose a tie to window `w` are marked, and each pair is raised once (R435). -/
def Part.winConflicts (p : Part) (h a w : Nat) : Part :=
  let losers := upTo 64 fun k => k != w && p.winMatch h a k && p.fg (ATU_WIN_CFG_PRIORITY k) == p.fg (ATU_WIN_CFG_PRIORITY w)
  forIn' losers (fun k p =>
    let p := (p.fs ⟨ATU_WIN_LOST k, w, 1⟩ 1).fs ⟨ATU_CONFLICT, k, 1⟩ 1
    if p.hs.atu.conflicts.contains (k, w) then p
    else { p with hs := { p.hs with atu := { p.hs.atu with conflicts := (k, w) :: p.hs.atu.conflicts } } }.raiseOp 0x0700 0x0701 none
      (w + k * 64 + a / 4096 * 4096)) p

/-- A change of the ATU's own state. -/
def Part.updAtu (p : Part) (f : Atu → Atu) : Part := { p with hs := { p.hs with atu := f p.hs.atu } }

/-! ### Failed translations (R468) -/

/-- The number of an agent (R468). -/
def Agent.num : Agent → Nat
  | .fetch _ => 0
  | .send _ _ => 1
  | .recv _ _ => 2
  | .cpl _ => 3
  | .evt _ => 4
  | _ => 5

/-- The rings of a TRANSLATION_FAULT (R468, R469). -/
def Agent.faultRings (a : Agent) (h : Nat) : List Nat :=
  match a with
  | .evt r => if r = opRing then [] else [opRing]
  | _ => [h, opRing]

/-- A translation fails (R468). -/
def Part.xlFault (p : Part) (a : Agent) (h addr reason : Nat) : Part :=
  let detail := addr / 4096 * 4096 + reason * 256 + a.num
  let p := (p.setReg (ATU_FAULT h) (BitVec.ofNat 64 detail)).incS ATU_FAULTS
  let rings := a.faultRings h
  if rings.isEmpty then p else p.raise 0x0700 0x0702 (some h) detail rings

/-! ### The translation cache (R444 to R448) -/

/-- ATS Enable of function `f`. -/
def Part.atsOn (p : Part) (f : Nat) : Bool := (p.cfgRead f (if f = 0 then 0x1A4 else 0x154)).testBit 31

/-- PASID Enable, in PF0's capability for every function (R444). -/
def Part.pasidOn (p : Part) : Bool := (p.cfgRead 0 0x1BC).testBit 16

/-- Whether hedge `h` behaves as pinned (R450, R456). -/
def Part.pinnedNow (p : Part) (h : Nat) : Bool :=
  let c := p.cfgRead 0 0x1AC
  p.flag (ATU_HEDGE_PINNED h) || !c.testBit 0 || c.testBit 16

/-- The cache entry that serves a page and access (R445). -/
def Part.atcFind (p : Part) (fn pasid addr : Nat) (write : Bool) : Option AtcEnt :=
  p.hs.atu.atc.find? fun e => e.fn == fn && e.pasid == pasid && e.page / 2 ^ e.bits == addr / 2 ^ e.bits && (if write then e.wr else e.rd)

/-- The address that a cache entry gives. -/
def AtcEnt.out (e : AtcEnt) (addr : Nat) : Nat := e.taddr / 2 ^ e.bits * 2 ^ e.bits + addr % 2 ^ e.bits

/-- An entry joins the cache; a full cache gives up one of the part's choosing (R445). -/
def Part.atcFill (p : Part) (e : AtcEnt) : Part :=
  if p.hs.atu.atc.length < 8192 then p.updAtu fun a => { a with atc := a.atc ++ [e] }
  else
    let (v, p) := p.choose e p.hs.atu.atc
    p.updAtu fun a => { a with atc := a.atc.erase v ++ [e] }

/-- The record of an agent's translation. -/
def Part.xlOf (p : Part) (a : Agent) : Option Xlate := p.hs.atu.xl.find? (·.agent == a)

/-- The record of an agent's translation set or removed. -/
def Part.setXl (p : Part) (a : Agent) (x : Option Xlate) : Part :=
  p.updAtu fun t => { t with xl := t.xl.filter (·.agent != a) ++ x.toList }

/-- The Translation Request of an agent leaves (R447); in D3hot it waits in the bridge (R330). -/
def Part.atsGo (p : Part) (x : Xlate) : Part :=
  if p.inD3 x.fn then p.setXl x.agent (some { x with phase := .held })
  else
    let id := p.hs.atu.nextId
    ((p.updAtu fun t => { t with nextId := id + 1 }).setXl x.agent (some { x with phase := .ats id false })).emit (.ats 0 x.fn x.pasid x.page)

/-- A Translation Request for a page (R447). -/
def Part.atsSend (p : Part) (a : Agent) (h fn pasid addr : Nat) (write : Bool) (tries : Nat) : Part :=
  (p.addW ATU_ATC_MISSES_TOTAL 1).atsGo
    { agent := a, hedge := h, fn := fn, pasid := pasid, page := addr / 4096 * 4096, write := write, tries := tries, phase := .held }

/-- A HOST_PASID access after its window (R444 to R447); `tries` page requests were made for it. -/
def Part.xlPasid (p : Part) (a : Agent) (h slot addr : Nat) (write : Bool) (tries : Nat) : XRes × Part :=
  if !p.flag (ATU_PASID_VALID h slot) || !p.pasidOn then (.fail 2, p)
  else
    let pasid := p.fg (ATU_PASID_PASID h slot)
    if !p.atsOn h then (.bus addr (some pasid) false none, p)
    else match p.atcFind h pasid addr write with
      | some e => (.bus (e.out addr) (some pasid) true (some e.id), p.addW ATU_ATC_HITS_TOTAL 1)
      | none => (.wait, p.atsSend a h h pasid addr write tries)

/-- A LOCAL access after its window (R461). -/
def Part.xlLocal (p : Part) (h o : Nat) : XRes :=
  if p.plotOwner (o / 2 ^ 30) != some h then .fail 7
  else if !p.sliceUp (sliceOf o) then .fail 8
  else .loc o

/-- A translation from the window lookup on (R434 to R437). -/
def Part.xlLookup (p : Part) (a : Agent) (h addr : Nat) (write : Bool) (tries : Nat) : XRes × Part :=
  match p.winWinner h addr with
  | none => if h = 0 ∧ p.flag ATU_CTRL_FALLBACK then (.bus addr none false none, p) else (.fail 1, p)
  | some w =>
    let p := p.winConflicts h addr w
    let o := addr - (p.reg (ATU_WIN_BASE w)).toNat + (p.reg (ATU_WIN_TARGET w)).toNat
    match p.fg (ATU_WIN_CFG_TYPE w) with
    | 0 => p.xlPasid a h (p.fg (ATU_WIN_CFG_PSLOT w)) o write tries
    | 3 => (.coh o, p)
    | 4 => (p.xlLocal h o, p)
    | _ => (.bus o none false none, p)

/-- The answer for a page's first byte, moved to a byte of the page. -/
def XRes.shift (n : Nat) : XRes → XRes
  | .bus a ps tr u => .bus (a + n) ps tr u
  | .coh a => .coh (a + n)
  | .loc a => .loc (a + n)
  | r => r

/-- The answer for a byte, moved back to its page's first byte: every window keeps the offset in a page of 4 KiB (R438). -/
def XRes.page : XRes → XRes
  | .bus a ps tr u => .bus (a / 4096 * 4096) ps tr u
  | .coh a => .coh (a / 4096 * 4096)
  | .loc a => .loc (a / 4096 * 4096)
  | r => r

/-- The translation of agent `a`'s access (R431, R434 to R448): what was begun for its page goes on, and a failure is reported once (R468). -/
def Part.xlate (p : Part) (a : Agent) (h addr : Nat) (write : Bool) : XRes × Part :=
  let report := fun (r : XRes × Part) => match r.1 with
    | .fail n => (r.1, (r.2.setXl a none).xlFault a h addr n)
    | .wait => (r.1, r.2.updAtu fun t => { t with xl := t.xl.map fun x => if x.agent == a then { x with dev := addr / 4096 } else x })
    | _ => (r.1, r.2.setXl a none)
  match (p.xlOf a).filter (·.dev == addr / 4096) with
  | none => report (p.xlLookup a h addr write 0)
  | some x =>
    match x.phase with
    | .failed n => report (.fail n, p)
    | .grant t id => report (.bus (t + addr % 4096) (some x.pasid) true (some id), p)
    | .done r => report (r.shift (addr % 4096), p)
    | .again => report (p.xlLookup a h addr write x.tries)
    | _ => (.wait, p)

/-- An access that is translated and waits for something else keeps its translation, whatever the windows then become (R440). -/
def Part.xlKeep (p : Part) (a : Agent) (h addr : Nat) (write : Bool) (r : XRes) : Part :=
  let ps := match r with
    | .bus _ (some ps) _ _ => ps
    | _ => 2 ^ 20
  p.setXl a (some { agent := a, hedge := h, fn := h, pasid := ps, page := addr / 4096 * 4096, write := write, tries := 0, phase := .done r.page, dev := addr / 4096 })

/-! ### Page requests (R450 to R457) -/

/-- The fields that show page requests (R472). -/
def Part.priView (p : Part) : Part :=
  let all := p.hs.atu.preqs
  let p := p.fs ATU_STATUS_PRI_OUT all.length
  forN 16 (fun h p =>
    let n := (all.filter fun e => (e.2.map (·.hedge)) == some h).length
    let waits := p.hs.atu.xl.any fun x => x.hedge == h && (match x.phase with
      | .pri _ => true
      | .priWait => true
      | _ => false)
    (p.fs (ATU_HEDGE_PRI_OUT h) n).setFlag (ATU_HEDGE_STALLED h) waits) p

/-- A translation without permission goes to a page request: the one of its page, a new one, or it waits for a limit, or in D3hot for its end (R330, R452, R453, R455). -/
def Part.pageRequest (p : Part) (x : Xlate) : Part :=
  if 4 ≤ x.tries then p.setXl x.agent (some { x with phase := .failed 6 })
  else
    let all := p.hs.atu.preqs
    match all.find? fun e => match e.2 with
        | some q => q.fn == x.fn && q.pasid == x.pasid && q.page == x.page
        | none => false with
    | some e => p.setXl x.agent (some { x with tries := x.tries + 1, phase := .pri e.1 })
    | none =>
      let mine := (all.filter fun e => (e.2.map (·.hedge)) == some x.hedge).length
      if all.length < min 512 (p.cfgRead 0 0x1B4) ∧ mine < p.fg (ATU_HEDGE_PRI_QUOTA x.hedge) ∧ !p.inD3 x.fn then
        let slot := ((upTo 512 fun k => !Tab.has k all).headD 0)
        let p := p.updAtu fun t => { t with preqs := Tab.put none slot (some ⟨x.fn, x.pasid, x.page, x.hedge⟩) t.preqs }
        ((p.setXl x.agent (some { x with tries := x.tries + 1, phase := .pri slot })).addW ATU_PRI_REQS_TOTAL 1).emit
          (.ats 1 x.fn x.pasid (x.page + slot + (if x.write then 2 ^ 9 else 0) + 2 ^ 10))
      else p.setXl x.agent (some { x with phase := .priWait })

/-- A translation that needs a page request: none is made with ATS off (R446), or for a hedge that behaves as pinned (R450, R451). -/
def Part.needPage (p : Part) (x : Xlate) : Part :=
  if !p.atsOn x.fn then p.setXl x.agent (some { x with phase := .again })
  else if p.pinnedNow x.hedge then p.setXl x.agent (some { x with phase := .failed 3 })
  else p.pageRequest x

/-- The requests of hedge `h` that wait for one of its page requests to end try again (R453); so does a hedge that holds none, which waits for the part's limit alone (DEDUCED, notes/assumptions/96.md). -/
def Part.priRetry (p : Part) (h : Nat) : Part :=
  let none_ := fun (g : Nat) => !(p.hs.atu.preqs.any fun e => (e.2.map (·.hedge)) == some g)
  forIn' (p.hs.atu.xl.filter fun x => x.phase == .priWait && (x.hedge == h || none_ x.hedge)) (fun x p => p.needPage x) p

/-- An ATS Translation Completion for the request of id `id` (R446 to R448, R451, R452). -/
def Part.atsDone (p : Part) (id : Nat) (r : AtsRes) : Part :=
  match p.hs.atu.xl.find? fun x => decide (x.phase = XPhase.ats id false) || decide (x.phase = XPhase.ats id true) with
  | none => p
  | some x =>
    (if !p.atsOn x.fn then p.setXl x.agent (some { x with phase := .again })
    else match r with
    | .error => p.setXl x.agent (some { x with phase := .failed 4 })
    | .ok taddr bits rd wr glob =>
      if (if x.write then wr else rd) then
        let e : AtcEnt := ⟨id, x.fn, x.pasid, x.page, bits, rd, wr, glob, taddr⟩
        let p := if x.phase = XPhase.ats id true then p else p.atcFill e
        p.setXl x.agent (some { x with phase := .grant (e.out x.page) id })
      else p.needPage x).priView

/-- A Page Request Group Response (R455 to R457): code 0 Success, 15 Response Failure, otherwise Invalid Request. -/
def Part.pageResponse (p : Part) (slot code : Nat) : Part :=
  match Tab.get none slot p.hs.atu.preqs with
  | none => p
  | some q =>
    let p := p.updAtu fun t =>
      { t with
        preqs := Tab.put none slot none t.preqs
        xl := t.xl.map fun x => if x.phase == .pri slot then { x with phase := if code = 0 then .again else .failed 5 } else x }
    let p := if code = 0 then p
      else
        let p := p.raiseBoth 0x0700 0x0703 q.hedge (q.page + code % 16)
        if code = 15 then p.cfgSet 0 0x1AC (2 ^ 16) else p
    (p.priRetry q.hedge).priView

/-! ### Invalidation (R448, R458) -/

/-- Whether the pages of two ranges overlap. -/
def overlaps (a n b m : Nat) : Bool := decide (a < b + m ∧ b < a + n)

/-- Whether something that used one of these cache entries has not been sent, or is a read that has not completed (R458). -/
def Part.entsBusy (p : Part) (ents : List Nat) : Bool :=
  let hit := fun (u : Option Nat) => u.any ents.contains
  (p.hs.atu.np.any fun e => e.2.any fun q => hit q.used && (match q.phase with
    | .back _ _ => false
    | _ => true)) ||
  (p.hs.atu.posted.any fun w => hit w.used) ||
  p.hs.atu.xl.any fun x => match x.phase with
    | .grant _ id => ents.contains id
    | .done (.bus _ _ _ u) => hit u
    | _ => false

/-- The Invalidate Requests that need wait no longer are completed (R458). -/
def Part.invalDone (p : Part) : Part :=
  let ready := p.hs.atu.invals.filter fun i => !p.entsBusy i.ents
  let p := p.updAtu fun t => { t with invals := t.invals.filter fun i => !ready.contains i }
  forIn' ready (fun i p => (p.addW ATU_INVALS_TOTAL 1).emit (.ats 3 i.fn i.itag 0)) p

/-- Cache entries that meet a condition go; Translation Requests of pages that meet `hit` become stale. The answer lists the entries. -/
def Part.atcRemove (p : Part) (hit : Nat → Nat → Nat → Nat → Bool) : List Nat × Part :=
  let gone := p.hs.atu.atc.filter fun e => hit e.fn e.pasid (e.page / 2 ^ e.bits * 2 ^ e.bits) (2 ^ e.bits)
  (gone.map (·.id), p.updAtu fun t =>
    { t with
      atc := t.atc.filter fun e => !gone.contains e
      xl := t.xl.map fun x => match x.phase with
        | .ats id _ => if hit x.fn x.pasid x.page 4096 then { x with phase := .ats id true } else x
        | _ => x })

/-- An ATS Invalidate Request of function `f` (R458): at most 32 are outstanding. -/
def Part.invalidate (p : Part) (f itag : Nat) (pasid : Option Nat) (addr size : Nat) (glob : Bool) : Part :=
  if 32 ≤ p.hs.atu.invals.length then p
  else
    let (ents, p) := p.atcRemove fun fn ps page n => fn == f && (glob || pasid == some ps) && overlaps addr size page n
    (p.updAtu fun t => { t with invals := t.invals ++ [⟨f, itag, ents⟩] }).invalDone

/-! ### Posted writes (R293, R329, R330, R476, R479, R487, R489) -/

/-- The host bridge's entries of a posted write: Max_Payload_Size bytes each. -/
def Part.tlps (p : Part) (addr : Nat) (bs : List Byte) : List (Nat × List Byte) :=
  let m := p.maxPayload
  (List.range ((bs.length + m - 1) / m)).map fun i => (addr + m * i, (bs.drop (m * i)).take m)

/-- What D3hot held of the ATU goes on: Translation Requests and page requests (R330). -/
def Part.atsRelease (p : Part) : Part :=
  let go := p.hs.atu.xl.filter fun x => (x.phase == .held || x.phase == .priWait) && !p.inD3 x.fn
  (forIn' go (fun x p => if x.phase == .held then p.atsGo x else p.needPage x) p).priView

/-- Whether the bridge takes a posted write of `n` entries of function `f` (R330, R476, R479): what does not wait there leaves at once. -/
def Part.postRoom (p : Part) (f n : Nat) : Bool :=
  !p.inD3 f || decide ((p.hs.atu.posted.filter fun w => w.fn == f).length + n ≤ 64 ∧ p.hs.atu.posted.length + n ≤ 256)

/-- One posted write leaves (R487, R489), or waits while its function is in D3hot (R330). -/
def Part.postOne (p : Part) (w : Posted) : Part :=
  if p.inD3 w.fn then p.updAtu fun t => { t with posted := t.posted ++ [w] }
  else if !p.busMaster w.fn then p.bridgeFail 0 ⟨w.addr, w.fn, some w.fn, 1, true, w.pasid, 0xC⟩
  else p.emit (.write w.fn w.addr w.pasid w.trans w.attr w.bytes)

/-- A posted write of agent `a` for hedge `h` (R293, R298, R329, R467); during an FLR of its function it is discarded (R490). -/
def Part.busWrite (p : Part) (a : Agent) (h addr : Nat) (pasid : Option Nat) (trans : Bool) (used : Option Nat) (bs : List Byte) : Part :=
  if (p.func h).resetting then p
  else forIn' (p.tlps addr bs) (fun w p => p.postOne ⟨h, w.1, pasid, trans, p.reqAttr a.num (a.num == 3 || a.num == 4), used, w.2⟩) p

/-- The posted writes that D3hot held and that may leave now do so (R330). -/
def Part.postRelease (p : Part) : Part :=
  let go := p.hs.atu.posted.filter fun w => !p.inD3 w.fn
  forIn' go (fun w p => p.postOne w) (p.updAtu fun t => { t with posted := t.posted.filter fun w => p.inD3 w.fn })

/-! ### How a request leaves (R478, R479, R487 to R490) -/

/-- HBR_SEM shows reservations, entries in use and AtomicOps that wait (R511). -/
def Part.semView (p : Part) : Part :=
  let by_ := (upTo 4 fun c => ((Tab.get none c p.hs.br.reserv).bind (·.granule)).isSome).foldl (fun m c => m + 2 ^ c) 0
  ((p.fs HBR_SEM_RESERVED_BY by_).fs HBR_SEM_ATOMIC_BUSY p.hs.br.locked.length).fs HBR_SEM_WAITING
    (p.hs.br.waiting.filter fun r => match r with
      | .atomic _ => true
      | _ => false).length

/-- A write of another agent to a reserved granule breaks its reservations (R502). -/
def Part.breakRes (p : Part) (own : Option Nat) (o n : Nat) : Part :=
  let hit := fun (c : Nat) => own != some c && ((Tab.get none c p.hs.br.reserv).bind (·.granule)).any fun g => decide (o / 64 ≤ g ∧ g ≤ (o + n - 1) / 64)
  if (upTo 4 hit).isEmpty then p
  else (p.updBr fun b => { b with reserv := b.reserv.filter fun e => !hit e.1 }).semView

/-- Whether an emulated atomic of another core holds a granule of an access (R501). -/
def Part.pairHeld (p : Part) (own : Option Nat) (o n : Nat) : Bool :=
  p.hs.br.pairs.any fun l => own != some l.1 && decide (o / 64 ≤ l.2 ∧ l.2 ≤ (o + n - 1) / 64)

/-- The core that an agent is. -/
def Agent.coreOf : Agent → Option Nat
  | .core c => some c
  | _ => none

/-! ### Outbound non-posted requests (R478, R479, R487, R488) -/

/-- The causes of failure for each 32 bytes of a transfer: the first `good` bytes are good. -/
def badAfter (len good cause origin : Nat) : List (Nat × Nat) :=
  (List.range ((len + 31) / 32)).map fun i => if 32 * i + 32 ≤ good then (0, 0) else (cause, origin)

/-- The non-posted request of a tag. -/
def Part.np (p : Part) (tag : Nat) : Option NpReq := Tab.get none tag p.hs.atu.np

/-- The non-posted request of a tag set or removed. -/
def Part.setNp (p : Part) (tag : Nat) (r : Option NpReq) : Part := p.updAtu fun t => { t with np := Tab.put none tag r t.np }

/-- What came back for a tag waits for its agent; for one that is gone nothing waits. -/
def Part.npBack (p : Part) (tag : Nat) (r : NpReq) (data : List Byte) (bad : List (Nat × Nat)) : Part :=
  p.setNp tag (if r.agent = .gone then none else some { r with phase := .back data bad })

/-- A non-posted request fails with a reason of R487 after its first `got` bytes: logged, and returned to its agent as all ones with a failure mark (R488). -/
def Part.npFail (p : Part) (tag : Nat) (r : NpReq) (got : List Byte) (reason : Nat) : Part :=
  let atomic := decide (1 ≤ r.kind ∧ r.kind ≤ 3)
  let p := p.bridgeFail 0 ⟨r.addr, r.fn, some r.hedge, if atomic then 2 else 0, true, r.pasid, reason⟩
  let p := if atomic && (reason == 8 || reason == 9) then p.fs HBR_STATUS_ATOMIC_UR 1 else p
  let good := ((got.take r.len).drop r.skip).take r.want
  p.npBack tag r (good ++ List.replicate (r.want - good.length) 0xFF) (badAfter r.want good.length 0x20 0x8300)

/-- The completion entries of 512 bytes that a request reserves (R476, R478). -/
def NpReq.entries (r : NpReq) : Nat := (r.len + 511) / 512

/-- Whether the buffers admit one more request (R478, R479). -/
def Part.npRoom (p : Part) (r : NpReq) : Bool :=
  let out := p.hs.atu.np.filterMap fun e => match e.2 with
    | some q => (match q.phase with
      | .sent => some q
      | _ => none)
    | none => none
  let mine := out.filter (·.hedge == r.hedge)
  let sum := fun (l : List NpReq) => l.foldl (fun n q => n + q.entries) 0
  decide (mine.length < 32 ∧ sum mine + r.entries ≤ 64 ∧ out.length < 128 ∧ sum out + r.entries ≤ 256)

/-- A non-posted request that waits leaves when it may (R329, R478, R479, R487). -/
def Part.npGo (p : Part) (tag : Nat) : Part :=
  match p.np tag with
  | none => p
  | some r =>
    if r.phase != .hold || p.inD3 r.fn then p
    else if decide (r.kind < 4) && !p.busMaster r.fn then p.npFail tag r [] 0xC
    else if p.npRoom r then
      (p.setNp tag (some { r with phase := .sent })).emit
        (.request r.fn tag r.kind r.addr r.len r.pasid r.trans r.attr r.operand r.compare)
    else p

/-- The requests that wait go, first those that have waited longest. -/
def Part.npPump (p : Part) : Part := forIn' (p.hs.atu.np.map (·.1)) (fun t p => p.npGo t) p

/-- A new non-posted request: its tag, and the part with it. -/
def Part.npNew (p : Part) (r : NpReq) : Nat × Part :=
  let tag := p.hs.atu.nextTag
  (tag, ((p.updAtu fun t => { t with nextTag := tag + 1 }).setNp tag (some r)).npGo tag)

/-- What came back for a tag is handed over, and the tag is free. -/
def Part.npTake (p : Part) (tag : Nat) : Option (List Byte × List (Nat × Nat)) × Part :=
  match p.np tag with
  | some r => (match r.phase with
    | .back data bad => (some (data, bad), p.setNp tag none)
    | _ => (none, p))
  | none => (none, p)

/-- The non-posted request of an agent. -/
def Part.npOf (p : Part) (a : Agent) : Option Nat := (p.hs.atu.np.find? fun e => (e.2.map (·.agent)) == some a).map (·.1)

/-- The agents that meet a condition give up what they have under way: a read that is out ends when its completion comes (R478). -/
def Part.agentsGone (p : Part) (mine : Agent → Bool) : Part :=
  (p.updAtu fun t =>
    { t with
      np := t.np.filterMap fun e => match e.2 with
        | some q => if !mine q.agent then some e else if q.phase = .sent then some (e.1, some { q with agent := .gone }) else none
        | none => none
      xl := t.xl.filter fun x => !mine x.agent }).priView

/-! ### The coherence cache (R463 to R467) -/

/-- A line of the coherence cache. -/
def Part.line (p : Part) (n : Nat) : Option CohLine := Tab.get none n p.hs.atu.coh

/-- A line set or dropped. -/
def Part.setLine (p : Part) (n : Nat) (l : Option CohLine) : Part := p.updAtu fun t => { t with coh := Tab.put none n l t.coh }

/-- A line that is modified is written back. -/
def Part.cohBack (p : Part) (n : Nat) : Part :=
  match p.line n with
  | some l => if l.dirty then (p.setLine n (some { l with dirty := false })).emit (.coh (64 * n) l.data) else p
  | none => p

/-- A line leaves the cache, written back first where it is modified (R464). -/
def Part.cohEvict (p : Part) (n : Nat) : Part := (p.cohBack n).setLine n none

/-- A line joins the cache of 16 MiB; a full one gives up a line of the part's choosing. -/
def Part.cohFill (p : Part) (n : Nat) (l : CohLine) : Part :=
  if Tab.has n p.hs.atu.coh || decide (p.hs.atu.coh.length < 262144) then p.setLine n (some l)
  else
    let (v, p) := p.choose n (p.hs.atu.coh.map (·.1))
    (p.cohEvict v).setLine n (some l)

/-- The lines of a range of host addresses. -/
def linesOf (addr n : Nat) : List Nat := List.range' (addr / 64) ((addr + n + 63) / 64 - addr / 64)

/-- The bytes of a range, where the cache holds all of them. -/
def Part.cohBytes (p : Part) (addr n : Nat) : Option (List Byte) :=
  if (linesOf addr n).all fun k => ((p.line k).map (·.data.length)) == some 64 then
    some ((((linesOf addr n).flatMap fun k => ((p.line k).map (·.data)).getD []).drop (addr % 64)).take n)
  else none

/-- Whether the cache owns line `k` as a write to it needs: with its data where `part` says that the write leaves some of it. -/
def Part.cohOwned (p : Part) (k : Nat) (part : Bool) : Bool :=
  (p.line k).any fun l => l.own && (!part || l.data.length == 64)

/-- Bytes put at an offset of a line's data. -/
def putAt (data : List Byte) (off : Nat) (bs : List Byte) : List Byte :=
  let d := if data.length = 64 then data else List.replicate 64 0
  d.take off ++ bs ++ d.drop (off + bs.length)

/-- The ownership that a write of agent `a` needs and the cache has not: each such line is asked for once, a whole line without its data (R463). -/
def Part.cohOwn (p : Part) (a : Agent) (h addr n : Nat) : Part :=
  forIn' (pieces addr n) (fun pc p =>
    let k := pc.1 / 64
    let asked := p.hs.atu.np.any fun e => e.2.any fun q => decide (5 ≤ q.kind) && q.addr == 64 * k
    if p.cohOwned k (pc.2 != 64) || asked then p
    else (p.npNew { agent := a, hedge := h, fn := h, kind := if pc.2 = 64 then 6 else 5, addr := 64 * k, len := 64, want := 64 }).2) p

/-- How a write ended: done, waiting, failed in translation, or failed in the fill of a line (R466). -/
inductive WRes where
  | done
  | wait
  | fail (reason : Nat)
  | bad
  deriving DecidableEq, Repr

/-- A write of agent `a` through a COHERENT window (R463, R466, R467): it is performed once the cache owns every line of it, and fails when a fill that it asked for failed. -/
def Part.cohWrite (p : Part) (a : Agent) (h addr : Nat) (bs : List Byte) : WRes × Part :=
  match p.npOf a with
  | some t => match p.npTake t with
    | (some _, p) => (.bad, p.agentsGone (· == a))
    | (none, p) => (.wait, p)
  | none =>
    if (pieces addr bs.length).all fun pc => p.cohOwned (pc.1 / 64) (pc.2 != 64) then
      (.done, forIn' (pieces addr bs.length) (fun pc p =>
        let d := ((p.line (pc.1 / 64)).map (·.data)).getD []
        p.setLine (pc.1 / 64) (some ⟨putAt d (pc.1 % 64) ((bs.drop (pc.1 - addr)).take pc.2), true, true⟩)) p)
    else if p.inD3 h then (.wait, p)
    else (.wait, p.cohOwn a h addr bs.length)

/-- What the fill of lines brings (R463): a line that the cache holds keeps its own bytes. Ownership without data brings none. -/
def Part.cohArrive (p : Part) (r : NpReq) (data : List Byte) : Part :=
  (linesOf r.addr r.len).zipIdx.foldl (fun p x =>
    let old := ((p.line x.1).map (·.data)).getD []
    let new := if old.length = 64 then old else if r.kind = 6 then [] else (data.drop (64 * x.2)).take 64
    p.cohFill x.1 ⟨new, (p.line x.1).any (·.own) || decide (5 ≤ r.kind), (p.line x.1).any (·.dirty)⟩) p

/-- What host CPUs ask of the cache (R463): a line that they read is written back where it is modified and stays shared; one that they take for writing leaves the cache. -/
def Part.cohSnoops (p : Part) (ss : List (Nat × Bool)) : Part :=
  forIn' ss (fun s p =>
    if s.2 then p.cohEvict s.1
    else match (p.cohBack s.1).line s.1 with
      | some l => (p.cohBack s.1).setLine s.1 (if l.data.length = 64 then some { l with own := false } else none)
      | none => p) p

/-- The lines of a range of host addresses leave the cache, written back where they are modified (R464). -/
def Part.cohDrop (p : Part) (addr n : Nat) : Part :=
  forIn' ((p.hs.atu.coh.map (·.1)).filter fun k => decide (addr / 64 ≤ k ∧ 64 * k < addr + n)) (fun k p => p.cohEvict k) p

/-! ### How accesses are made -/

/-- An outbound write of agent `a` that crosses no 4 KiB boundary (R431, R433, R437). -/
def Dev.hostWrite (d : Dev) (a : Agent) (h addr : Nat) (bs : List Byte) : WRes × Dev :=
  let (r, p) := d.p.xlate a h addr true
  let d := { d with p := p }
  let keep := fun (d : Dev) => (WRes.wait, d.onP fun p => p.xlKeep a h addr true r)
  match r with
  | .wait => (.wait, d)
  | .fail n => (.fail n, d)
  | .bus o pasid translated used =>
    if d.p.pairHeld a.coreOf o bs.length || !d.p.postRoom h (d.p.tlps o bs).length then keep d
    else (.done, d.onP fun p => ((p.breakRes a.coreOf o bs.length).busWrite a h o pasid translated used bs).invalDone)
  | .coh o =>
    match d.p.cohWrite a h o bs with
    | (.wait, p) => keep { d with p := p }
    | (w, p) => (w, { d with p := p })
  | .loc o => if d.p.granHeld o bs.length then keep d else (.done, d.writeMem o bs)

/-- How a read began: it waits for its translation, it failed there, or it has a tag. -/
inductive RRes where
  | wait
  | fail (reason : Nat)
  | tag (t : Nat)
  deriving DecidableEq, Repr

/-- A read of the part's own memory through a LOCAL window (R461, R462): what came back, each 32 bytes with the cause of failure. -/
def Dev.localRead (d : Dev) (o len : Nat) : NpPhase × Dev :=
  let n := sliceOf o
  let (bs, bad, d) := (List.range ((len + 31) / 32)).foldl (fun (acc : List Byte × List (Nat × Nat) × Dev) i =>
    let m := min 32 (len - 32 * i)
    let (b, ok, d) := acc.2.2.readMem (o + 32 * i) m
    (acc.1 ++ (if ok then b else List.replicate m 0xFF), acc.2.1 ++ [if ok then (0, 0) else (0x10, 0x8000 + n)], d)) ([], [], d)
  (.back bs bad, d)

/-- The read of a range through a COHERENT window (R463): from the cache, or a fill of its lines. -/
def Part.cohReq (p : Part) (a : Agent) (h addr n : Nat) : NpReq :=
  let q : NpReq := { agent := a, hedge := h, fn := h, kind := 4, addr := addr / 64 * 64, len := (addr % 64 + n + 63) / 64 * 64, skip := addr % 64, want := n }
  match p.cohBytes addr n with
  | some bs => { q with phase := .back bs (badAfter n n 0 0) }
  | none => q

/-- An outbound read of agent `a` of at most Max_Read_Request_Size bytes that crosses no 4 KiB boundary (R293, R431, R433, R437). -/
def Dev.hostRead (d : Dev) (a : Agent) (h addr len : Nat) : RRes × Dev :=
  let (r, p) := d.p.xlate a h addr false
  let d := { d with p := p }
  let new := fun (q : NpReq) (d : Dev) =>
    let (t, p) := d.p.npNew q
    (RRes.tag t, { d with p := p })
  match r with
  | .wait => (.wait, d)
  | .fail n => (.fail n, d)
  | .bus o pasid tr used =>
    if d.p.pairHeld a.coreOf o len then (.wait, d.onP fun p => p.xlKeep a h addr false r)
    else new { agent := a, hedge := h, fn := h, addr := o, len := len, want := len, pasid := pasid, trans := tr, used := used, attr := d.p.reqAttr a.num false } d
  | .coh o => new (d.p.cohReq a h o len) d
  | .loc o =>
    if d.p.granHeld o len then (.wait, d.onP fun p => p.xlKeep a h addr false r) else
    let (ph, d) := d.localRead o len
    new { agent := a, hedge := h, fn := h, addr := o, len := len, want := len, phase := ph } d

/-- A completion arrives for tag `tag` (R487, R488): status 0 success with all the data, 1 Unsupported Request, 2 Completer Abort, 3 poisoned data. -/
def Part.npComplete (p : Part) (tag status : Nat) (data : List Byte) : Part :=
  match p.np tag with
  | none => p
  | some r =>
    if r.phase != .sent then p
    else if status = 0 then
      if r.kind != 6 && decide (data.length < r.len) then p
      else if r.kind < 4 then p.npBack tag r (data.take r.len) (badAfter r.len r.len 0 0)
      else
        let p := p.cohArrive r data
        if 5 ≤ r.kind then p.setNp tag none else p.npBack tag r ((p.cohBytes (r.addr + r.skip) r.want).getD (((data.take r.len).drop r.skip).take r.want)) (badAfter r.want r.want 0 0)
    else p.npFail tag r data (if status = 1 then 8 else if status = 2 then 9 else 0xB)

/-- No completion arrives within the function's completion timeout (R487); with the timeout disabled the read waits. -/
def Part.npTimeout (p : Part) (tag : Nat) : Part :=
  match p.np tag with
  | none => p
  | some r =>
    if r.phase != .sent || (p.cfgRead r.fn (if r.fn = 0 then 0x88 else 0x78)).testBit 4 then p
    else p.npFail tag r [] 0xA

/-- What the bridges hold of function `f` is discarded without a record (R338, R490). -/
def Part.dropOutbound (p : Part) (f : Nat) : Part :=
  (p.updAtu fun t =>
    { t with
      np := t.np.filter fun e => (e.2.map (·.fn)) != some f
      xl := t.xl.filter (·.fn != f)
      preqs := t.preqs.filter fun e => (e.2.map (·.fn)) != some f
      posted := t.posted.filter (·.fn != f) }).priView

/-! ### Meanings -/

/-- ATU_WIN_LOST_CLEAR (R435): each 1 clears the bit and lets that pair's conflict be raised again; a bit that the part sets in the same access stays set (R12). -/
def execAtuWinLostClear (k : Nat) (bits coin : Dword) (s : State) : Host.Outcome State Fault Refusal :=
  blockPart 4 (k < 64) (fun p =>
    let v := (p.reg (ATU_WIN_LOST k) &&& ~~~bits) ||| (bits &&& coin)
    ((p.setReg (ATU_WIN_LOST k) v).fs ⟨ATU_CONFLICT, k, 1⟩ (if v = 0 then 0 else 1)).updAtu fun t =>
      { t with conflicts := t.conflicts.filter fun c => !(c.1 == k && (bits &&& ~~~coin).getLsbD c.2) }) s

/-- ATU_CLR_FAULTS (R472). -/
def execAtuClrFaults (coin : Nat) (s : State) : Host.Outcome State Fault Refusal := blockPart 4 (True) (fun p => p.clrHit ATU_FAULTS (coin.testBit 0)) s

end Sys2Proof.Machine
end

