-- ==== Sys2Proof/Machine/Load.lean ====
section
/-!
DEFINITION. Sys2Proof/Machine/Load.lean: the load check of a program (R178).
-/

namespace Sys2Proof.Machine

open Sys2Proof

/-! ### The load check (R178) -/

/-- The target of a branch. -/
def branchTo : FOp → Option Nat
  | .br t => some t
  | .beq _ _ t => some t
  | .bne _ _ t => some t
  | .blt _ _ t => some t
  | _ => none

/-- The loops of a program, in address order: the address of LOOP, and the end of its body. -/
def loopsOf (ops : List FOp) : List (Nat × Nat) :=
  (List.range ops.length).filterMap fun a => match ops.getD a .nop with
    | .loop _ _ _ e => some (a, e)
    | _ => none

/-- C4: branch targets and loop ends lie within the program, and a loop end at or after its first body address. -/
def targetsOk (n a : Nat) (op : FOp) : Bool :=
  match op with
  | .loop _ _ _ e => decide (a + 1 ≤ e ∧ e < n)
  | op => match branchTo op with
    | some t => decide (t < n)
    | none => true

/-- C5 at one address: loop bodies nest, at most 4 deep, and no branch crosses a loop-body boundary. -/
def loopsOk (loops : List (Nat × Nat)) (a : Nat) (op : FOp) : Bool :=
  let inside := fun (l : Nat × Nat) x => decide (l.1 + 1 ≤ x ∧ x ≤ l.2)
  match op with
  | .loop _ _ _ e =>
    let outer := loops.filter fun l => l.1 != a && inside l a
    outer.all (fun l => decide (e ≤ l.2)) && decide (outer.length < 4)
  | op => match branchTo op with
    | some t => loops.all fun l => inside l a == inside l t
    | none => true

/-- What an image binds for one frond: input queues, output slots, and slots whose stream ends at the event unit. -/
structure Binds where
  queues : List Nat
  slots : List Nat
  events : List Nat

/-- C6: queue and slot numbers are bound. -/
def bindsOk (b : Binds) : FOp → Bool
  | .recv _ _ q => b.queues.contains q
  | .recvp _ _ q => b.queues.contains q
  | .test _ q => b.queues.contains q
  | .waitany _ m => b.queues.any (m.testBit ·)
  | .send _ q => b.slots.contains q
  | .sendeos q => b.slots.contains q
  | .sendpsn _ _ q => b.slots.contains q
  | .fwd _ q s => b.queues.contains q && b.slots.contains s
  | .evt _ _ q _ => b.events.contains q
  | _ => true

/-- The addresses that may follow an instruction, in a program of `n` words (R150 to R152): a body's last instruction, and a LOOP whose count is zero, may go on at the first address of a loop that ends there; past the program's end lie NOPs that lead back to 0. -/
def succs (n : Nat) (loops : List (Nat × Nat)) (a : Nat) (op : FOp) : List Nat :=
  let after := fun x => (if x + 1 < n then x + 1 else 0) :: (loops.filter fun l => l.2 == x && l.1 != a).map (·.1 + 1)
  let fall := after a
  match op with
  | .halt => []
  | .br t => [t]
  | .beq _ _ t => t :: fall
  | .bne _ _ t => t :: fall
  | .blt _ _ t => t :: fall
  | .loop r _ c e => (if r || c != 0 then [a + 1] else []) ++ (if r || c == 0 then after e else [])
  | _ => fall

/-- The MODE pairs that reach each address, spread along every path; `fuel` bounds the addresses visited (C8). -/
def spreadModes (ops : List FOp) (loops : List (Nat × Nat)) : Nat → List (Nat × (Nat × Nat)) → List (Nat × (Nat × Nat)) → List (Nat × (Nat × Nat))
  | 0, _, seen => seen
  | _, [], seen => seen
  | fuel + 1, x :: work, seen =>
    if seen.contains x then spreadModes ops loops fuel work seen
    else
      let op := ops.getD x.1 .nop
      let m := match op with
        | .mcfg w a => (w, a)
        | _ => x.2
      spreadModes ops loops fuel ((succs ops.length loops x.1 op).map (·, m) ++ work) (x :: seen)

/-- C8: MAC bases are multiples of the row count of every pair that reaches them; ACCRD and ACCWR bases are 0 or 32. -/
def macOk (modes : List (Nat × (Nat × Nat))) (a : Nat) (op : FOp) : Bool :=
  match op with
  | .mac _ _ acc _ _ => (modes.filter fun x => x.1 == a).all fun x => match macShape x.2.1 x.2.2 with
    | some (rows, _) => acc % rows == 0
    | none => false
  | .accrd _ acc _ => acc == 0 || acc == 32
  | .accwr _ acc => acc == 0 || acc == 32
  | _ => true

/-- The first address at which a check fails. -/
def firstFail (ops : List FOp) (ok : Nat → FOp → Bool) : Option Nat :=
  (List.range ops.length).find? fun a => !ok a (ops.getD a .nop)

/-- The load check of a program (R178): the check and the instruction address of the first failure. -/
def loadCheck (ws : List Dword) (b : Binds) : Option (Nat × Nat) :=
  let n := ws.length
  if n = 0 ∨ 2048 < n then some (1, 0)
  else match (List.range n).find? fun a => (fdecode (ws.getD a 0)).isNone with
    | some a => some (2, a)
    | none =>
      let ops := ws.filterMap fdecode
      let loops := loopsOf ops
      let modes := spreadModes ops loops (16 * 14 * 2048) [(0, (0, 0))] []
      let checks : List (Nat × (Nat → FOp → Bool)) :=
        [(3, fun _ op => FOp.wf op), (4, fun a op => targetsOk n a op), (5, fun a op => loopsOk loops a op),
         (6, fun _ op => bindsOk b op), (7, fun _ op => mcfgOk op), (8, fun a op => macOk modes a op), (9, fun _ op => packOk op)]
      checks.findSome? fun c => (firstFail ops c.2).map (c.1, ·)

/-- Whether every MCFG of a program names INT8 weights with INT8 activations (R206). -/
def onlyInt8 (ws : List Dword) : Bool :=
  ws.all fun w => match fdecode w with
    | some (.mcfg a b) => a == 0 && b == 0
    | _ => true

end Sys2Proof.Machine
end

