-- ==== Sys2Proof/Machine/Silson.lean ====
section
/-!
DEFINITION. Sys2Proof/Machine/Silson.lean: the Silson image, its checks, and what a bind loads (R126, R127, R180 to R210).
-/

namespace Sys2Proof.Machine

open Sys2Proof

/-! ### The image (R183 to R187) -/

/-- Why a bind fails (R203, R419): reason, rule, check, logical frond, and instruction address or record offset. -/
structure BindFail where
  reason : Nat
  rule : Nat := 0
  check : Nat := 0
  frond : Nat := 0
  wher : Nat := 0
  deriving DecidableEq, Repr

/-- A parsed image; each record stands with its offset in the image. -/
structure SilImage where
  rows : Nat := 1
  cols : Nat := 1
  plots : Nat := 0
  digest : List Byte := []
  /-- The section types of the image, in table order. -/
  sections : List Nat := []
  floor : Nat := 0
  programs : List (Nat × Nat × List Dword) := []
  weights : List (Nat × Nat × Nat × List Dword) := []
  acts : List (Nat × Nat × Nat × List Byte) := []
  /-- Offset, logical bracken, stream, mask. -/
  routes : List (Nat × Nat × Nat × Nat) := []
  /-- Offset, frond, queue, depth, stream, kind. -/
  queues : List (Nat × Nat × Nat × Nat × Nat × Nat) := []
  /-- Offset, frond, slot, stream. -/
  slots : List (Nat × Nat × Nat × Nat) := []
  /-- Offset, stream, primed tokens, payloads. -/
  feedback : List (Nat × Nat × Nat × List Payload) := []
  /-- Offset, frond, buffers, ready queue, release slot, base word, buffer words. -/
  windows : List (Nat × Nat × Nat × Nat × Nat × Nat × Nat) := []
  /-- Offset, logical row, entries: plot j, buffer, frond, offset, length. -/
  scheds : List (Nat × Nat × List (Nat × Nat × Nat × Nat × Nat)) := []
  /-- Offset, logical row, plot j, byte offset, bytes. -/
  plotdata : List (Nat × Nat × Nat × Nat × List Byte) := []
  /-- Offset, channels, priority, stream, logical bracken. -/
  inputs : List (Nat × Nat × Nat × Nat × Nat) := []
  /-- Offset, stream, kind, index. -/
  outputs : List (Nat × Nat × Nat × Nat) := []


/-- A little-endian field of a list of bytes. -/
def fieldAt (bs : List Byte) (off n : Nat) : Nat := leNat ((bs.drop off).take n)

/-- The 64-bit words of a list of bytes. -/
def dwords (bs : List Byte) : List Dword := (List.range (bs.length / 8)).map fun i => BitVec.ofNat 64 (fieldAt bs (8 * i) 8)

/-- Whether a logical bracken lies in the footprint (R180). -/
def SilImage.lbOk (g : SilImage) (lb : Nat) : Bool := decide (lb / 8 < g.rows ∧ lb % 8 < g.cols)

/-- Whether a logical frond lies in the footprint (R180). -/
def SilImage.lfOk (g : SilImage) (f : Nat) : Bool := decide (f % 64 < 48) && g.lbOk (f / 64)

/-- The length of the record of a section type at the head of the bytes (R186); none where the head is cut short. -/
def recLen (ty : Nat) (bs : List Byte) : Option Nat :=
  let (head, var) := match ty with
    | 1 => (8, 8 * fieldAt bs 4 4)
    | 2 => (16, 8 * fieldAt bs 8 4)
    | 3 => (16, fieldAt bs 8 4)
    | 4 => (16, 0)
    | 5 => (8, 0)
    | 6 => (8, 0)
    | 7 => (8, if fieldAt bs 2 1 = 1 then 32 * fieldAt bs 1 1 else 0)
    | 8 => (16, 0)
    | 9 => (8, 16 * fieldAt bs 4 4)
    | 10 => (16, fieldAt bs 8 4)
    | 11 => (8, 0)
    | 12 => (8, 0)
    | _ => (8, bs.length - 8)
  if bs.length < head ∨ bs.length < head + var then none else some (head + var)

/-- The image with one record added (R186); none where a reserved field is not zero or a number lies outside its range. -/
def SilImage.addRec (g : SilImage) (ty off : Nat) (r : List Byte) : Option SilImage :=
  let at' := fieldAt r
  let ok := fun (b : Bool) (g' : SilImage) => if b then some g' else none
  match ty with
  | 1 => ok (at' 2 2 == 0 && g.lfOk (at' 0 2) && g.programs.all fun x => x.2.1 != at' 0 2)
      { g with programs := g.programs ++ [(off, at' 0 2, dwords (r.drop 8))] }
  | 2 => ok (at' 2 2 == 0 && at' 12 4 == 0 && g.lfOk (at' 0 2) && decide (at' 4 4 < 49152 ∧ at' 4 4 + at' 8 4 ≤ 49152))
      { g with weights := g.weights ++ [(off, at' 0 2, at' 4 4, dwords (r.drop 16))] }
  | 3 => ok (at' 2 2 == 0 && at' 12 4 == 0 && g.lfOk (at' 0 2) && at' 4 4 % 8 == 0 && at' 8 4 % 8 == 0 && decide (at' 4 4 + at' 8 4 ≤ 65536))
      { g with acts := g.acts ++ [(off, at' 0 2, at' 4 4, r.drop 16)] }
  | 4 => ok (at' 2 6 == 0 && g.lbOk (at' 0 1) && decide (at' 8 8 < 2 ^ 54) && g.routes.all fun x => x.2.1 != at' 0 1 || x.2.2.1 != at' 1 1)
      { g with routes := g.routes ++ [(off, at' 0 1, at' 1 1, at' 8 8)] }
  | 5 => ok (at' 6 2 == 0 && g.lfOk (at' 0 2) && decide (at' 2 1 < 16 ∧ at' 5 1 < 2))
      { g with queues := g.queues ++ [(off, at' 0 2, at' 2 1, at' 3 1, at' 4 1, at' 5 1)] }
  | 6 => ok (at' 4 4 == 0 && g.lfOk (at' 0 2) && decide (at' 2 1 < 16))
      { g with slots := g.slots ++ [(off, at' 0 2, at' 2 1, at' 3 1)] }
  | 7 => ok (at' 3 5 == 0 && decide (at' 2 1 < 2) && g.feedback.all fun x => x.2.1 != at' 0 1)
      { g with feedback := g.feedback ++ [(off, at' 0 1, at' 1 1, tokensOf (r.drop 8))] }
  | 8 => ok (at' 5 3 == 0 && g.lfOk (at' 0 2) && decide (1 ≤ at' 2 1 ∧ at' 2 1 ≤ 4 ∧ at' 3 1 < 16 ∧ at' 4 1 < 16) && g.windows.all fun x => x.2.1 != at' 0 2)
      { g with windows := g.windows ++ [(off, at' 0 2, at' 2 1, at' 3 1, at' 4 1, at' 8 4, at' 12 4)] }
  | 9 =>
    let es := (List.range (at' 4 4)).map fun i =>
      (at' (8 + 16 * i) 2, at' (10 + 16 * i) 1, at' (12 + 16 * i) 2, at' (16 + 16 * i) 4, at' (20 + 16 * i) 4)
    let zero := (List.range (at' 4 4)).all fun i => at' (11 + 16 * i) 1 == 0 && at' (14 + 16 * i) 2 == 0
    ok (at' 1 3 == 0 && zero && decide (at' 0 1 < g.rows)) { g with scheds := g.scheds ++ [(off, at' 0 1, es)] }
  | 10 => ok (at' 1 1 == 0 && at' 12 4 == 0 && decide (at' 0 1 < g.rows ∧ at' 2 2 < g.plots ∧ at' 4 4 + at' 8 4 ≤ 2 ^ 30))
      { g with plotdata := g.plotdata ++ [(off, at' 0 1, at' 2 2, at' 4 4, r.drop 16)] }
  | 11 => ok (at' 7 1 == 0 && decide (at' 4 1 < 8) && g.lbOk (at' 6 1))
      { g with inputs := g.inputs ++ [(off, at' 0 4, at' 4 1, at' 5 1, at' 6 1)] }
  | 12 => ok (at' 3 5 == 0 && decide (at' 1 1 < 4) && g.outputs.all fun x => x.2.1 != at' 0 1)
      { g with outputs := g.outputs ++ [(off, at' 0 1, at' 1 1, at' 2 1)] }
  | _ => ok (at' 2 6 == 0) { g with floor := at' 0 2 }

/-- The records of a section (R186), each on an 8-byte boundary; the error is the offset of the record that breaks the layout. -/
def SilImage.addSection (ty : Nat) : Nat → Nat → List Byte → SilImage → Except Nat SilImage
  | 0, _, _, g => .ok g
  | fuel + 1, off, bs, g =>
    if bs.isEmpty then .ok g
    else match recLen ty bs with
      | none => .error off
      | some n =>
        let pad := (8 - n % 8) % 8
        if ((bs.drop n).take pad).any (· != 0) then .error off
        else match g.addRec ty off (bs.take n) with
          | none => .error off
          | some g => g.addSection ty fuel (off + n + pad) (bs.drop (n + pad))

/-- The sections in table order (R184). -/
def SilImage.addSections (img : List Byte) (tab : Nat) : Nat → Nat → SilImage → Except BindFail SilImage
  | 0, _, g => .ok g
  | n + 1, i, g =>
    let e := 64 + 24 * i
    let ty := fieldAt img e 2
    let fl := fieldAt img (e + 2) 2
    let off := fieldAt img (e + 8) 8
    let len := fieldAt img (e + 16) 8
    if fl > 1 ∨ fieldAt img (e + 4) 4 ≠ 0 ∨ off % 8 ≠ 0 ∨ off < tab ∨ img.length < off + len then .error { reason := 0x04, wher := e }
    else if ty = 0 ∨ 13 < ty then
      (if fl = 1 then g.addSections img tab n (i + 1) else .error { reason := 0x06, wher := e })
    else match g.addSection ty (len + 1) off ((img.drop off).take len) with
      | .error w => .error { reason := 0x04, wher := w }
      | .ok g => { g with sections := g.sections ++ [ty] }.addSections img tab n (i + 1)

/-- The digest of an image (R183): SHA-256 with the DIGEST field zero. -/
def imageDigest (img : List Byte) : List Byte := sha256 (img.take 0x20 ++ List.replicate 32 0 ++ img.drop 0x40)

/-- The checks of step 2 (R202, R203): format, version, sections and digest of an image fetched with `size` bytes asked for. -/
def parseImage (size : Nat) (img : List Byte) : Except BindFail SilImage :=
  let at' := fieldAt img
  let n := at' 0x10 4
  if img.length < 64 ∨ at' 0 4 ≠ 0x534C4953 then .error { reason := 0x04 }
  else if at' 6 2 ≠ 2 then .error { reason := 0x05, wher := 6 }
  else if at' 8 8 ≠ size ∨ img.length ≠ size then .error { reason := 0x04, wher := 8 }
  else if n = 0 ∨ 65535 < n ∨ img.length < 64 + 24 * n then .error { reason := 0x04, wher := 0x10 }
  else if at' 0x14 1 = 0 ∨ 8 < at' 0x14 1 ∨ at' 0x15 1 = 0 ∨ 8 < at' 0x15 1 ∨ 36 < at' 0x16 2 then .error { reason := 0x04, wher := 0x14 }
  else if 1 < at' 0x18 4 ∨ at' 0x1C 4 ≠ 0 then .error { reason := 0x04, wher := 0x18 }
  else
    let g : SilImage := { rows := at' 0x14 1, cols := at' 0x15 1, plots := at' 0x16 2, digest := (img.drop 0x20).take 32 }
    match g.addSections img (64 + 24 * n) n 0 with
    | .error e => .error e
    | .ok g => if imageDigest img = g.digest then .ok g else .error { reason := 0x07, wher := 0x20 }

/-! ### Placement (R126, R180 to R182) -/

/-- The physical bracken of a logical one (R181). -/
def physB (orow ocol lb : Nat) : Nat := 8 * (orow + lb / 8) + (ocol + lb % 8)

/-- The physical frond of a logical one (R181). -/
def physF (orow ocol f : Nat) : Nat := 64 * physB orow ocol (f / 64) + f % 64

/-- The neighbour of a logical bracken inside the footprint. -/
def SilImage.lnb (g : SilImage) (lb d : Nat) : Option Nat :=
  match d with
  | 0 => if lb / 8 = 0 then none else some (lb - 8)
  | 1 => if lb % 8 + 1 < g.cols then some (lb + 1) else none
  | 2 => if lb / 8 + 1 < g.rows then some (lb + 8) else none
  | _ => if lb % 8 = 0 then none else some (lb - 1)

/-- The route mask of a stream at a logical bracken. -/
def SilImage.mask (g : SilImage) (lb s : Nat) : Option Nat :=
  (g.routes.find? fun r => r.2.1 == lb && r.2.2.1 == s).map (·.2.2.2)

/-- The mesh directions of a mask. -/
def dirsOf (m : Nat) : List Nat := upTo 4 fun d => m.testBit (48 + d)

/-- The logical fronds that a stream reaches from a logical bracken. -/
def SilImage.dests (g : SilImage) (s : Nat) : Nat → Nat → List Nat
  | 0, _ => []
  | fuel + 1, lb => match g.mask lb s with
    | none => []
    | some m => (upTo 48 (m.testBit ·)).map (64 * lb + ·) ++
        (dirsOf m).flatMap fun d => match g.lnb lb d with
          | some c => g.dests s fuel c
          | none => []

/-- P1: every mesh direction leads to a bracken that the hedge owns. -/
def SilImage.p1 (g : SilImage) (orow ocol : Nat) (owned : Nat → Bool) : Option BindFail :=
  (g.routes.find? fun r => (dirsOf r.2.2.2).any fun d => match neighbour (physB orow ocol r.2.1) d with
    | some b => !owned b
    | none => true).map fun r => { reason := 0x0C, rule := 1, frond := 64 * r.2.1, wher := r.1 }

/-- P2: east or west first, then north or south, and never back: a token that arrived moving in direction `di` may leave in `d`. -/
def turnOk (di d : Nat) : Bool := if di = 1 ∨ di = 3 then d != (di + 2) % 4 else d == di

/-- P2 of R126. -/
def SilImage.p2 (g : SilImage) : Option BindFail :=
  (g.routes.find? fun r => (dirsOf r.2.2.2).any fun d =>
    g.routes.any fun q => q.2.2.1 == r.2.2.1 && (dirsOf q.2.2.2).any fun di => g.lnb q.2.1 di == some r.2.1 && !turnOk di d).map
    fun r => { reason := 0x0C, rule := 2, frond := 64 * r.2.1, wher := r.1 }

/-- A producer of a stream (P3): an output slot of a frond, the gateway, or the slice controller of a logical row. -/
inductive Producer where
  | slot (frond slot : Nat)
  | gateway
  | slice (lrow : Nat)
  deriving DecidableEq, Repr

/-- The producers that the image names for its streams: record offset, stream, frond, producer. -/
def SilImage.producers (g : SilImage) : List (Nat × Nat × Nat × Producer) :=
  g.slots.map (fun x => (x.1, x.2.2.2, x.2.1, .slot x.2.1 x.2.2.1)) ++ g.inputs.map (fun x => (x.1, x.2.2.2.1, 0, .gateway)) ++
  g.windows.filterMap fun w =>
    (g.queues.find? fun q => q.2.1 == w.2.1 && q.2.2.1 == w.2.2.2.1 && q.2.2.2.2.2 == 1).map fun q =>
      (w.1, q.2.2.2.2.1, w.2.1, .slice (w.2.1 / 64 / 8))

/-- P3: no stream has two named producers, and no slot two streams. -/
def SilImage.p3 (g : SilImage) : Option BindFail :=
  let ps := g.producers
  let twice := (ps.find? fun x => ps.any fun y => y.2.1 == x.2.1 && y.2.2.2 != x.2.2.2).map fun x => (x.1, x.2.1, x.2.2.1)
  let slot := (g.slots.find? fun x => decide (1 < (g.slots.filter fun y => y.2.1 == x.2.1 && y.2.2.1 == x.2.2.1).length)).map
    fun x => (x.1, x.2.2.2, x.2.1)
  (twice.orElse fun _ => slot).map fun x => { reason := 0x0C, rule := 3, frond := x.2.2, wher := x.1 }

/-- P4: a queue has one stream, a stream one queue at a frond, and a route names only fronds with a queue for its stream. -/
def SilImage.p4 (g : SilImage) : Option BindFail :=
  let twice := (g.queues.find? fun x => decide (1 < (g.queues.filter fun y => y.2.1 == x.2.1 &&
    (y.2.2.1 == x.2.2.1 || y.2.2.2.2.1 == x.2.2.2.2.1)).length)).map fun x => (x.1, x.2.1)
  let lost := g.routes.findSome? fun r =>
    ((upTo 48 (r.2.2.2.testBit ·)).find? fun i => !g.queues.any fun q => q.2.1 == 64 * r.2.1 + i && q.2.2.2.2.1 == r.2.2.1).map
      fun i => (r.1, 64 * r.2.1 + i)
  (twice.orElse fun _ => lost).map fun x => { reason := 0x0C, rule := 4, frond := x.2, wher := x.1 }

/-- P5: depths from 1 to 16, at most 64 in a frond. -/
def SilImage.p5 (g : SilImage) : Option BindFail :=
  (g.queues.find? fun x => x.2.2.2.1 == 0 || decide (16 < x.2.2.2.1) ||
    decide (64 < (g.queues.filter fun y => y.2.1 == x.2.1).foldl (fun n y => n + y.2.2.2.1) 0)).map
    fun x => { reason := 0x0C, rule := 5, frond := x.2.1, wher := x.1 }

/-- The edges of the frond graph: producer frond, consumer frond, whether the stream is feedback. -/
def SilImage.edges (g : SilImage) : List (Nat × Nat × Bool) :=
  g.slots.flatMap fun x => (g.dests x.2.2.2 16 (x.2.1 / 64)).map fun d => (x.2.1, d, g.feedback.any fun f => f.2.1 == x.2.2.2)

/-- The fronds that a list of fronds leads to along edges, themselves included. -/
def reach (es : List (Nat × Nat)) : Nat → List Nat → List Nat → List Nat
  | 0, _, seen => seen
  | _, [], seen => seen
  | fuel + 1, x :: todo, seen =>
    if seen.contains x then reach es fuel todo seen
    else reach es fuel ((es.filter fun e => e.1 == x).map (·.2) ++ todo) (x :: seen)

/-- P6: no cycle but through feedback streams. -/
def SilImage.p6 (g : SilImage) : Option BindFail :=
  let es := (g.edges.filter fun e => !e.2.2).map fun e => (e.1, e.2.1)
  let fuel := es.length * es.length + 4096
  (g.slots.find? fun x => (reach es fuel ((es.filter fun e => e.1 == x.2.1).map (·.2)) []).contains x.2.1).map
    fun x => { reason := 0x0C, rule := 6, frond := x.2.1, wher := x.1 }

/-- P7 for one feedback stream: the primed count lies from 1 to the depth of its queue, and every cycle through it stays in one bracken. A stream that no frond sends lies on no cycle. -/
def SilImage.p7One (g : SilImage) (f : Nat × Nat × Nat × List Payload) : Bool :=
  let depths := (g.queues.filter fun q => q.2.2.2.2.1 == f.2.1).map (·.2.2.2.1)
  decide (1 ≤ f.2.2.1) && depths.all (fun d => decide (f.2.2.1 ≤ d)) &&
  match g.slots.find? fun x => x.2.2.2 == f.2.1 with
  | none => true
  | some x =>
    let u := x.2.1
    let cons := g.dests f.2.1 16 (u / 64)
    let es := g.edges.map fun e => (e.1, e.2.1)
    let fuel := es.length * es.length + 4096
    let back := reach (es.map fun e => (e.2, e.1)) fuel [u] []
    cons.all fun v => (reach es fuel [v] []).all fun w => !back.contains w || w / 64 == u / 64

/-- P7 of R126. -/
def SilImage.p7 (g : SilImage) : Option BindFail :=
  (g.feedback.find? fun f => !g.p7One f).map fun f =>
    { reason := 0x0C, rule := 7, frond := ((g.slots.find? fun x => x.2.2.2 == f.2.1).map (·.2.1)).getD 0, wher := f.1 }

/-- What the image binds for a logical frond (C6). -/
def SilImage.binds (g : SilImage) (f : Nat) : Binds :=
  { queues := (g.queues.filter fun q => q.2.1 == f).map (·.2.2.1)
    slots := (g.slots.filter fun x => x.2.1 == f).map (·.2.2.1)
    events := (g.slots.filter fun x => x.2.1 == f && g.outputs.any fun o => o.2.1 == x.2.2.2 && o.2.2.1 == 3).map (·.2.2.1) }

/-- P8: every program passes the load check. -/
def SilImage.p8 (g : SilImage) : Option BindFail :=
  g.programs.findSome? fun x => (loadCheck x.2.2 (g.binds x.2.1)).map fun c =>
    { reason := 0x0C, rule := 8, check := c.1, frond := x.2.1, wher := c.2 }

/-! ### Paging (R200) -/

/-- The window of a logical frond. -/
def SilImage.window (g : SilImage) (f : Nat) : Option (Nat × Nat × Nat × Nat × Nat × Nat × Nat) := g.windows.find? fun w => w.2.1 == f

/-- W1: the window lies in the weight store. -/
def SilImage.w1 (g : SilImage) : Option BindFail :=
  (g.windows.find? fun (_, _, k, _, _, base, words) => !decide (words ≠ 0 ∧ words % 4 = 0 ∧ base + k * words ≤ 49152)).map
    fun w => { reason := 0x0D, rule := 0x11, frond := w.2.1, wher := w.1 }

/-- W2: no WEIGHTS record overlaps a window. -/
def SilImage.w2 (g : SilImage) : Option BindFail :=
  (g.weights.find? fun (_, f, first, ws) => match g.window f with
    | some (_, _, k, _, _, base, words) => decide (first < base + k * words ∧ base < first + ws.length)
    | none => false).map fun w => { reason := 0x0D, rule := 0x12, frond := w.2.1, wher := w.1 }

/-- Whether a stream's route from a logical bracken ends at that bracken's slice port alone. -/
def SilImage.endsAtSlice (g : SilImage) (lb s : Nat) : Bool := g.mask lb s == some (2 ^ 52)

/-- W3: the ready queue and the release slot of each window. -/
def SilImage.w3 (g : SilImage) : Option BindFail :=
  (g.windows.find? fun (_, f, k, rq, rs, _, _) =>
    !(g.queues.any (fun q => q.2.1 == f && q.2.2.1 == rq && q.2.2.2.2.2 == 1 && q.2.2.2.1 == k) &&
      g.slots.any (fun x => x.2.1 == f && x.2.2.1 == rs && g.endsAtSlice (f / 64) x.2.2.2))).map
    fun w => { reason := 0x0D, rule := 0x13, frond := w.2.1, wher := w.1 }

/-- W4 for one entry. -/
def SilImage.w4One (g : SilImage) (lrow : Nat) (e : Nat × Nat × Nat × Nat × Nat) : Bool :=
  let (j, buf, f, off, len) := e
  match g.window f with
  | none => false
  | some (_, _, k, _, _, _, words) =>
    decide (buf < k ∧ off % 64 = 0 ∧ len ≠ 0 ∧ len % 32 = 0 ∧ len ≤ 8 * words ∧ off + len ≤ 2 ^ 30 ∧ j < g.plots ∧ f / 64 / 8 = lrow)

/-- W4 of R200. -/
def SilImage.w4 (g : SilImage) : Option BindFail :=
  g.scheds.findSome? fun (off, lrow, es) =>
    ((List.range es.length).find? fun i => !g.w4One lrow (es.getD i (0, 0, 0, 0, 0))).map fun i =>
      { reason := 0x0D, rule := 0x14, frond := (es.getD i (0, 0, 0, 0, 0)).2.2.1, wher := off + 8 + 16 * i }

/-- W5: each frond's entries fill its buffers in rotation. -/
def SilImage.w5 (g : SilImage) : Option BindFail :=
  g.windows.findSome? fun (off, f, k, _, _, _, _) =>
    let bufs := g.scheds.flatMap fun s => (s.2.2.filter fun e => e.2.2.1 == f).map (·.2.1)
    if bufs.length % k = 0 ∧ (List.range bufs.length).all (fun i => bufs.getD i 0 == i % k) then none
    else some { reason := 0x0D, rule := 0x15, frond := f, wher := off }

/-- W6: 1 to 8,192 entries, and one schedule a row. -/
def SilImage.w6 (g : SilImage) : Option BindFail :=
  (g.scheds.find? fun (_, lrow, es) => es.isEmpty || decide (8192 < es.length) ||
    decide (1 < (g.scheds.filter fun t => t.2.1 == lrow).length)).map fun s => { reason := 0x0D, rule := 0x16, wher := s.1 }

/-- Step 4 of a bind: P1 to P8, then W1 to W6. -/
def SilImage.checkPlacement (g : SilImage) (orow ocol : Nat) (owned : Nat → Bool) : Option BindFail :=
  ([g.p1 orow ocol owned, g.p2, g.p3, g.p4, g.p5, g.p6, g.p7, g.p8, g.w1, g.w2, g.w3, g.w4, g.w5, g.w6]).findSome? id

/-! ### Resources (R181, R203, R204, R206, R243) -/

/-- The physical brackens of the footprint. -/
def SilImage.brackens (g : SilImage) (orow ocol : Nat) : List Nat :=
  (List.range g.rows).flatMap fun r => (List.range g.cols).map fun c => physB orow ocol (8 * r + c)

/-- R206: what Moss service allows. -/
def SilImage.mossOk (g : SilImage) (orow ocol : Nat) : Bool :=
  decide (g.rows = 1 ∧ g.cols = 1 ∧ orow = 0 ∧ ocol = 0 ∧ g.plots = 0) && !g.sections.any (· ∈ [8, 9, 10]) &&
  g.programs.all fun x => onlyInt8 x.2.2

/-- The gateway routes that are disabled, lowest first (R204). -/
def Part.freeRoutes (p : Part) : List Nat := upTo 32 fun k => !p.flag (FAB_GW_ROUTE_ENABLE k)

/-- The queue pairs of hedge `h`, by the ownership that `own` gives. -/
def ranked (own : Nat → Option Nat) (h : Nat) : List Nat := upTo 256 fun q => own q == some h

/-- Step 3 of a bind (R202, R203): footprint, plots, inputs, outputs; `qps` and `ports` count what the hedge holds. -/
def Part.checkResources (p : Part) (g : SilImage) (h orow ocol qps : Nat) : Option BindFail :=
  let H := p.hedge h
  let ports := (upTo 8 (H.streamPorts.testBit ·)).length
  if !(decide (orow + g.rows ≤ 8 ∧ ocol + g.cols ≤ 8) && (g.brackens orow ocol).all (p.ownsBrk h)) then some { reason := 0x08 }
  else if g.plots ≠ 0 ∧ (List.range g.rows).any (fun r =>
      decide ((if p.sliceUp (orow + r) then (p.plotsOf h (orow + r)).length else 0) < g.plots)) then some { reason := 0x09 }
  else if p.freeRoutes.length < g.inputs.length ∨ g.inputs.any (fun x => x.2.1 &&& H.channels != x.2.1) then some { reason := 0x0A }
  else if g.outputs.any (fun (_, _, kind, i) =>
      (kind == 0 && decide (qps ≤ i)) || (kind == 1 && decide (ports ≤ i)) || (kind == 2 && !H.loopPort)) then some { reason := 0x0B }
  else none

/-! ### Loading (R127, R140, R181, R190, R191, R202 to R204) -/

/-- The words of a store written from word `w` on, with good check bits. -/
def Frond.loadWords (F : Frond) (store w : Nat) (ws : List Dword) : Frond :=
  (ws.foldl (fun (acc : Nat × Frond) x => (acc.1 + 1, acc.2.setWord store acc.1 x)) (w, F)).2

/-- A frond with every word of its activation store zero and its check bits good. -/
def Frond.clearAct (F : Frond) : Frond := { F with ast := [], ecc := F.ecc.filter fun e => e.1 / 65536 != 1 }

/-- The stores of every frond of the footprint, written from the image; an activation-store range that it does not supply is zero (R140). A program store so loaded is reloaded (R88). -/
def Part.loadStores (p : Part) (g : SilImage) (orow ocol : Nat) : Part :=
  let p := forIn' (g.brackens orow ocol) (fun b p => forN 48 (fun i p => p.updFrond (64 * b + i) Frond.clearAct) p) p
  let p := forIn' g.programs (fun x p => p.updFrond (physF orow ocol x.2.1) fun F => { F.loadWords 2 0 x.2.2 with needLoad := false }) p
  let p := forIn' g.weights (fun x p => p.updFrond (physF orow ocol x.2.1) fun F => F.loadWords 0 x.2.2.1 x.2.2.2) p
  forIn' g.acts (fun x p => p.updFrond (physF orow ocol x.2.1) fun F => F.loadWords 1 (x.2.2.1 / 8) (dwords x.2.2.2)) p

/-- Route tables, queue and slot bindings (R101, R103). -/
def Part.loadBindings (p : Part) (g : SilImage) (orow ocol : Nat) : Part :=
  let p := forIn' g.routes (fun x p =>
    { p with fab := { p.fab with routes := Tab.put none (256 * physB orow ocol x.2.1 + x.2.2.1) (some x.2.2.2) p.fab.routes } }) p
  let p := forIn' g.queues (fun (_, f, q, depth, s, _) p => p.updFrond (physF orow ocol f) fun F =>
    { F with queues := Tab.put {} q { bound := true, stream := s, depth := depth, toks := [] } F.queues }) p
  forIn' g.slots (fun (_, f, q, s) p => p.updFrond (physF orow ocol f) fun F =>
    { F with slots := Tab.put {} q { bound := true, stream := s } F.slots }) p

/-- The depth of the queue of a destination of a stream: 8 at a slice port (R220) and at the hub. -/
def Part.destDepth (p : Part) (s d : Nat) : Nat :=
  if d ≥ hubDest then 8
  else ((p.frond d).queues.find? fun e => e.2.bound && e.2.stream == s).map (·.2.depth) |>.getD 1

/-- The account of a stream that enters at the brackens `bs`: its credit is the smallest depth of its destinations (R103), and one where it has none (DEDUCED, notes/assumptions/89.md). -/
def Part.openStream (p : Part) (h s : Nat) (bs : List Nat) : Part :=
  let ds := (bs.flatMap (p.destsFrom s 16)).eraseDups
  let real := ds.filter fun d => decide (d < lostAt 0)
  let c := real.foldl (fun m d => min m (p.destDepth s d)) 16
  p.updStream h s fun _ => { credit := if real.isEmpty then 1 else c, dests := ds, returned := [] }

/-- The accounts of every stream that has a route (R103): from a slot's bracken, from those of its inputs, or from the root of its tree. -/
def Part.openStreams (p : Part) (g : SilImage) (h orow ocol : Nat) : Part :=
  let gate := fun (s : Nat) => (g.inputs.filter fun x => x.2.2.2.1 == s).map fun x => physB orow ocol x.2.2.2.2
  let p := forIn' g.slots (fun x p => p.openStream h x.2.2.2 [physB orow ocol (x.2.1 / 64)]) p
  let p := forIn' g.inputs (fun x p => p.openStream h x.2.2.2.1 (gate x.2.2.2.1)) p
  let named := g.slots.map (·.2.2.2) ++ g.inputs.map (·.2.2.2.1)
  let rest := ((g.routes.map (·.2.2.1)).eraseDups).filter fun s => !named.contains s
  forIn' rest (fun s p => p.openStream h s [(p.rootsOf h s).headD 0]) p

/-- Primed tokens put into the queue of stream `s`. -/
def primeQueue (s : Nat) (toks : List (Nat × Payload)) (e : Nat × FQueue) : Nat × FQueue :=
  if e.2.stream = s then (e.1, { e.2 with toks := e.2.toks ++ toks }) else e

/-- The primed tokens of the feedback streams (R127). -/
def Part.primeStreams (p : Part) (g : SilImage) (h : Nat) : Part :=
  forIn' g.feedback (fun (_, s, n, pays) p =>
    let toks := (List.range n).map fun i => (0, pays.getD i 0)
    let p := forIn' ((p.stream h s).dests.filter fun d => decide (d < hubDest)) (fun f p => p.updFrond f fun F =>
      { F with queues := F.queues.map (primeQueue s toks) }) p
    p.updStream h s fun c => { c with credit := c.credit - n }) p

/-- Windows and schedules (R191): every buffer free, every frond at its first entry. -/
def Part.loadSchedules (p : Part) (g : SilImage) (h orow ocol : Nat) : Part :=
  let p := forIn' g.windows (fun (_, f, k, rq, rs, base, words) p =>
    let ready := ((g.queues.find? fun q => q.2.1 == f && q.2.2.1 == rq).map (·.2.2.2.2.1)).getD 0
    let rel := ((g.slots.find? fun x => x.2.1 == f && x.2.2.1 == rs).map (·.2.2.2)).getD 0
    let pf := physF orow ocol f
    let w : Window := { buffers := k, base := base, words := words, ready := ready, release := rel }
    { p with slc := { p.slc with windows := Tab.put {} pf w p.slc.windows } }.updStream h ready fun _ => { credit := k, dests := [pf], returned := [] }) p
  forIn' g.scheds (fun (_, lrow, es) p =>
    let n := orow + lrow
    let ent := es.map fun (j, buf, f, off, len) =>
      { addr := ((p.plotsOf h n).getD j 0) * 2 ^ 30 + off, len := len, frond := physF orow ocol f, buffer := buf : SEntry }
    { p with slc := { p.slc with scheds := Tab.put {} (8 * h + n) { entries := ent } p.slc.scheds } }) p

/-- PLOTDATA (R190): the plots written, and the device after it. -/
def Dev.loadPlots (d : Dev) (g : SilImage) (h orow : Nat) : Dev :=
  g.plotdata.foldl (fun d (_, lrow, j, off, bs) =>
    match (d.p.plotsOf h (orow + lrow))[j]? with
    | some q => d.writeMem (q * 2 ^ 30 + off) bs
    | none => d) d

/-- The plots that the second fetch has written once `got` bytes of the image have come (R202): those of the records whose data has begun to arrive. A bind that then fails marks them stale (R205). -/
def Part.loadedPlots (p : Part) (g : SilImage) (h orow got : Nat) : List Nat :=
  (g.plotdata.filterMap fun (off, lrow, j, _, bs) =>
    if off + 16 < got ∧ !bs.isEmpty then (p.plotsOf h (orow + lrow))[j]? else none).eraseDups

/-- Step 5 of a bind: stores, plots, route tables, bindings and primed tokens. -/
def Dev.loadImage (d : Dev) (g : SilImage) (h orow ocol : Nat) : Dev :=
  (d.loadPlots g h orow).onP fun p =>
    ((((p.loadStores g orow ocol).loadBindings g orow ocol).openStreams g h orow ocol).primeStreams g h)

/-- Step 6: START to every frond with a program; the schedules begin (R191). -/
def Part.startImage (p : Part) (g : SilImage) (h orow ocol : Nat) : Part :=
  (forIn' g.programs (fun x p => p.updFrond (physF orow ocol x.2.1) Frond.start) p).loadSchedules g h orow ocol

/-- Step 7 (R204): hub entries, gateway routes, and the bound image. -/
def Part.enableImage (p : Part) (g : SilImage) (h orow ocol : Nat) (qps : List Nat) : Part :=
  let ports := upTo 8 ((p.hedge h).streamPorts.testBit ·)
  let p := forIn' g.outputs (fun (_, s, kind, i) p =>
    let dst : HubDest := match kind with
      | 0 => .queue (qps.getD i 0)
      | 1 => .port (ports.getD i 0)
      | 2 => .loop
      | _ => .events
    let back := match dst with
      | .queue q => (Tab.get ({} : QPair) q p.hs.qps).exist
      | _ => true
    { p with
      fab := { p.fab with hub := Tab.put .none (skey h s) dst p.fab.hub }
      -- a queue pair that exists is the stream's destination again (R348)
      hs := { p.hs with noDest := if back then p.hs.noDest.filter (· != skey h s) else p.hs.noDest } }) p
  let (used, p) := g.inputs.foldl (fun (acc : List Nat × Part) (_, ch, prio, s, lb) =>
    match acc.2.freeRoutes with
    | [] => acc
    | k :: _ =>
      let v := ch + 2 ^ 32 + prio * 2 ^ 33 + h * 2 ^ 36 + s * 2 ^ 40 + physB orow ocol lb * 2 ^ 48
      (acc.1 ++ [k], acc.2.gwRouteWrite k (BitVec.ofNat 64 v))) ([], p)
  let im : Image :=
    { row := orow, col := ocol, rows := g.rows, cols := g.cols, digest := g.digest, floor := g.floor, routes := used, inputs := g.inputs.map (·.2.2.2.1)
      ports := (g.outputs.filter fun o => o.2.2.1 == 1).foldl (fun m o => m ||| 2 ^ (ports.getD o.2.2.2 0)) 0
      loop := g.outputs.any fun o => o.2.2.1 == 2 }
  p.updHedge h fun H => { H with image := some im }

end Sys2Proof.Machine
end

