-- ==== Sys2Proof/Machine/Sched.lean ====
section
/-!
DEFINITION. Sys2Proof/Machine/Sched.lean: weight schedules while a network runs (R191 to R199).
-/

namespace Sys2Proof.Machine

open Sys2Proof

/-- The weight window of frond `f`. -/
def Part.window (p : Part) (f : Nat) : Window := Tab.get {} f p.slc.windows

/-- The weight window of frond `f` set. -/
def Part.setWindow (p : Part) (f : Nat) (w : Window) : Part :=
  { p with slc := { p.slc with windows := Tab.put {} f w p.slc.windows } }

/-- The schedule of hedge `h` in slice `n`. -/
def Part.sched (p : Part) (n h : Nat) : Sched := Tab.get {} (8 * h + n) p.slc.scheds

/-- The schedule of hedge `h` in slice `n` set. -/
def Part.setSched (p : Part) (n h : Nat) (s : Sched) : Part :=
  { p with slc := { p.slc with scheds := Tab.put {} (8 * h + n) s p.slc.scheds } }

/-- The indices of a frond's own entries in a schedule, in list order. -/
def Sched.ownOf (s : Sched) (f : Nat) : List Nat :=
  upTo s.entries.length fun i => match s.entries[i]? with
    | some e => e.frond == f
    | none => false

/-- The tokens that a slice owes on a frond's ready stream are sent while it has credit; they go to that frond alone (R194, R195). -/
def Part.flushReady (p : Part) (f : Nat) : Nat → Part
  | 0 => p
  | fuel + 1 =>
    let w := p.window f
    let h := p.frondHedge f
    match w.owed with
    | [] => p
    | t :: rest =>
      if (p.stream h w.ready).credit = 0 then p
      else
        let p := (p.updStream h w.ready fun c => { c with credit := c.credit - 1 }).setWindow f { w with owed := rest }
        (p.addFlight { b := f / 64, port := 52, ch := .toFrond f, tok := ⟨h, w.ready, t.1, t.2⟩ }).flushReady f fuel

/-- Entry `i` starts (R192): it is the frond's next entry, and its buffer is free. -/
def Part.entryStart (p : Part) (n h i : Nat) : Part :=
  let s := p.sched n h
  match s.entries[i]? with
  | none => p
  | some e =>
    let w := p.window e.frond
    let own := s.ownOf e.frond
    if own[w.next]? = some i ∧ Tab.get 0 e.buffer w.state = 0 then
      let wraps := decide (own.length ≤ w.next + 1)
      (p.setWindow e.frond { w with
        state := Tab.put 0 e.buffer 1 w.state, next := if wraps then 0 else w.next + 1
        pass := if wraps then (w.pass + 1) % 2 ^ 32 else w.pass }).setSched n h
        { s with active := Tab.put none i (some { written := 0, pass := w.pass, bad := none }) s.active }
    else p

/-- The entries of slice `n` with data still to send, by 8,192 × hedge + entry, in rising order (R201). -/
def Part.readyEntries (p : Part) (n : Nat) : List Nat :=
  (List.range 16).flatMap fun h =>
    let s := p.sched n h
    (s.active.filter fun a => match a.2, s.entries[a.1]? with
      | some x, some e => decide (x.written < e.len)
      | _, _ => false).map fun a => 8192 * h + a.1

/-- The entry that slice `n` serves: the one of the present turn until 4 KiB or its end, then the next ready one in rising order (R201). -/
def Part.servedEntry (p : Part) (n : Nat) : Option Nat :=
  let ready := p.readyEntries n
  let (k, served) := Tab.get (0, 0) n p.slc.turns
  if ready.contains k ∧ served < 4096 then some k
  else (ready.find? fun x => decide (k < x)).orElse fun _ => ready.head?

/-- One DATA token of entry `i` (R193, R197, R242), when it is its turn: 32 bytes of the plot, or zeros where they cannot be read or the plot has left the hedge (DEDUCED, notes/assumptions/33.md), into the frond's buffer. A granule of 64 bytes is read whole for its two tokens (R199, R212). -/
def Dev.entryToken (d : Dev) (n h i : Nat) : Dev :=
  let s := d.p.sched n h
  match s.entries[i]?, Tab.get none i s.active with
  | some e, some a =>
    if a.written < e.len ∧ d.p.servedEntry n = some (8192 * h + i) ∧ (a.half.isSome ∨ !d.p.granHeld (e.addr + a.written) 1) then
      let at' := e.addr + a.written
      let len := min (e.len - a.written) (64 - at' % 64)
      let mine := d.p.sliceUp n && d.p.plotOwner (at' / 2 ^ 30) == some h
      let (bs, ok, d) := match a.half with
        | some bs => (bs, true, d)
        | none => if mine then d.readIn at' len else ([], false, d)
      let bs := if ok then bs else List.replicate len 0
      let w := d.p.window e.frond
      let bad := match a.bad with
        | some x => some x
        | none => if ok then none else some (sliceAddr at')
      d.onP fun p =>
        let p := p.updFrond e.frond fun F => F.loadWords 0 (w.base + e.buffer * w.words + a.written / 8) (dwords (bs.take 32))
        let a := { a with written := a.written + 32, bad := bad, half := if 32 < bs.length then some (bs.drop 32) else none }
        let t := Tab.get (0, 0) n p.slc.turns
        let turn := (8192 * h + i, if t.1 = 8192 * h + i ∧ t.2 < 4096 then t.2 + 32 else 32)
        let p := { p with slc := { p.slc with turns := Tab.put (0, 0) n turn p.slc.turns } }
        (p.progress h).setSched n h { s with active := Tab.put none i (some a) s.active }
    else d
  | _, _ => d

/-- Entry `i` is complete (R194, R195, R197): the buffer is full, and the ready token, or POISON in its place, and after a frond's last entry one EOS, are owed. -/
def Part.entryDone (p : Part) (n h i : Nat) : Part :=
  let s := p.sched n h
  match s.entries[i]?, Tab.get none i s.active with
  | some e, some a =>
    if a.written < e.len then p
    else
      let w := p.window e.frond
      let tok := match a.bad with
        | some x => (2, memPoison n x)
        | none => (0, wordsPay [e.buffer, i, a.pass])
      let eos := if (s.ownOf e.frond).getLast? = some i then [(1, 0)] else []
      ((p.setWindow e.frond { w with state := Tab.put 0 e.buffer 2 w.state, owed := w.owed ++ tok :: eos }).setSched n h
        { s with active := Tab.put none i none s.active }).flushReady e.frond 16
  | _, _ => p

/-- The frond of row `n` whose release stream is stream `s` of hedge `h`. -/
def Part.releaseFrond (p : Part) (n h s : Nat) : Option Nat :=
  (p.slc.windows.find? fun e => e.1 / 512 == n && p.frondHedge e.1 == h && e.2.release == s).map (·.1)

/-- The head token of a release stream is taken (R196): a DATA token frees the full buffer that its word 0 names, or SLC_RELEASE_FAULT is raised with that word as its detail. -/
def Part.bufferRelease (p : Part) (n h s : Nat) : Part :=
  match p.releaseFrond n h s, p.inq (qkey n h s) with
  | some f, t :: _ =>
    let p := p.slDeq n h s
    let w := p.window f
    let b := payWord t.pay 0
    if t.kind ≠ 0 then p
    else if b < w.buffers ∧ Tab.get 0 b w.state = 2 then p.setWindow f { w with state := Tab.put 0 b 0 w.state }
    else p.raiseBoth (0x0200 + n) 0x0220 h noDetail
  | _, _ => p

/-! ### Meanings -/

/-- SCHEDULE_ENTRY_START (R192). -/
def execScheduleEntryStart (n h e : Nat) (s : State) : Host.Outcome State Fault Refusal :=
  onPartIf (n < 8 ∧ h < 16) (fun p => p.entryStart n h e) s

/-- SCHEDULE_DATA_TOKEN (R193). -/
def execScheduleDataToken (n h e : Nat) (s : State) : Host.Outcome State Fault Refusal :=
  onDevIf (n < 8 ∧ h < 16) (fun d => d.entryToken n h e) s

/-- SCHEDULE_ENTRY_DONE (R194, R195, R197). -/
def execScheduleEntryDone (n h e : Nat) (s : State) : Host.Outcome State Fault Refusal :=
  onPartIf (n < 8 ∧ h < 16) (fun p => p.entryDone n h e) s

/-- BUFFER_RELEASE (R196). -/
def execBufferRelease (n h stream : Nat) (s : State) : Host.Outcome State Fault Refusal :=
  onPartIf (n < 8 ∧ h < 16 ∧ stream < 256) (fun p => p.bufferRelease n h stream) s

/-- CREDIT_RETURN (R104, R105, R122): a return in flight reaches the producer's account, and a gateway route or a schedule that waited may deliver. -/
def execCreditReturn (h stream dest : Nat) (s : State) : Host.Outcome State Fault Refusal :=
  onPart (fun p =>
    if p.fab.returns.contains (h, stream, dest) then
      let p := { p with fab := { p.fab with returns := p.fab.returns.erase (h, stream, dest) } }
      let p := p.updStream h stream fun c => c.ret dest
      let p := forN 32 (fun k p =>
        if p.fg (FAB_GW_ROUTE_HEDGE k) = h ∧ p.fg (FAB_GW_ROUTE_STREAM k) = stream then p.gwFlush k 34 else p) p
      forIn' ((p.slc.windows.filter fun e => p.frondHedge e.1 == h && e.2.ready == stream).map (·.1)) (fun f p => p.flushReady f 16) p
    else p) s

end Sys2Proof.Machine
end

