-- ==== Sys2Proof/Machine/Queues.lean ====
section
/-!
DEFINITION. Sys2Proof/Machine/Queues.lean: queue pairs, doorbells, completions and event rings (R343 to R386).
-/

namespace Sys2Proof.Machine

open Sys2Proof

/-! ### Queue pairs -/

/-- Queue pair `q`. -/
def Part.qp (p : Part) (q : Nat) : QPair := Tab.get {} q p.hs.qps

/-- Queue pair `q` changed; OUTSTANDING and HEDGE of its page follow (R364). -/
def Part.updQp (p : Part) (q : Nat) (f : QPair → QPair) : Part :=
  let Q := f (p.qp q)
  let p := { p with hs := { p.hs with qps := Tab.put {} q Q p.hs.qps } }
  if Q.exist then (p.fs (DB_STATE_OUTSTANDING q) Q.descs.length).fs (DB_STATE_HEDGE q) (Q.owner.getD 0) else p

/-- The queue pairs of hedge `h`, by rank (R323). -/
def Part.qpsOf (p : Part) (h : Nat) : List Nat := ranked (fun q => (p.qp q).owner) h

/-- The hedge of queue pair `q`. -/
def Part.qpHedge (p : Part) (q : Nat) : Nat := (p.qp q).owner.getD 0

/-- The epoch that a completion of hedge `h` carries (R361, R749). -/
def Part.epochOf (p : Part) (h : Nat) : Option Nat :=
  let r := p.fg TWN_STATUS_ROLE
  if p.tw.mirrored.testBit h && (r == 1 || r == 2) then some (p.fg TWN_EPOCH_EPOCH) else none

/-- Whether the queue engine rests for hedge `h`: a standby in MIRROR mode serves no mirrored hedge (R747). -/
def Part.queueRests (p : Part) (h : Nat) : Bool := p.mirrorStandby && p.tw.mirrored.testBit h

/-! ### Completions (R355 to R362, R370) -/

/-- The bytes of a completion (R356). -/
def Cpl.encode (c : Cpl) (sqHead phase : Nat) : List Byte :=
  natLe 4 c.tag ++ natLe 4 c.bytes ++ natLe 4 (c.epoch.getD 0) ++ natLe 2 sqHead ++
  [BitVec.ofNat 8 c.status, BitVec.ofNat 8 (phase + c.flags + if c.epoch.isSome then 8 else 0),
   BitVec.ofNat 8 c.stream, BitVec.ofNat 8 c.op] ++
  natLe 2 c.origin ++ natLe 2 c.cause ++ natLe 2 c.poisons ++ natLe 8 c.detail

/-- A descriptor completes (R350, R355, R357): its completion waits to be written, behind those before it. -/
def Part.completeDesc (p : Part) (q : Nat) (d : Desc) : Part :=
  let poisoned := d.op == 2 && d.poisons != 0
  let st := if d.status != 0 then d.status else if poisoned then 1 else 0
  let c : Cpl :=
    { tag := d.tag, bytes := if d.op = 1 then d.moved - 32 * d.poisons else d.moved, status := st, flags := d.flags
      stream := d.stream, op := d.op, origin := d.origin, cause := d.cause
      poisons := if d.op = 2 then min d.poisons 0xFFFF else 0, detail := d.detail
      epoch := p.epochOf (p.qpHedge q), irq := d.irq }
  let p := (p.updQp q fun Q => { Q with descs := Q.descs.filter (·.id != d.id), held := Q.held ++ [c] }).addW (DB_DONE_TOTAL q) 1
  if st = 0 ∨ st = 1 then p else p.incS (DB_FAULTS q)

/-- An interrupt of queue pair `q`: sent while it is armed, otherwise owed (R370). -/
def Part.cqIrq (p : Part) (q : Nat) : Part :=
  if p.flag (DB_STATE_ARMED q) then (p.setFlag (DB_STATE_ARMED q) false).sendMsi (p.qpHedge q) (p.qp q).vector
  else p.setFlag (DB_STATE_PENDING q) true

/-- Whether the CQ of queue pair `q` has no free entry (R346, R362). -/
def Part.cqFullNow (p : Part) (q : Nat) : Bool :=
  let Q := p.qp q
  (p.fg (DB_CQ_TAIL_TAIL q) + 1) % Q.cqSize == Q.cqHead

/-- The queue pair enters or leaves the condition that its CQ has no free entry; QUEUE_CQ_FULL is raised once on each entry (R362). -/
def Part.cqWatch (p : Part) (q : Nat) : Part :=
  let Q := p.qp q
  let full := p.cqFullNow q
  let p := (if full = Q.cqFull then p else p.updQp q fun Q => { Q with cqFull := full }).fs (DB_STATE_STATE q) (if full || Q.cplStop then 2 else 1)
  if full && !Q.cqFull then p.raise (0x0500 + q) 0x0503 Q.owner noDetail [p.qpHedge q] else p

/-- The oldest completion held has been written: the next entry, and its interrupt (R345, R370). -/
def Part.cqStep (p : Part) (q : Nat) (irq : Bool) : Part :=
  let tail := p.fg (DB_CQ_TAIL_TAIL q)
  let phase := p.fg (DB_CQ_TAIL_PHASE q)
  let last := tail + 1 == (p.qp q).cqSize
  let p := p.updQp q fun Q => { Q with held := Q.held.tail }
  let p := (p.fs (DB_CQ_TAIL_TAIL q) (if last then 0 else tail + 1)).fs (DB_CQ_TAIL_PHASE q) (if last then 1 - phase else phase)
  if irq then p.cqIrq q else p

/-- The completions that are ready are written while the CQ has free entries (R346, R362, R469); one whose line of a COHERENT window cannot be filled is gone like a posted write that fails (DEDUCED, notes/assumptions/97.md). -/
def Dev.cqFlush (d : Dev) (q : Nat) : Nat → Dev
  | 0 => d
  | fuel + 1 =>
    let d := d.onP fun p => p.cqWatch q
    let Q := d.p.qp q
    match Q.held with
    | [] => d
    | c :: _ =>
      if Q.cplStop || Q.cqFull then d
      else
        let tail := d.p.fg (DB_CQ_TAIL_TAIL q)
        match d.hostWrite (.cpl q) (d.p.qpHedge q) (Q.cqBase + 32 * tail) (c.encode (d.p.fg (DB_SQ_HEAD_HEAD q)) (d.p.fg (DB_CQ_TAIL_PHASE q))) with
        | (.wait, d) => d
        | (.fail _, d) => d.onP fun p => (p.updQp q fun Q => { Q with cplStop := true }).cqWatch q
        | (_, d) => (d.onP fun p => p.cqStep q c.irq).cqFlush q fuel

/-! ### Descriptors (R347, R349 to R354) -/

/-- A descriptor as it is fetched (R349), with the faults of R351 that lie in it alone. -/
def parseDesc (id : Nat) (bs : List Byte) : Desc :=
  let b := fun i => (bs.getD i 0).toNat
  let n := fun o k => leNat ((bs.drop o).take k)
  let flags := b 1
  let addr := n 8 8
  let len := n 16 4
  let op := b 0
  let res := decide (flags < 8) && b 3 == 0 && (bs.drop 20).all (· == 0)
  let bad := !res || decide (2 < op) || addr % 32 != 0 || len % 32 != 0 || decide (2 ^ 24 < len) ||
    (op == 1 && len == 0 && !flags.testBit 0) || (op == 2 && len == 0)
  { id := id, op := op, eos := flags.testBit 0, irq := flags.testBit 1, fence := flags.testBit 2, stream := b 2
    tag := n 4 4, addr := addr, len := len, bad := bad, raw := bs }

/-- Whether the bound image of hedge `h` has the hub produce stream `s` (P3): it has a route, and no frond, input of the image or schedule produces it. -/
def Part.hubProduces (p : Part) (h s : Nat) : Bool :=
  (match (p.hedge h).image with
    | some im => !im.inputs.contains s
    | none => false) && !(p.rootsOf h s).isEmpty &&
  !((p.brackensOf h).any fun b => (List.range 48).any fun i =>
    ((p.frond (64 * b + i)).slots.any fun e => e.2.bound && e.2.stream == s) ||
    (let w := Tab.get {} (64 * b + i) p.slc.windows
     w.buffers != 0 && w.ready == s))

/-- Whether a descriptor is bad (R351). -/
def Part.descBad (p : Part) (q : Nat) (d : Desc) : Bool :=
  let h := p.qpHedge q
  d.bad || (d.op == 1 && !p.hubProduces h d.stream) ||
  (d.op == 2 && Tab.get .none (skey h d.stream) p.fab.hub != .queue q)

/-- A descriptor of `q` with a change. -/
def Part.updDesc (p : Part) (q id : Nat) (f : Desc → Desc) : Part :=
  p.updQp q fun Q => { Q with descs := Q.descs.map fun d => if d.id == id then f d else d }

/-- The oldest descriptor of an operation and stream that has not completed: SENDs and RECVs of one stream complete in their order (R355). -/
def QPair.oldest (Q : QPair) (op s : Nat) : Option Desc := Q.descs.find? fun x => x.op == op && x.stream == s

/-- A fetched descriptor starts, unless its FENCE still holds it (R350, R351, R354): a bad SEND or RECV waits only for its stream's turn to complete. -/
def Part.startOne (p : Part) (q : Nat) (d : Desc) : Part :=
  let Q := p.qp q
  if d.stage != 0 || (d.fence && ((Q.descs.head?.map (·.id)) != some d.id || !Q.held.isEmpty)) then p
  else if p.descBad q d then
    let p := p.raiseBoth (0x0500 + q) 0x0501 (p.qpHedge q) noDetail
    if d.op = 1 ∨ d.op = 2 then p.updDesc q d.id fun d => { d with stage := 3, status := 2 } else p.completeDesc q { d with status := 2 }
  else if d.op = 0 then p.completeDesc q d
  else p.updDesc q d.id fun d => { d with stage := 1 }

/-- A bad SEND or RECV completes once it is the oldest of its stream (R351, R355). -/
def Part.endBad (p : Part) (q id : Nat) : Part :=
  match (p.qp q).descs.find? (·.id == id) with
  | some d => if d.stage = 3 && (((p.qp q).oldest d.op d.stream).map (·.id)) == some id then p.completeDesc q d else p
  | none => p

/-- Fetched descriptors start in SQ order (R351, R354, R355). -/
def Part.qpStart (p : Part) (q : Nat) : Part :=
  let p := forIn' (p.qp q).descs (fun d p => p.startOne q d) p
  forIn' ((p.qp q).descs.map (·.id)) (fun id p => p.endBad q id) p

/-- The queue engine reads new descriptors (R347, R362, R365, R208): as many as lie in one piece of the ring, at most 64 outstanding. -/
def Dev.qpFetch (d : Dev) (q : Nat) : Dev :=
  let Q := d.p.qp q
  let h := d.p.qpHedge q
  let head := d.p.fg (DB_SQ_HEAD_HEAD q)
  let new := (Q.sqTail + Q.sqSize - head) % Q.sqSize
  if !Q.exist || Q.fetchStop || Q.fetching.isSome || d.p.cqFullNow q || Q.cplStop || (d.p.hedge h).image.isNone || (d.p.hedge h).resetting then d
  else
    let n := min (min new (64 - Q.descs.length)) (min (min (Q.sqSize - head) (64 - head % 64)) (d.p.maxRead / 64))
    if n = 0 then d
    else match d.hostRead (.fetch q) h (Q.sqBase + 64 * head) (64 * n) with
      | (.wait, d) => d
      | (.fail _, d) => d.onP fun p => p.updQp q fun Q => { Q with fetchStop := true }
      | (.tag t, d) => d.onP fun p => p.updQp q fun Q => { Q with fetching := some t }

/-- A descriptor read has come back (R347, R488). -/
def Part.fetchDone (p : Part) (q : Nat) : Part :=
  match (p.qp q).fetching with
  | none => p
  | some t =>
    match p.npTake t with
    | (none, p) => p
    | (some (data, bad), p) =>
      let p := p.updQp q fun Q => { Q with fetching := none }
      if bad.any (·.1 != 0) then p.updQp q fun Q => { Q with fetchStop := true }
      else
        let n := data.length / 64
        let Q := p.qp q
        let ds := (List.range n).map fun i => parseDesc (Q.nextId + i) ((data.drop (64 * i)).take 64)
        let p := p.updQp q fun Q => { Q with descs := Q.descs ++ ds, nextId := Q.nextId + n }
        (p.fs (DB_SQ_HEAD_HEAD q) ((p.fg (DB_SQ_HEAD_HEAD q) + n) % Q.sqSize)).qpStart q

/-! ### SEND (R350, R353, R358, R359, R462) -/

/-- The hub injects one token of hedge `h` on stream `s`, using one credit: up the column of the stream's first bracken (R101). -/
def Part.hubInject (p : Part) (h s kind : Nat) (pay : Payload) : Part :=
  let b := (p.rootsOf h s).headD 0
  (p.updStream h s fun c => { c with credit := c.credit - 1 }).addFlight
    { b := 56 + b % 8, port := 50, ch := .toBracken b, tok := ⟨h, s, kind, pay⟩ }

/-- A SEND's tokens are injected while the stream has credit (R102). -/
def Part.sendTokens (p : Part) (q id : Nat) : Nat → Part
  | 0 => p
  | fuel + 1 =>
    match (p.qp q).descs.find? (·.id == id) with
    | none => p
    | some d =>
      let h := p.qpHedge q
      match d.toks with
      | [] => p
      | t :: rest =>
        if (p.stream h d.stream).credit = 0 then p
        else ((p.hubInject h d.stream t.1 t.2).updDesc q id fun d => { d with toks := rest }).sendTokens q id fuel

/-- The tokens of a piece that came back: DATA, or POISON where the read failed (R359, R462). -/
def pieceTokens (addr : Nat) (data : List Byte) (bad : List (Nat × Nat)) : List (Nat × Payload) :=
  (List.range (data.length / 32)).map fun i =>
    let b := bad.getD i (0, 0)
    if b.1 = 0 then (0, bytesPay ((data.drop (32 * i)).take 32)) else (2, poisonPay b.1 b.2 (addr + 32 * i))

/-- A SEND's data read has come back (R350, R359). -/
def Part.sendData (p : Part) (q : Nat) (d : Desc) (data : List Byte) (bad : List (Nat × Nat)) : Part :=
  let a := d.addr + d.moved
  let fails := upTo bad.length fun i => (bad.getD i (0, 0)).1 != 0
  let p := p.addW (DB_BYTES_SENT_TOTAL q) (data.length - 32 * fails.length)
  p.updDesc q d.id fun d =>
    let d := match fails with
      | [] => d
      | i :: _ =>
        if d.status != 0 then d
        else { d with status := 4, cause := (bad.getD i (0, 0)).1, origin := (bad.getD i (0, 0)).2, detail := a + 32 * i }
    let d := { d with moved := d.moved + data.length, poisons := d.poisons + fails.length, toks := d.toks ++ pieceTokens a data bad }
    if d.moved = d.len && d.eos then { d with toks := d.toks ++ [(1, 0)] } else d

/-- A SEND that holds its stream goes on: its tokens, its next read, its completion (R350, R358, R433). -/
def Dev.sendStep (d : Dev) (q id : Nat) : Dev :=
  let d := d.onP fun p => p.sendTokens q id 200
  match (d.p.qp q).descs.find? (·.id == id) with
  | none => d
  | some x =>
    if x.toks != [] then d
    else if x.len ≤ x.moved then d.onP fun p => p.completeDesc q x
    else if (d.p.npOf (.send q id)).isSome then d
    else
      let a := x.addr + x.moved
      match d.hostRead (.send q id) (d.p.qpHedge q) a (min (min (x.len - x.moved) (4096 - a % 4096)) d.p.maxRead) with
      | (.fail _, d) => d.onP fun p => (p.updDesc q id fun x =>
          { x with status := 3, cause := 0x21, origin := 0x8300, detail := a, len := x.moved
                   toks := [(2, poisonPay 0x21 0x8300 a), (1, 0)] }).sendTokens q id 2
      | (_, d) => d

/-- An empty SEND with EOS sends its EOS alone. -/
def Desc.begin (d : Desc) : Desc := { d with stage := 2, toks := if d.len = 0 then [(1, 0)] else [] }

/-- The started SENDs of hedge `h` on stream `s` that may come next: the oldest of each queue pair (R353). -/
def Part.sendsOn (p : Part) (h s : Nat) : List (Nat × Nat) :=
  (p.qpsOf h).filterMap fun q => (((p.qp q).oldest 1 s).filter fun d => d.stage == 1 || d.stage == 2).map fun d => (q, d.id)

/-- The SENDs of one stream go on: the one that holds it, or one of those that may take it (R353). -/
def Dev.streamSend (d : Dev) (h s : Nat) : Dev :=
  let cs := d.p.sendsOn h s
  let holds := fun (c : Nat × Nat) => (d.p.qp c.1).descs.any fun x => x.id == c.2 && x.stage == 2
  match cs.find? holds with
  | some c => d.sendStep c.1 c.2
  | none =>
    match cs with
    | [] => d
    | c :: _ =>
      let (c, p) := d.p.choose c cs
      ({ d with p := p.updDesc c.1 c.2 Desc.begin }).sendStep c.1 c.2

/-! ### RECV (R352, R358) -/

/-- The tokens that wait at the hub on a stream. -/
def Part.hubToks (p : Part) (h s : Nat) : List (Nat × Payload) := Tab.get [] (skey h s) p.fab.hubWait

/-- The head token of a stream leaves the hub, and its credit returns. -/
def Part.hubDeq (p : Part) (h s : Nat) : Part :=
  { p with fab := { p.fab with hubWait := Tab.put [] (skey h s) (p.hubToks h s).tail p.fab.hubWait } }.progress h |>.addReturn h s hubDest

/-- One token of 32 bytes joins a RECV's buffer; a POISON token's fields are taken from the first (R352). -/
def Desc.recvTok (d : Desc) (kind : Nat) (pay : Payload) : Desc :=
  let d := { d with moved := d.moved + 32 }
  if kind != 2 then d
  else
    let d := if d.poisons = 0 then
        { d with cause := bitsOfNat pay.toNat 0 8, origin := bitsOfNat pay.toNat 8 16, detail := bitsOfNat pay.toNat 32 64 }
      else d
    { d with poisons := d.poisons + 1 }

/-- A token whose line of a COHERENT window could not be filled is not written; the RECV goes on as a SEND whose read failed (R466, R488; DEDUCED, notes/assumptions/97.md). -/
def Desc.fillFailed (d : Desc) (a : Nat) : Desc :=
  if d.status != 0 then d else { d with status := 4, cause := 0x20, origin := 0x8300, detail := a }

/-- The tokens that wait at the hub on stream `s` go into the RECVs of queue pair `q` (R352, R358). -/
def Dev.recvStep (d : Dev) (q s : Nat) : Nat → Dev
  | 0 => d
  | fuel + 1 =>
    let h := d.p.qpHedge q
    let Q := d.p.qp q
    match d.p.hubToks h s with
    | [] => d
    | (kind, pay) :: _ =>
      if Q.discard.contains s then
        (d.onP fun p =>
          let p := p.hubDeq h s
          if kind = 1 then p.updQp q fun Q => { Q with discard := Q.discard.erase s } else p).recvStep q s fuel
      else match (Q.oldest 2 s).filter (·.stage == 1) with
        | none => d
        | some x =>
          match kind with
          | 1 => (d.onP fun p => (p.hubDeq h s).completeDesc q { x with flags := x.flags + 2 }).recvStep q s fuel
          | 3 =>
            if x.moved != 0 then (d.onP fun p => p.completeDesc q x).recvStep q s fuel
            else (d.onP fun p => (p.hubDeq h s).completeDesc q { x with flags := x.flags + 4, detail := pay.toNat % 2 ^ 32 }).recvStep q s fuel
          | _ =>
            let a := x.addr + x.moved
            match d.hostWrite (.recv q s) h a (if kind = 2 then List.replicate 32 0 else payBytes pay) with
            | (.wait, d) => d
            | (.fail _, d) =>
              (d.onP fun p => (p.completeDesc q { x with status := 3, cause := 0x21, origin := 0x8300, detail := a }).updQp q fun Q =>
                { Q with discard := s :: Q.discard }).recvStep q s fuel
            | (w, d) =>
              (d.onP fun p =>
                let p := p.hubDeq h s
                let p := if w = .bad then p else p.addW (DB_BYTES_RECEIVED_TOTAL q) 32
                let x := x.recvTok kind pay
                let x := if w = .bad then x.fillFailed a else x
                if x.moved = x.len then p.completeDesc q x else p.updDesc q x.id fun _ => x).recvStep q s fuel

/-! ### Event rings (R371 to R376) -/

/-- The bytes of a record (R373). -/
def EvRec.encode (e : EvRec) (phase : Nat) (lost : Bool) : List Byte :=
  natLe 2 e.source ++ natLe 2 e.code ++ natLe 4 e.seq ++ natLe 8 e.time ++
  [BitVec.ofNat 8 e.sev, BitVec.ofNat 8 ((e.hedge.map (· % 16 + 128)).getD 0), BitVec.ofNat 8 (phase + if lost then 2 else 0)] ++
  natLe 5 0 ++ natLe 8 e.detail

/-- The hedge whose function serves ring `r` (R372). -/
def ringHedge (r : Nat) : Nat := if r = opRing then 0 else r

/-- A record is lost to ring `r`, with RING_OVERFLOW where it is a hedge ring's first after a written one (R375, R376). -/
def Part.loseOver (p : Part) (r : Nat) : Part :=
  let (first, p) := p.loseRec r
  if first && r != opRing then p.raiseOverflow r else p

/-- A record of severity `sev` has been written: the next entry, and its interrupt (R345, R371, R374). -/
def Part.ringStep (p : Part) (r sev : Nat) : Part :=
  let tail := p.fg (EVT_TAIL_TAIL r)
  let phase := p.fg (EVT_TAIL_PHASE r)
  let last := tail + 1 == p.ringSize r
  let p := (p.fs (EVT_TAIL_TAIL r) (if last then 0 else tail + 1)).fs (EVT_TAIL_PHASE r) (if last then 1 - phase else phase)
  if p.fg (EVT_CFG_IRQ_SEV r) ≤ sev then
    if p.flag (EVT_STATUS_ARMED r) then (p.setFlag (EVT_STATUS_ARMED r) false).sendMsi (ringHedge r) (p.fg (EVT_CFG_VECTOR r))
    else p.setFlag (EVT_STATUS_PENDING r) true
  else p

/-- The records of ring `r` that can be written are written (R374, R375, R469); each of at least IRQ_SEV counts as a completion with IRQ (R371).
A record leaves the queue as its write begins, so that what the write itself raises stands behind it. -/
def Dev.ringDrain (d : Dev) (r : Nat) : Nat → Dev
  | 0 => d
  | fuel + 1 =>
    let R := d.p.ring r
    match R.held with
    | [] => d
    | e :: rest =>
      if !d.p.ringOpen r || d.p.ringFree r = 0 then d
      else
        let tail := d.p.fg (EVT_TAIL_TAIL r)
        let base := d.p.fg (EVT_BASE_ADDR r) * 4096
        let back := fun (p : Part) (held : List EvRec) => p.updRing r fun Q =>
          { Q with held := held ++ Q.held, lostNext := R.lostNext || Q.lostNext, wrote := R.wrote && Q.wrote }
        match (d.onP fun p => p.updRing r fun _ => { held := rest, lostNext := false, wrote := true }).hostWrite (.evt r) (ringHedge r)
            (base + 32 * tail) (e.encode (d.p.fg (EVT_TAIL_PHASE r)) R.lostNext) with
        | (.wait, d) => d.onP fun p => back p [e]
        | (.fail _, d) => (d.onP fun p => (back p []).loseOver r).ringDrain r fuel
        | (_, d) => (d.onP fun p => p.ringStep r e.sev).ringDrain r fuel

/-! ### The engines go on -/

/-- Completions are written and descriptors start, for as long as one lets the other go on (R354). -/
def Dev.qpAdvance (d : Dev) (q : Nat) : Nat → Dev
  | 0 => d
  | n + 1 =>
    let d := d.cqFlush q 70
    let e := d.onP fun p => p.qpStart q
    if e.p.qp q = d.p.qp q then d else e.qpAdvance q n

/-- One round of queue pair `q`. -/
def Dev.qpRound (d : Dev) (q : Nat) : Dev :=
  let h := d.p.qpHedge q
  if d.p.queueRests h then d
  else
    let d := d.qpAdvance q 66
    let ss := ((d.p.qp q).descs.map (·.stream)).eraseDups
    let d := forIn' ss (fun s d => if Tab.get .none (skey h s) d.p.fab.hub = .queue q then d.recvStep q s 600 else d.streamSend h s) d
    let ds := (d.p.qp q).discard
    let d := forIn' ds (fun s d => d.recvStep q s 20) d
    (d.qpAdvance q 66).qpFetch q

/-- What waits on the host side goes on as far as it can: requests that wait in the bridge, event records, every queue pair, and invalidations. -/
def Dev.settle (d : Dev) : Dev :=
  let d := d.onP Part.npPump
  let d := forIn' (d.p.hs.qps.map (·.1)) (fun q d => if (d.p.qp q).exist then d.qpRound q else d) d
  (forN 17 (fun r d => d.ringDrain r 70) d).onP Part.invalDone

/-! ### Doorbells (R363 to R371) -/

/-- The queue pair of a doorbell page of function `f` (R363). -/
def Part.dbPage (p : Part) (f page : Nat) : Option Nat :=
  if f = 0 then (if page < 256 then some page else none) else (p.qpsOf f)[page]?


/-- A doorbell write that is discarded with a fault (R367). -/
def Part.dbFault (p : Part) (q : Option Nat) : Part :=
  match q with
  | none => p.raiseOp 0x0500 0x0502 none noDetail
  | some q =>
    let p := if (p.qp q).exist then p.incS (DB_FAULTS q) else p
    match (p.qp q).owner with
    | some h => p.raiseBoth (0x0500 + q) 0x0502 h noDetail
    | none => p.raiseOp (0x0500 + q) 0x0502 none noDetail

/-- Whether a doorbell page write is at fault whatever it writes (R367). -/
def Part.dbBad (p : Part) (f : Nat) (q : Option Nat) (width : Nat) : Bool :=
  (width != 32 && width != 64) ||
  match q with
  | none => true
  | some q => !(p.qp q).exist || (f == 0 && (p.qp q).owner != some 0)

/-- A legal page gets a new tail (R365 to R367). -/
def Dev.tailWrite (d : Dev) (q tail : Nat) : Dev :=
  let Q := d.p.qp q
  let head := d.p.fg (DB_SQ_HEAD_HEAD q)
  if Q.sqSize ≤ tail then d.onP fun p => p.dbFault (some q)
  else if tail = Q.sqTail then d.onP fun p => p.updQp q fun Q => { Q with fetchStop := false }
  else if (tail + Q.sqSize - head) % Q.sqSize < (Q.sqTail + Q.sqSize - head) % Q.sqSize then d.onP fun p => p.dbFault (some q)
  else d.onP fun p => p.updQp q fun Q => { Q with sqTail := tail, fetchStop := false }

/-- A legal page gets a new CQ head (R362, R370, R469). -/
def Dev.headWrite (d : Dev) (q head : Nat) : Dev :=
  let Q := d.p.qp q
  if Q.cqSize ≤ head then d.onP fun p => p.dbFault (some q)
  else d.onP fun p =>
    let p := p.updQp q fun Q => { Q with cqHead := head, cplStop := false }
    let owed := p.flag (DB_STATE_PENDING q) && p.fg (DB_CQ_TAIL_TAIL q) != head
    let p := p.setFlag (DB_STATE_PENDING q) false
    if owed then (p.setFlag (DB_STATE_ARMED q) false).sendMsi (p.qpHedge q) Q.vector else p.setFlag (DB_STATE_ARMED q) true

/-- A doorbell write of function `f` at a page, as `act` on its queue pair. -/
def Dev.doorbell (d : Dev) (f page width : Nat) (act : Nat → Dev → Dev) : Dev :=
  if !d.p.accessOpen f || !d.p.finds f 2 then d
  else
    let q := d.p.dbPage f page
    if d.p.dbBad f q width then d.onP fun p => p.dbFault q
    else (act (q.getD 0) d).settle

/-! ### Event registers (R371, R386) -/

/-- Whether function `f` reaches the registers of ring `r` (R372). -/
def ringReach (f r : Nat) : Bool := (f == 0 && decide (r ≤ opRing)) || (f != 0 && r == f)

/-- Whether a vector may serve ring `r` (R369, R386): one of the serving function's, and none that has another fixed use. -/
def ringVector (r v : Nat) : Bool :=
  if r = opRing then decide (v < 512) && v != 0 && v != 2 && v != 3
  else if r = 0 then decide (v < 512) && v != 0 && v != 1 && v != 3
  else decide (v < 32) && v != 0 && v != 2

/-- A write of EVT_HEAD (R371). -/
def Part.ringHead (p : Part) (r head : Nat) : Part :=
  let p := p.fs (EVT_HEAD_HEAD r) head
  let owed := p.flag (EVT_STATUS_PENDING r) && p.fg (EVT_TAIL_TAIL r) != head % p.ringSize r
  let p := p.setFlag (EVT_STATUS_PENDING r) false
  if owed then (p.setFlag (EVT_STATUS_ARMED r) false).sendMsi (ringHedge r) (p.fg (EVT_CFG_VECTOR r))
  else p.setFlag (EVT_STATUS_ARMED r) true

/-- The records that wait for a ring that is disabled are lost (R376). -/
def Part.ringClose (p : Part) (r : Nat) : Part :=
  let n := (p.ring r).held.length
  forN n (fun _ p => p.loseOver r) (p.updRing r fun R => { R with held := [] })

/-- A write of EVT_CFG (R386): a ring that is enabled begins at entry 0 with PHASE 1, armed (R345, R370, R371). -/
def Part.ringCfg (p : Part) (r : Nat) (v : Word) : Part :=
  let x : Dword := v.setWidth 64
  let was := p.flag (EVT_CFG_ENABLE r)
  let size := getBits x 0 5
  let p := if !was && decide (6 ≤ size ∧ size ≤ 16) then p.fs (EVT_CFG_SIZE_LOG2 r) size else p
  let p := if ringVector r (getBits x 16 9) then p.fs (EVT_CFG_VECTOR r) (getBits x 16 9) else p
  let p := p.fs (EVT_CFG_IRQ_SEV r) (getBits x 28 3)
  let on := x.getLsbD 8
  let p := p.setFlag (EVT_CFG_ENABLE r) on
  if on && !was then
    (((p.fs (EVT_HEAD_HEAD r) 0).setReg (EVT_TAIL r) 0x10000).setFlag (EVT_STATUS_ARMED r) true).setFlag (EVT_STATUS_PENDING r) false
  else if !on && was then p.ringClose r
  else p

/-! ### Destroying and flushing (R348, R360) -/

/-- The unfinished work of queue pair `q` on the host side is dropped. -/
def Part.dropAgents (p : Part) (q : Nat) : Part :=
  let mine := fun (a : Agent) => match a with
    | .fetch k => k == q
    | .send k _ => k == q
    | .recv k _ => k == q
    | .cpl k => k == q
    | _ => false
  p.agentsGone mine

/-- The unbind of hedge `h` completes every fetched descriptor with FLUSHED (R360). -/
def Part.flushHedge (p : Part) (h : Nat) : Part :=
  forIn' (p.qpsOf h) (fun q p =>
    let p := p.dropAgents q
    let p := forIn' (p.qp q).descs (fun d p => p.completeDesc q { d with status := if d.status = 0 then 5 else d.status }) p
    p.updQp q fun Q => { Q with fetching := none, discard := [] }) p

/-- A token of stream `s` finds its queue pair gone (R348): it is discarded, and QUEUE_NO_DEST is raised once. -/
def Part.noDest (p : Part) (h s q : Nat) : Part :=
  let k := skey h s
  if p.hs.noDest.contains k then p
  else { p with hs := { p.hs with noDest := k :: p.hs.noDest } }.raiseBoth (0x0500 + q) 0x0504 h noDetail

/-- The indices and the state of queue pair `q` return to their Reset column; its counters stay (R19, R22, R332). -/
def Part.qpFresh (p : Part) (q : Nat) : Part :=
  forIn' [DB_SQ_HEAD q, DB_CQ_TAIL q, DB_STATE q] (fun k p => p.setReg k (Tab.get 0 k resetRegs)) p

/-- Queue pair `q` is destroyed (R348): nothing of it completes, and the tokens that waited for it go. -/
def Part.destroyQp (p : Part) (q : Nat) : Part :=
  let h := p.qpHedge q
  let p := p.dropAgents q
  let streams := (p.fab.hub.filter fun e => e.1 / 256 == h && e.2 == .queue q).map fun e => e.1 % 256
  let p := forIn' streams (fun s p =>
    let n := (p.hubToks h s).length
    if n = 0 then p else (forN n (fun _ p => p.hubDeq h s) p).noDest h s q) p
  let p := { p with hs := { p.hs with qps := Tab.upd {} q (fun Q => { owner := Q.owner }) p.hs.qps } }
  p.qpFresh q

/-! ### Meanings -/

/-- DB_SQ_TAIL (R365, R367). -/
def execDbSqTail (f page width tail : Nat) (s : State) : Host.Outcome State Fault Refusal :=
  onDev (fun d => d.doorbell f page width fun q d => d.tailWrite q (tail % 2 ^ 16)) s

/-- DB_CQ_HEAD (R362, R367, R370). -/
def execDbCqHead (f page width head : Nat) (s : State) : Host.Outcome State Fault Refusal :=
  onDev (fun d => d.doorbell f page width fun q d => d.headWrite q (head % 2 ^ 16)) s

/-- DB_WRITE_64 (R367): the tail, then the head. -/
def execDbWrite64 (f page tail head : Nat) (s : State) : Host.Outcome State Fault Refusal :=
  onDev (fun d => d.doorbell f page 64 fun q d => (d.tailWrite q (tail % 2 ^ 16)).headWrite q (head % 2 ^ 16)) s

/-- DESCRIPTOR_FETCH_DONE (R347): the read of descriptors of queue pair `q` that has come back is taken. -/
def execDescriptorFetchDone (q : Nat) (s : State) : Host.Outcome State Fault Refusal :=
  onDev (fun d => (d.onP fun p => p.fetchDone q).settle) s

/-- The SEND reads of queue pair `q` that have come back are taken. -/
def Part.sendBack (p : Part) (q : Nat) : Part :=
  forIn' (p.qp q).descs (fun d p => match p.npOf (.send q d.id) with
    | none => p
    | some t => match p.npTake t with
      | (some (data, bad), p) => p.sendData q d data bad
      | (none, p) => p) p

/-- DESC_SEND_DATA (R350, R359). -/
def execDescSendData (q : Nat) (s : State) : Host.Outcome State Fault Refusal :=
  onDev (fun d => (d.onP fun p => p.sendBack q).settle) s

/-- EVT_HEAD_WRITE (R371, R375). -/
def execEvtHeadWrite (f r head : Nat) (s : State) : Host.Outcome State Fault Refusal :=
  onDev (fun d => if d.p.accessOpen f && d.p.finds f 6 && ringReach f r then (d.onP fun p => p.ringHead r (head % 2 ^ 16)).settle else d) s

/-- EVT_CFG_WRITE (R386). -/
def execEvtCfgWrite (f r : Nat) (v : Word) (s : State) : Host.Outcome State Fault Refusal :=
  onDev (fun d => if d.p.accessOpen f && d.p.finds f 6 && ringReach f r then (d.onP fun p => p.ringCfg r v).settle else d) s

/-- CLR_LOST (R386). -/
def execClrLost (f r coin : Nat) (s : State) : Host.Outcome State Fault Refusal :=
  onPart (fun p => if p.accessOpen f && p.finds f 6 && ringReach f r then p.clrHit (EVT_LOST r) (coin.testBit 0) else p) s

/-- DB_CLR_FAULTS (R364). -/
def execDbClrFaults (f page coin : Nat) (s : State) : Host.Outcome State Fault Refusal :=
  onPart (fun p =>
    if !p.accessOpen f || !p.finds f 2 then p
    else
      let q := p.dbPage f page
      if p.dbBad f q 32 then p.dbFault q else p.clrHit (DB_FAULTS (q.getD 0)) (coin.testBit 0)) s

/-- ATS_COMPLETION (R447, R448, R451, R452). -/
def execAtsCompletion (id : Nat) (r : AtsRes) (s : State) : Host.Outcome State Fault Refusal :=
  onDev (fun d => (d.onP fun p => p.atsDone id r).settle) s

/-- ATS_INVALIDATE_REQUEST (R458). -/
def execAtsInvalidateRequest (f itag : Nat) (pasid : Option Nat) (addr size : Nat) (glob : Bool) (s : State) : Host.Outcome State Fault Refusal :=
  onPart (fun p => if p.fnExists f then p.invalidate f itag pasid addr size glob else p) s

/-- PAGE_REQUEST_RESPONSE (R455 to R457). -/
def execPageRequestResponse (slot code : Nat) (s : State) : Host.Outcome State Fault Refusal :=
  onDev (fun d => (d.onP fun p => p.pageResponse slot code).settle) s

end Sys2Proof.Machine
end

