-- ==== Sys2Proof/Machine/Sorus.lean ====
section
/-!
DEFINITION. Sys2Proof/Machine/Sorus.lean: analogue acquisition: references, triggers, sample words, gateway delivery and sample rings (R549 to R590).
The voltages on the AIN pins come with each trigger, in nanovolts: pair c is AINcP and AINcN; a pair that is not listed stands at 0 V.
-/

namespace Sys2Proof.Machine

open Sys2Proof

/-- A change to the Sorus state. -/
def Part.updSor (p : Part) (f : Sorus → Sorus) : Part := { p with sor := f p.sor }

/-! ### An absent die (R805) -/

/-- The failure of an access to the absent Sorus die (R507, R805): from the host at BAR0 offset `k`, or from the management processor. -/
def Part.sorusAbsent (p : Part) (mp : Bool) (k len : Nat) (write : Bool) : Part :=
  p.targetFail (if mp then 1 else 0) 0 k len Config.hostRid 3 write

/-- The host's write of a register of the Sorus block at key `k`: it fails while the die is absent (R507, R805). -/
def sorusPart (k : Nat) (ok : Prop) [Decidable ok] (f : Part → Part) (s : State) : Host.Outcome State Fault Refusal :=
  blockPart 8 ok (fun p => if p.sor.rails then f p else p.sorusAbsent false k 4 true) s

/-! ### Settings in force -/

/-- The word of a SOR_CONV or SOR_CH register that is in force: while its converter is under test or calibration, what it was before (R581). -/
def Part.sorWord (p : Part) (k : Nat) : Dword := (Tab.get none k p.sor.inUse).getD (p.reg k)

/-- A field in force. -/
def Part.sorF (p : Part) (f : Fld) : Nat := getBits (p.sorWord f.reg) f.lo f.w

/-- A write of a SOR_CONV or SOR_CH register: held while its converter is in use, with reads returning the written value (R581). -/
def Part.sorWrite (p : Part) (k conv : Nat) (v : Dword) : Part :=
  let held := p.sor.busy.testBit conv && (Tab.get none k p.sor.inUse).isNone
  let p := if held then p.updSor fun x => { x with inUse := Tab.put none k (some (p.reg k)) x.inUse } else p
  p.setReg k v

/-- A test or calibration takes the converters of mask `m` (R568, R577, R584). -/
def Part.sorTake (p : Part) (m : Nat) : Part := (p.updSor fun x => { x with busy := m }).setFlag SOR_STATUS_BUSY true

/-- The converters are free again and held writes apply (R581). -/
def Part.sorFree (p : Part) : Part :=
  (p.updSor fun x => { x with busy := 0, inUse := [], user := none }).setFlag SOR_STATUS_BUSY false

/-- The converters of a channel mask. -/
def convsOf (ch : Nat) : Nat := (List.range 8).foldl (fun m k => if (ch >>> (4 * k)) % 16 = 0 then m else m ||| 1 <<< k) 0

/-! ### References (R554 to R556) -/

/-- VREF_EFF in units of 0.1 µV (R554). -/
def Part.vref (p : Part) : Nat :=
  match p.fg SOR_CTRL_REF_SEL with
  | 0 => 40960000
  | 1 => p.sor.refin * 10000
  | _ => p.sor.avdd * 8192

/-- SOR_STATUS.REF_MV follows VREF_EFF (R555). -/
def Part.refView (p : Part) : Part := p.fs SOR_STATUS_REF_MV (p.vref / 10000)

/-- SOR_REF_UNSETTLED (R556). -/
def Part.refEvent (p : Part) : Part :=
  p.raiseOp 0x0A00 0x0A01 none (p.fg SOR_CTRL_REF_SEL + p.fg SOR_STATUS_REF_MV * 2 ^ 16)

/-- REF_SETTLED falls, with its event where it was set (R555, R556). -/
def Part.refFall (p : Part) : Part :=
  if p.flag SOR_STATUS_REF_SETTLED then (p.setFlag SOR_STATUS_REF_SETTLED false).refEvent else p

/-- Whether the selected reference lies in its window (R554). -/
def Part.refInWindow (p : Part) : Bool :=
  match p.fg SOR_CTRL_REF_SEL with
  | 0 => true
  | 1 => decide (2500 ≤ p.sor.refin ∧ p.sor.refin ≤ 4500)
  | _ => decide (4750 ≤ p.sor.avdd ∧ p.sor.avdd ≤ 5250)

/-- The voltages seen on REFIN and AVDD_SOR, in mV, and when each was outside its window. -/
def Part.refSeen (p : Part) (refin avdd : Nat) : Part :=
  (p.updSor fun x => { x with
    refin := refin
    avdd := avdd
    refinOut := if 2500 ≤ refin ∧ refin ≤ 4500 then x.refinOut else p.time
    avddOut := if 4750 ≤ avdd ∧ avdd ≤ 5250 then x.avddOut else p.time }).refView

/-- When the selected reference is settled at the earliest (R554): 10 ms after its selection or power-up, or 1 ms after that and its entry into its window (DEDUCED, notes/assumptions/104.md). -/
def Part.refDue (p : Part) : Nat :=
  match p.fg SOR_CTRL_REF_SEL with
  | 0 => p.sor.selAt + 10000000
  | 1 => max p.sor.selAt p.sor.refinOut + 1000000
  | _ => max p.sor.selAt p.sor.avddOut + 1000000

/-- The settling condition of the selected reference holds (R554, R555). -/
def Part.refSettle (p : Part) (t refin avdd : Nat) : Part :=
  let p := (p.at t).refSeen refin avdd
  if !p.refInWindow then p.refFall
  else if p.sor.rails && decide (p.refDue ≤ p.time) then p.setFlag SOR_STATUS_REF_SETTLED true else p

/-- The reference left its window (R555). -/
def Part.refLoss (p : Part) (refin avdd : Nat) : Part :=
  let p := p.refSeen refin avdd
  if p.refInWindow then p else p.refFall

/-- 20 ms after a selection that has not settled (R556). -/
def Part.refTimeout (p : Part) (t : Nat) : Part :=
  let p := p.at t
  if !p.flag SOR_STATUS_REF_SETTLED && !p.sor.late && decide (p.sor.selAt + 20000000 ≤ p.time) then
    (p.updSor fun x => { x with late := true }).refEvent
  else p

/-- A write of REF_SEL (R555): the reserved encoding 3 is ignored (R17). -/
def Part.refSelect (p : Part) (sel : Nat) : Part :=
  if 3 ≤ sel then p
  else
    let p := p.refFall
    let p := (p.fs SOR_CTRL_REF_SEL sel).updSor fun x => { x with selAt := p.time, late := false }
    p.refView

/-! ### Sample words (R551, R557, R558) -/

/-- The nominal range in nV (R551). -/
def nominalNv (range : Nat) : Int := [500000000, 2000000000, 5000000000, 10000000000].getD range 10000000000

/-- The quotient nearest to a / b (b > 0), and the other neighbour where both are equally near. -/
def nearest (a b : Int) : List Int :=
  let q := a.fdiv b
  let r := 2 * (a - q * b)
  if r < b then [q] else if r > b then [q + 1] else [q, q + 1]

/-- The code of a pin pair in a range, and whether the sample is OVER (R557).
Where R557 leaves a tie of its rounding open, and where the reference has no voltage, the code is a free value. -/
def Part.sampleCode (p : Part) (range : Nat) (pin : Int × Int) : (Int × Bool) × Part :=
  let v := pin.1 - pin.2
  let lim : Int := 10500000000
  let out := decide (pin.1 < -lim ∨ lim < pin.1 ∨ pin.2 < -lim ∨ lim < pin.2)
  let fs := nominalNv range * p.vref
  let (c, p) :=
    if fs ≤ 0 then
      if v = 0 then (let (n, p) := p.draw (2 ^ 18); ((n : Int) - 131072, p)) else (if v < 0 then -131073 else 131072, p)
    else p.choose 0 (nearest (v * 131072 * 40960000) fs)
  if c < -131072 then ((-131072, true), p) else if 131071 < c then ((131071, true), p) else ((c, out), p)

/-- The sample word of channel `c` (R558). -/
def Part.sampleWord (p : Part) (c tseq : Nat) (pins : List (Int × Int)) : Nat × Part :=
  let range := p.sorF (SOR_CH_RANGE c)
  let ((code, past), p) := p.sampleCode range (pins.getD c (0, 0))
  let ow := p.sorF (SOR_CH_OW_MAG c) != 0 && (p.sorF (SOR_CH_OW_P c) != 0 || p.sorF (SOR_CH_OW_N c) != 0)
  let bit (b : Bool) (n : Nat) := if b then 2 ^ n else 0
  (1 + c * 2 + tseq % 8 * 2 ^ 6 + bit past 9 + bit ow 10 + bit (!p.flag SOR_STATUS_REF_SETTLED) 11 + range * 2 ^ 12 +
    (BitVec.ofInt 18 code).toNat * 2 ^ 14, p)

/-- The hedge that owns channel `c`. -/
def Part.channelOwner (p : Part) (c : Nat) : Option Nat := (upTo 16 fun h => (p.hedge h).channels.testBit c).head?

/-- The rings of an event about channel `c`: the operator's, and its owner's. -/
def Part.channelRings (p : Part) (c : Nat) : List Nat :=
  match p.channelOwner c with
  | some h => [h, opRing]
  | none => [opRing]

/-- An OVER sample of channel `c` (R582). -/
def Part.overRange (p : Part) (c word : Nat) : Part :=
  let f : Fld := ⟨SOR_OVR, c, 1⟩
  if word.testBit 9 && !p.flag f then
    (p.fs f 1).raise 0x0A00 0x0A03 (p.channelOwner c) (c + word * 2 ^ 32) (p.channelRings c)
  else p

/-! ### Triggers (R550, R559 to R566) -/

/-- Whether the parts of a pair share time now (R752): the pair is formed, no LINK or PARTNER cause stands, and no TIME_DISCORD. -/
def Part.pairShared (p : Part) : Bool :=
  p.tw.formed && !p.tw.missing && !p.flag TWN_STATUS_LINK_DOWN && !p.flag TWN_STATUS_TIME_DISCORD &&
    !(p.tw.partner.any fun q => q.flags.testBit 1)

/-- SOR_STATUS.PAIR_ALIGNED (R564, R566, R752). -/
def Part.pairAligned (p : Part) : Bool := p.fg SOR_TRIG_SOURCE == 4 && p.pairShared

/-- Pair time (R751): device time plus the signed PAIR_OFFSET, of 64 bits. -/
def Part.pairTime (p : Part) : Nat := (p.time + p.fg TWN_PAIR_OFFSET_OFFSET) % 2 ^ 64

/-- The minimum trigger period (R560). -/
def Part.minPeriod (p : Part) : Nat :=
  if (List.range 8).any fun k => p.sorF (SOR_CONV_ENABLE k) == 1 && p.sorF (SOR_CONV_SCAN k) == 1 then 250 else 100

/-- The input that converter `k` converts at this trigger (R550), and the part with its scan moved on. -/
def Part.convInput (p : Part) (k : Nat) : Option Nat × Part :=
  if p.sorF (SOR_CONV_ENABLE k) = 0 || p.sor.busy.testBit k then (none, p)
  else if p.sorF (SOR_CONV_SCAN k) = 0 then (some (p.sorF (SOR_CONV_SELECT k)), p)
  else
    let m := p.sorF (SOR_CONV_SCAN_MASK k)
    let at' := Tab.get 0 k p.sor.scan
    let set := upTo 4 fun i => m.testBit i
    match (set.find? fun i => decide (at' ≤ i)) <|> set.head? with
    | none => (none, p)
    | some i => (some i, p.updSor fun x => { x with scan := Tab.put 0 k (i + 1) x.scan })

/-- All converters sample at one instant: word k of the answer, with the channel converted. -/
def Part.convertAll (p : Part) (tseq : Nat) (pins : List (Int × Int)) : List (Option (Nat × Nat)) × Part :=
  (List.range 8).foldl (fun (acc : List (Option (Nat × Nat)) × Part) k =>
    let (i, p) := acc.2.convInput k
    match i with
    | none => (acc.1 ++ [none], p)
    | some i =>
      let c := 4 * k + i
      let (w, p) := p.sampleWord c tseq pins
      (acc.1 ++ [some (c, w)], p.overRange c w)) ([], p)

/-- The words of the converted channels that `sel` picks; the others are zero. -/
def pickWords (ws : List (Option (Nat × Nat))) (sel : Nat → Bool) : List Nat :=
  ws.map fun w => match w with
    | some (c, x) => if sel c then x else 0
    | none => 0

/-- Whether any converted channel is picked. -/
def anyPicked (ws : List (Option (Nat × Nat))) (sel : Nat → Bool) : Bool :=
  ws.any fun w => w.any fun x => sel x.1

/-- The gateway's tokens of one trigger (R119, R120, R567, R569). -/
def Part.gatewayTrigger (p : Part) (ws : List (Option (Nat × Nat))) : Part :=
  let p := forIn' ws (fun w p => match w with | some (c, _) => p.gwConflicts c | none => p) p
  forN 32 (fun k p =>
    let won := fun c => p.gwWinner c == some k
    if anyPicked ws won then p.gwToken k (wordsPay (pickWords ws won)) else p) p

/-- The sample ring's plot (R570): the plot of its rank among its hedge's in its slice. -/
def Part.ringPlot (p : Part) (r : Nat) : Option Nat :=
  (p.plotsOf (p.fg (SOR_RING_CFG_HEDGE r)) (p.fg (SOR_RING_CFG_SLICE r)))[p.fg (SOR_RING_CFG_RANK r)]?

/-- One trigger for sample ring `r` (R572 to R574). The slice takes each record at once where it is UP, so a ring never holds one back (DESIGN CHOICE, notes/assumptions/21.md). -/
def Dev.sampleRing (d : Dev) (r tseq : Nat) (ws : List (Option (Nat × Nat))) : Dev :=
  let sel := fun c => (d.p.fg (SOR_RING_CH_CHANNELS r)).testBit c
  if !d.p.flag (SOR_RING_CFG_ENABLE r) || !anyPicked ws sel then d
  else
    match Tab.get none r d.p.sor.ringAt with
    | none => d
    | some j =>
      let n := Tab.get 0 r d.p.sor.dropped
      if !d.p.sliceUp (j / 36) then
        d.onP fun p => (p.incS (SOR_RING_LOST r)).updSor fun x => { x with dropped := Tab.put 0 r (min (n + 1) (2 ^ 32 - 1)) x.dropped }
      else
        let slot := tseq % 2 ^ d.p.fg (SOR_RING_CFG_SIZE_LOG2 r)
        let bytes := natLe 32 (wordsPay (pickWords ws sel)).toNat ++ natLe 4 tseq ++ natLe 4 n ++ natLe 8 d.p.time ++ List.replicate 16 0
        (d.writeMem (j * 2 ^ 30 + d.p.fg (SOR_RING_OFS_OFFSET r) + 64 * slot) bytes).onP fun p =>
          p.updSor fun x => { x with dropped := Tab.put 0 r 0 x.dropped }

/-- An accepted trigger (R562): the sequence number, the samples, and where they go; in Moss service they go nowhere (R586). -/
def Dev.accepted (d : Dev) (pins : List (Int × Int)) : Dev :=
  let p := d.p.addW SOR_TSEQ_TSEQ 1
  let p := p.updSor fun x => { x with last := some p.time }
  let tseq := p.fg SOR_TSEQ_TSEQ
  let (ws, p) := p.convertAll tseq pins
  if p.service < 2 then { d with p := p }
  else
    let d := { d with p := p.gatewayTrigger ws }
    forN 4 (fun r d => d.sampleRing r tseq ws) d

/-- A trigger of the source that is set (R559 to R561): none within 100 ns of a change, and none while the die is absent (R805); one that comes too soon is missed. -/
def Dev.trigger (d : Dev) (pins : List (Int × Int)) : Dev :=
  let p := d.p
  if !p.flag SOR_TRIG_ENABLE || !p.sor.rails || decide (p.time < (p.sor.changed.map (· + 100)).getD 0) then d
  else if (p.sor.last.any fun l => decide (p.time < l + p.minPeriod)) then d.onP fun p => p.incS SOR_TRIG_MISSED
  else d.accepted pins

/-- Whether a time meets the schedule of PERIOD and PHASE (R559). -/
def Part.scheduled (p : Part) (t : Nat) : Bool :=
  let per := p.fg SOR_TRIG_PERIOD_PERIOD
  per != 0 && (t + per - p.fg SOR_TRIG_PHASE_PHASE % per) % per == 0

/-- An edge of TRIG_IN (R559). -/
def Dev.trigEdge (d : Dev) (t : Nat) (rise : Bool) (pins : List (Int × Int)) : Dev :=
  let d := d.onP fun p => p.at t
  if d.p.fg SOR_TRIG_SOURCE = (if rise then 1 else 2) then d.trigger pins else d

/-- The own device time meets the schedule (R559, R566). -/
def Dev.trigPeriodic (d : Dev) (t : Nat) (pins : List (Int × Int)) : Dev :=
  let d := d.onP fun p => p.at t
  let src := d.p.fg SOR_TRIG_SOURCE
  if (src == 3 || (src == 4 && !d.p.pairAligned && !d.p.flag SOR_TRIG_PAIR_HOLD)) && d.p.scheduled d.p.time then d.trigger pins else d

/-- Pair time meets the schedule (R564). -/
def Dev.trigPair (d : Dev) (t : Nat) (pins : List (Int × Int)) : Dev :=
  let d := d.onP fun p => p.at t
  if d.p.pairAligned && d.p.scheduled d.p.pairTime then d.trigger pins else d

/-- SOR_STATUS.TRIG_RUNNING (R589). -/
def Part.trigView (p : Part) : Part :=
  p.setFlag SOR_STATUS_TRIG_RUNNING (p.flag SOR_TRIG_ENABLE && p.fg SOR_TRIG_SOURCE != 0)

/-- A write of SOR_TRIG (R561): reserved encodings of SOURCE are ignored (R17). -/
def Part.trigWrite (p : Part) (source : Nat) (enable hold : Bool) : Part :=
  let src := if source ≤ 5 then source else p.fg SOR_TRIG_SOURCE
  let change := src != p.fg SOR_TRIG_SOURCE || enable != p.flag SOR_TRIG_ENABLE
  let p := ((p.fs SOR_TRIG_SOURCE src).setFlag SOR_TRIG_ENABLE enable).setFlag SOR_TRIG_PAIR_HOLD hold
  let p := if change then p.updSor fun x => { x with changed := some p.time } else p
  p.trigView

/-- A period that R560 allows. -/
def Part.periodOk (p : Part) (per : Nat) : Bool := decide (p.minPeriod ≤ per ∧ per < 2 ^ 32)

/-! ### Ring and trim registers (R570, R571, R590) -/

/-- The CHANNELS of ring `r` without those that its HEDGE does not own (R571). -/
def Part.ringMask (p : Part) (r : Nat) : Part :=
  p.fs (SOR_RING_CH_CHANNELS r) (p.fg (SOR_RING_CH_CHANNELS r) &&& (p.hedge (p.fg (SOR_RING_CFG_HEDGE r))).channels)

/-- A write of SOR_RING_CFG_r (R570): one that sets ENABLE counts whole or not at all, and in another a reserved encoding keeps its field (R17).
A new HEDGE loses the channels that it does not own (R571; DEDUCED, notes/assumptions/104.md). -/
def Part.ringCfgWrite (p : Part) (r : Nat) (v : Word) : Part :=
  let x := v.toNat
  let rank := if bitsOfNat x 12 6 < 36 then bitsOfNat x 12 6 else p.fg (SOR_RING_CFG_RANK r)
  let size := if 6 ≤ bitsOfNat x 24 5 ∧ bitsOfNat x 24 5 ≤ 24 then bitsOfNat x 24 5 else p.fg (SOR_RING_CFG_SIZE_LOG2 r)
  if p.flag (SOR_RING_CFG_ENABLE r) then (if x.testBit 0 then p else p.setFlag (SOR_RING_CFG_ENABLE r) false)
  else
    let q := ((((p.fs (SOR_RING_CFG_HEDGE r) (bitsOfNat x 1 4)).fs (SOR_RING_CFG_SLICE r) (bitsOfNat x 8 3)).fs (SOR_RING_CFG_RANK r) rank).fs
      (SOR_RING_CFG_SIZE_LOG2 r) size).ringMask r
    if !x.testBit 0 then q
    else if rank == bitsOfNat x 12 6 && size == bitsOfNat x 24 5 && (q.ringPlot r).isSome && q.fg (SOR_RING_OFS_OFFSET r) % 64 == 0 &&
        decide (q.fg (SOR_RING_OFS_OFFSET r) + 64 * 2 ^ size ≤ 2 ^ 30) then
      (q.setFlag (SOR_RING_CFG_ENABLE r) true).updSor fun y => { y with ringAt := Tab.put none r (q.ringPlot r) y.ringAt }
    else p

/-- A write of SOR_RING_CH_r (R571). -/
def Part.ringChWrite (p : Part) (r : Nat) (ch : Nat) : Part :=
  p.fs (SOR_RING_CH_CHANNELS r) (ch &&& (p.hedge (p.fg (SOR_RING_CFG_HEDGE r))).channels)

/-- The life-cycle state (R660). -/
def Part.lifeCycle (p : Part) : Nat := p.fg LCH_LIFECYCLE_STATE

/-- The trims of converter `k` replaced, and its CAL_SELF bit (R584, R590). -/
def Part.setTrim (p : Part) (k g offset gain : Nat) : Part :=
  ((p.fs (SOR_TRIM_OFFSET k g) offset).fs (SOR_TRIM_GAIN k g) gain).fs ⟨SOR_STATUS, 8 + k, 1⟩ 1

/-- The factory trims are loaded (R583, R590). -/
def Part.loadTrims (p : Part) : Part :=
  let p := forN 8 (fun k p => forN 4 (fun g p => p.setReg (SOR_TRIM k g) (Tab.get 0 (SOR_TRIM k g) p.sor.factory)) p) p
  p.fs SOR_STATUS_CAL_SELF 0

/-- The Sorus rails are lost (R805). -/
def Part.sorusLost (p : Part) : Part := (p.refFall).updSor fun x => { x with rails := false }

/-- The Sorus rails are back, and settings and factory trims are loaded again (R805); the scans begin anew (DEDUCED, notes/assumptions/104.md). -/
def Part.sorusBack (p : Part) : Part :=
  if p.sor.rails then p
  else (p.updSor fun x => { x with rails := true, selAt := p.time, late := true, scan := [], last := none }).loadTrims

/-- A channel leaves hedge `h`: it leaves the CHANNELS of the hedge's rings (R571). -/
def Part.ringsLoseChannels (p : Part) (h : Nat) : Part :=
  forN 4 (fun r p => if p.fg (SOR_RING_CFG_HEDGE r) = h then p.ringMask r else p) p

/-- Plot `j` leaves its hedge: a ring that lies in it stops (R575). -/
def Part.ringsLosePlot (p : Part) (j : Nat) : Part :=
  forN 4 (fun r p => if p.flag (SOR_RING_CFG_ENABLE r) && Tab.get none r p.sor.ringAt == some j then p.setFlag (SOR_RING_CFG_ENABLE r) false else p) p

/-! ### Meanings -/

/-- TRIG_IN_EDGE (R562). -/
def execTrigInEdge (t : Nat) (rise : Bool) (pins : List (Int × Int)) (s : State) : Host.Outcome State Fault Refusal :=
  onDev (fun d => d.trigEdge t rise pins) s

/-- PERIODIC_TRIGGER (R559). -/
def execPeriodicTrigger (t : Nat) (pins : List (Int × Int)) (s : State) : Host.Outcome State Fault Refusal :=
  onDev (fun d => d.trigPeriodic t pins) s

/-- PAIR_TRIGGER (R564). -/
def execPairTrigger (t : Nat) (pins : List (Int × Int)) (s : State) : Host.Outcome State Fault Refusal :=
  onDev (fun d => d.trigPair t pins) s

/-- SOFTWARE_TRIGGER (R559): a write of 1 to SOR_TRIG_SW.FIRE at device time `t`. -/
def execSoftwareTrigger (t : Nat) (pins : List (Int × Int)) (s : State) : Host.Outcome State Fault Refusal :=
  blockDev 8 (True) (fun d => let d := d.onP fun p => p.at t
    if !d.p.sor.rails then d.onP fun p => p.sorusAbsent false SOR_TRIG_SW 4 true
    else if d.p.fg SOR_TRIG_SOURCE = 5 then d.trigger pins else d) s

/-- REF_SETTLE (R555). -/
def execRefSettle (t refin avdd : Nat) (s : State) : Host.Outcome State Fault Refusal := onPart (fun p => p.refSettle t refin avdd) s

/-- REF_WINDOW_LOSS (R555). -/
def execRefWindowLoss (refin avdd : Nat) (s : State) : Host.Outcome State Fault Refusal := onPart (fun p => p.refLoss refin avdd) s

/-- REF_SETTLE_TIMEOUT (R556). -/
def execRefSettleTimeout (t : Nat) (s : State) : Host.Outcome State Fault Refusal := onPart (fun p => p.refTimeout t) s

/-- SOR_CTRL_WRITE (R555). -/
def execSorCtrlWrite (sel : Nat) (s : State) : Host.Outcome State Fault Refusal := sorusPart SOR_CTRL (True) (fun p => p.refSelect sel) s

/-- SOR_TRIG_WRITE (R561). -/
def execSorTrigWrite (source : Nat) (enable hold : Bool) (s : State) : Host.Outcome State Fault Refusal :=
  sorusPart SOR_TRIG (True) (fun p => p.trigWrite source enable hold) s

/-- SOR_CHANNEL_WRITE (R553, R576, R581): a write of SOR_CH_c; the reserved direction 3 keeps its field (R17). -/
def execSorChannelWrite (c range mag owP owN : Nat) (s : State) : Host.Outcome State Fault Refusal :=
  sorusPart (SOR_CH c) (True) (fun p =>
    let old := p.reg (SOR_CH c)
    let dir := fun (v lo : Nat) => if v % 4 < 3 then v else getBits old lo 2
    let v := setBits (setBits (setBits (setBits old 0 2 range) 2 2 mag) 4 2 (dir owP 4)) 6 2 (dir owN 6)
    if c < 32 then p.sorWrite (SOR_CH c) (c / 4) v else p) s

/-- SOR_RING_CFG_WRITE (R570). -/
def execSorRingCfgWrite (r : Nat) (v : Word) (s : State) : Host.Outcome State Fault Refusal := sorusPart (SOR_RING_CFG r) (r < 4) (fun p => p.ringCfgWrite r v) s

/-- SOR_RING_CH_WRITE (R571). -/
def execSorRingChWrite (r ch : Nat) (s : State) : Host.Outcome State Fault Refusal := sorusPart (SOR_RING_CH r) (r < 4) (fun p => p.ringChWrite r ch) s

/-- SOR_TRIM_WRITE (R590): taken in MAINTENANCE and PROVISIONED. -/
def execSorTrimWrite (k g offset gain : Nat) (s : State) : Host.Outcome State Fault Refusal :=
  sorusPart (SOR_TRIM k g) (k < 8 ∧ g < 4) (fun p => if p.lifeCycle = 4 ∨ p.lifeCycle = 2 then p.setTrim k g offset gain else p) s

/-- CLR_MISSED (R589). -/
def execClrMissed (coin : Nat) (s : State) : Host.Outcome State Fault Refusal := sorusPart SOR_CLEAR (True) (fun p => p.clrHit SOR_TRIG_MISSED (coin.testBit 0)) s

/-- CLR_RING (R589). -/
def execClrRing (coin : Nat) (s : State) : Host.Outcome State Fault Refusal := sorusPart SOR_CLEAR (True) (fun p => forN 4 (fun r p => p.clrHit (SOR_RING_LOST r) (coin.testBit r)) p) s

/-- SORUS_RAILS_LOST (R805). -/
def execSorusRailsLost (s : State) : Host.Outcome State Fault Refusal := onPart (fun p => p.sorusLost) s

/-- SORUS_RAILS_RETURN (R805). -/
def execSorusRailsReturn (s : State) : Host.Outcome State Fault Refusal := onPart (fun p => p.sorusBack) s

end Sys2Proof.Machine
end

