-- ==== Sys2Proof/Machine/TwinCore.lean ====
section
/-!
DEFINITION. Sys2Proof/Machine/TwinCore.lean: roles, terms, the pair digest, the conditions of PARTNER_LOST and the records of twin payload frames (R725 to R746).
-/

namespace Sys2Proof.Machine

open Sys2Proof

/-- A change to the twin function. -/
def Part.updTwin (p : Part) (f : Twin → Twin) : Part := { p with tw := f p.tw }

/-- The twin role (R725): 0 SOLO, 1 PRIMARY, 2 STANDBY, 3 UNPAIRED. -/
def Part.role (p : Part) : Nat := p.fg TWN_STATUS_ROLE

/-- MODE (R728): 0 SOLO, 1 MIRROR, 2 LOCKSTEP. -/
def Part.twinMode (p : Part) : Nat := p.fg TWN_STATUS_MODE

/-- The hedges under OP 2 of TWIN_MIRROR (R729). -/
def Part.mirroredHedges (p : Part) : List Nat := upTo 16 fun h => p.tw.mirrored.testBit h

/-- A twin event to the operator ring (R763). -/
def Part.twinEvent (p : Part) (code detail : Nat) : Part := p.raiseOp 0x0E00 code none detail

/-- A twin event to the operator ring and to the ring of each mirrored hedge (R763). -/
def Part.twinEventAll (p : Part) (code detail : Nat) : Part := p.raise 0x0E00 code none detail (p.mirroredHedges ++ [opRing])

/-! ### The pair digest (R731) -/

/-- The bytes that the pair digest covers; each item has the width that its command gives it (DEDUCED, notes/assumptions/24.md). -/
def Part.digestBytes (p : Part) : List Byte :=
  natLe 1 p.twinMode ++ natLe 4 p.tw.epochUs ++ natLe 4 p.tw.limitNs ++
  ((List.range 64).flatMap fun r => match p.mirRegion r with
    | some (j, o, n, h) => natLe 1 h ++ natLe 2 j ++ natLe 8 o ++ natLe 8 n
    | none => List.replicate 19 0) ++
  (p.mirroredHedges.flatMap fun h =>
    natLe 1 h ++ (((p.hedge h).image.map (·.digest)).getD (List.replicate 32 0)) ++
    ((p.qpsOf h).flatMap fun q => natLe 2 q ++ natLe 4 (p.qp q).sqSize ++ natLe 4 (p.qp q).cqSize)) ++
  natLe 1 (p.fg SOR_TRIG_SOURCE) ++ natLe 4 (p.fg SOR_TRIG_PERIOD_PERIOD) ++ natLe 4 (p.fg SOR_TRIG_PHASE_PHASE)

/-- The pair digest. -/
def Part.pairDigest (p : Part) : List Byte := sha256 p.digestBytes

/-! ### Roles and terms (R725 to R727) -/

/-- The term. -/
def Part.term (p : Part) : Nat := p.fg LCH_TERM_TERM

/-- The core domain writes a term to NVM (R726). -/
def Part.writeTerm (p : Part) (t : Nat) : Part := (p.fs LCH_TERM_TERM t).nvmWrite

/-- The term that a part taking PRIMARY sets (R726). -/
def Part.nextTerm (p : Part) : Nat := (max p.term p.tw.partnerTerm + 1) % 2 ^ 32

/-- A map of the twin port's DCC-P is suspended while the role is PRIMARY or STANDBY (R710). -/
def Part.dccSuspend (p : Part) : Part :=
  forN 4 (fun d p => p.setFlag (FRM_DCC_SUSPENDED d)
    (p.flag (FRM_DCC_ENABLE d) && p.fg (FRM_DCC_PORT d) == 0 && p.flag (FRM_DCC_CHANNEL d) && (p.role == 1 || p.role == 2))) p

/-- The part takes a role, with the cause of R763; the staleness timer restarts and the loop follows (R602, R603). -/
def Part.setRole (p : Part) (role cause : Nat) : Part :=
  let old := p.role
  if old = role then p
  else
    let p := p.fs TWN_STATUS_ROLE role
    let p := if role = 2 then p else p.setFlag TWN_STATUS_SYNCED false
    let p := ((p.twinEvent 0x0E06 (role + old * 4 + cause * 2 ^ 8 + p.term * 2 ^ 32)).staleRestart).loopSettle
    p.dccSuspend

/-- Nothing of an earlier pair waits in the twin port: the next payload sets the expectation (DEDUCED, notes/assumptions/26.md). -/
def Part.twinPortFresh (p : Part) : Part :=
  { p with den := { p.den with framers := Tab.upd {} 0 (fun f => { f with
      expect := none, replay := false, hist := [], resend := none, replaySeen := false }) p.den.framers } }

/-- The pair is dissolved on this part: what was under way with the partner ends, a TWIN_RESYNC with STATE. -/
def Part.unpair (p : Part) : Part :=
  let p := match p.tw.resync with
    | some m => (p.updTwin fun t => { t with resync := none }).mbxEnd m stState []
    | none => p
  (p.updTwin fun t => { t with
    formed := false, copy := false, outbox := [], inbox := [], heldRecs := [], gotGranules := 0, gotQueues := 0
    synced1 := false, badRounds := 0, goodRounds := 0, differ := none, thetas := [], mine := [], theirs := [] }).setFlag TWN_STATUS_TIME_DISCORD false
  |>.twinPortFresh

/-- A role change that waits for its term is given up; its command ends with STATE (DEDUCED, notes/assumptions/107.md). -/
def Part.promoteDrop (p : Part) : Part :=
  match p.tw.promote with
  | none => p
  | some pr =>
    let p := p.updTwin fun t => { t with promote := none }
    match pr.mbx with
    | some m => p.mbxEnd m stState []
    | none => p

/-- Mirrored content is lost: SYNCED falls, which asks the primary for a full copy (R745, R748). -/
def Part.standbyLost (p : Part) : Part := if p.role = 2 then p.setFlag TWN_STATUS_SYNCED false else p

/-- The part becomes UNPAIRED and keeps its data (R738). -/
def Part.becomeUnpaired (p : Part) (cause : Nat) : Part :=
  (((p.promoteDrop.unpair).setFlag TWN_STATUS_HOLD false).fs TWN_STATUS_REQUEST 0).setRole 3 cause

/-! ### Heartbeats, the fence and PARTNER_LOST (R739, R740, R756 to R759) -/

/-- PARTNER_LOST with its cause: 0 PARTNER, 1 LINK, 2 FENCE (R763). -/
def Part.partnerLost (p : Part) (cause : Nat) : Part :=
  let bit (b : Bool) (n : Nat) := if b then 2 ^ n else 0
  p.twinEvent 0x0E08 (cause + bit p.tw.planned 2 + bit (p.flag TWN_STATUS_SYNCED) 3 + p.tw.partnerTerm * 2 ^ 32)

/-- The conditions of R740 as they now stand: an entry into one raises its event; cause PARTNER begins the hold on a STANDBY (R756), and ends the pair on any other part. -/
def Part.partnerCheck (p : Part) (wasMissing wasAbsent : Bool) : Part :=
  let m := p.tw.missing
  let a := p.tw.fenceAbsent
  let p := (p.setFlag TWN_STATUS_LINK_DOWN (m && !a)).setFlag TWN_STATUS_FENCE_FAULT (a && !m)
  if m = wasMissing ∧ a = wasAbsent then p
  else if m && a then
    let p := p.partnerLost 0
    if p.role = 2 then (p.setFlag TWN_STATUS_HOLD true).updTwin fun t => { t with holdAt := p.time } else p.unpair
  else if m then p.partnerLost 1
  else if a then p.partnerLost 2
  else p

/-- A frame with a good OH_CRC brought a heartbeat value (R740); a new one ends a hold (R758). -/
def Part.heartbeatIn (p : Part) (v : Nat) : Part :=
  if p.tw.beat = some v then p
  else
    let was := p.tw.missing
    let p := p.updTwin fun t => { t with beat := some v, beatAt := some p.time, missing := false }
    let p := if was then p.setFlag TWN_STATUS_HOLD false else p
    p.partnerCheck was p.tw.fenceAbsent

/-! ### Records (R743) -/

/-- A unit of 64 bytes from fields at offsets. -/
def unitOf (fields : List (Nat × List Byte)) : List Byte :=
  fields.foldl (fun u f => putBytes u f.1 f.2) (List.replicate 64 0)

/-- The number of units of a record, by its header unit; 0 where its TYPE ends the records. -/
def recUnits (u : List Byte) : Nat :=
  match bytesAt u 0 1 with
  | 1 => 1 + bytesAt u 1 1
  | 2 => 1 + bytesAt u 1 1
  | 3 => 1
  | 4 => 1
  | 5 => 1
  | _ => 0

/-- The records of a twin payload, in order. -/
def payloadRecords : Nat → List Byte → List (List Byte)
  | 0, _ => []
  | fuel + 1, bs =>
    let n := 64 * recUnits bs
    if n = 0 ∨ bs.length < n then [] else bs.take n :: payloadRecords fuel (bs.drop n)

/-- The records that fill one frame of 128 units, and what is left. -/
def packRecords : Nat → List Byte → List (List Byte) → List Byte × List (List Byte)
  | 0, acc, l => (acc, l)
  | fuel + 1, acc, l =>
    match l with
    | [] => (acc, [])
    | r :: rest => if acc.length + r.length ≤ 8192 then packRecords fuel (acc ++ r) rest else (acc, l)

end Sys2Proof.Machine
end

