-- ==== Sys2Proof/Machine/Frames.lean ====
section
/-!
DEFINITION. Sys2Proof/Machine/Frames.lean: the Denben frame byte by byte: alignment word, scrambler, BIP, lane words, and the frame that a transmitter builds (R679 to R687, R698, R732, R733).
-/

namespace Sys2Proof.Machine

open Sys2Proof

/-- The number of ones of a number below 2^n. -/
def ones (n x : Nat) : Nat := (upTo n (x.testBit ·)).length

/-- The frame alignment word (R681), as its eight bytes. -/
def fawBytes : List Byte := [0x3A, 0xD5, 0x96, 0x0F, 0x7C, 0xE1, 0x24, 0xB9]

/-- The bits in which a frame's first eight bytes differ from the FAW (R689). -/
def fawErrors (bs : List Byte) : Nat := ones 64 (bytesAt bs 0 8 ^^^ leNat fawBytes)

/-! ### Scrambler (R682) -/

/-- One byte of the sequence of x^31 + x^28 + 1 from state `s`, its first bit in bit 0, and the state after it.
The sequence is what the last stage holds (DEDUCED, notes/assumptions/25.md). -/
def scrByte : Nat → Nat → Nat → Nat × Nat
  | 0, _, s => (0, s)
  | n + 1, i, s =>
    let out := s / 2 ^ 30 % 2
    let next := (2 * s + (out + s / 2 ^ 27) % 2) % 2 ^ 31
    let (b, s') := scrByte n (i + 1) next
    (out * 2 ^ i + b, s')

/-- Bytes combined with the sequence from state `s`. -/
def scrFrom : Nat → List Byte → List Byte
  | _, [] => []
  | s, b :: t =>
    let (k, s') := scrByte 8 0 s
    (b ^^^ BitVec.ofNat 8 k) :: scrFrom s' t

/-- A frame scrambled, or descrambled: bytes 0x48 and later, from all ones. -/
def scramble (bs : List Byte) : List Byte := bs.take 0x48 ++ scrFrom (2 ^ 31 - 1) (bs.drop 0x48)

/-! ### BIP (R686) -/

/-- The XOR of the 16-bit units of a frame as it was transmitted. -/
def bip16 : List Byte → Nat
  | a :: b :: t => (a.toNat + 256 * b.toNat) ^^^ bip16 t
  | _ => 0

/-! ### Lanes and lane words (R677 to R685) -/

/-- The lanes of a mask, lowest first. -/
def lanesIn (m : Nat) : List Nat := upTo 8 (m.testBit ·)

/-- The mask of a list of lanes. -/
def maskOf (l : List Nat) : Nat := l.foldl (fun m i => m ||| 2 ^ i) 0

/-- The mask of the lowest `n` lanes of a mask. -/
def lowLanes (n m : Nat) : Nat := maskOf ((lanesIn m).take n)

/-- Lane marker `j` of frame number `fn` (R684). -/
def laneMarker (fn j : Nat) : Nat := 0xE25A * 2 ^ 16 + fn * 2 ^ 8 + j

/-- A lane control word (R685). -/
structure LaneCtrl where
  op : Nat
  width : Nat
  lanes : Nat
  good : Nat
  token : Nat
  primary : Bool
  retrain : Bool
  switch : Bool
  deriving DecidableEq, Repr

/-- The fields of a lane control word. -/
def readCtrl (w : Nat) : LaneCtrl where
  op := bitsOfNat w 0 2
  width := bitsOfNat w 2 2
  lanes := bitsOfNat w 4 8
  good := bitsOfNat w 12 8
  token := bitsOfNat w 20 4
  primary := w.testBit 24
  retrain := w.testBit 25
  switch := w.testBit 26

/-- The word of lane control fields. -/
def LaneCtrl.word (c : LaneCtrl) : Nat :=
  c.op + c.width * 2 ^ 2 + c.lanes * 2 ^ 4 + c.good * 2 ^ 12 + c.token * 2 ^ 20 +
    c.primary.toNat * 2 ^ 24 + c.retrain.toNat * 2 ^ 25 + c.switch.toNat * 2 ^ 26

/-! ### Framers -/

/-- Framer `k`. -/
def Part.frm (p : Part) (k : Nat) : Framer := Tab.get {} k p.den.framers

/-- Framer `k` with a change. -/
def Part.updFrm (p : Part) (k : Nat) (f : Framer → Framer) : Part :=
  { p with den := { p.den with framers := Tab.upd {} k f p.den.framers } }

/-- The mask of standing defects, by the bit order of R695. -/
def Part.defects (p : Part) (k : Nat) : Nat := p.fg (FRM_STATUS_DEFECTS k)

/-- Whether the receiver has dLOS, dLOL, dLOF or dLOM. -/
def Part.rxDown (p : Part) (k : Nat) : Bool := p.defects k % 16 != 0

/-! ### DCC (R705, R709 to R712, R732, R733) -/

/-- The channel whose byte a frame carries (R705): 0 DCC-L, 1 DCC-P. -/
def dccOf (fn : Nat) : Option Nat := if fn % 16 = 0 then some 0 else if fn % 4 = 0 then some 1 else none

/-- The place of a DCC-P byte in its 48-byte message slot (R732). -/
def slotIdx (mfc fn : Nat) : Nat := mfc % 4 * 12 + fn / 16 * 3 + fn % 16 / 4 - 1

/-- Whether the management processor uses DCC-P of the twin port (R710, R732). -/
def Part.twinDcc (p : Part) (k ch : Nat) : Bool := k == 0 && ch == 1 && p.twinMode != 0

/-- The serial port that carries a channel now, unless its map is suspended (R709, R710). -/
def Part.dccPort (p : Part) (k ch : Nat) : Option Nat :=
  (upTo 4 fun d => Tab.get none d p.den.live == some (k, ch) && !p.flag (FRM_DCC_SUSPENDED d)).head?

/-- The STATUS message (R733). -/
def Part.statusMsg (p : Part) : List Byte :=
  let m := [1, 2, 1, BitVec.ofNat 8 (p.role + p.fg TWN_STATUS_REQUEST * 16)] ++ natLe 4 p.term ++ p.pairDigest ++
    [BitVec.ofNat 8 (p.fg TWN_STATUS_SYNCED + 2 * p.fg TWN_STATUS_TIME_DISCORD + 4 * p.fg TWN_STATUS_HOLD)] ++ List.replicate 3 0
  m ++ natLe 4 (crc32c m)

/-- The LOOP message (R733, R735). -/
def Part.loopMsg (p : Part) : List Byte :=
  let valid := p.role == 1 && p.tw.srcValid && p.flag LCH_LOOP_STATUS_LOOP_PRESENT
  let m := [2, if valid then 1 else 0] ++ natLe 2 p.tw.srcUa ++ natLe 4 p.tw.srcSeq ++
    natLe 8 ((p.loop.pv.map BitVec.toNat).getD 0x7FA00000) ++ natLe 8 (p.fg TWN_PAIR_OFFSET_OFFSET) ++ List.replicate 20 0
  m ++ natLe 4 (crc32c m)

/-- The byte that a channel sends in frame `fn` of multiframe `mfc`, and the part with it taken. -/
def Part.dccOut (p : Part) (k ch mfc fn : Nat) : Nat × Part :=
  if p.twinDcc k ch then
    let i := slotIdx mfc fn
    let p := if i = 0 then p.updTwin fun t => { t with sending := if mfc / 4 % 2 = 0 then p.statusMsg else p.loopMsg } else p
    ((p.tw.sending.getD i 0).toNat, p)
  else match p.dccPort k ch with
    | none => (0, p)
    | some d =>
      match Tab.get [] d p.den.fromRxd with
      | [] => (0, p)
      | b :: rest => (b.toNat, { p with den := { p.den with fromRxd := Tab.put [] d rest p.den.fromRxd } })

/-! ### The frame that is sent (R683, R694, R698) -/

/-- The payload of a stream port frame (R698). -/
def streamPayload (ts : List Tok) : List Byte :=
  let tags := ts.flatMap fun t => natLe 2 (tokTag { t with hedge := 0 })
  natLe 2 ts.length ++ List.replicate 30 0 ++ tags ++ List.replicate (480 - tags.length) 0 ++
    ts.flatMap (fun t => payBytes t.pay) ++ List.replicate (7680 - 32 * ts.length) 0

/-- The tokens of a stream port payload, kinds as they came; none where COUNT exceeds 240. -/
def streamTokens (pay : List Byte) : Option (List (Nat × Nat × Payload)) :=
  let n := bytesAt pay 0 2
  if n > 240 then none
  else some ((List.range n).map fun s =>
    let tag := bytesAt pay (0x20 + 2 * s) 2
    (bitsOfNat tag 4 8, bitsOfNat tag 12 4, bytesPay ((pay.drop (0x200 + 32 * s)).take 32)))

/-- The epoch that the overhead carries (R745). -/
def Part.ohEpoch (p : Part) : Nat := if p.role = 1 then p.fg TWN_EPOCH_EPOCH else if p.role = 2 then p.tw.ack else 0

/-- The overhead of bytes 0x48 to 0xFB and its CRC (R683); `planned` sets PLANNED_RESET (R337). -/
def Part.overhead (p : Part) (k : Nat) (fill planned : Bool) (psn dccL dccP : Nat) (pay : List Byte) : List Byte :=
  let f := p.frm k
  let flags := p.fg (FRM_CTRL_FORCE_AIS k) + 2 * (p.rxDown k).toNat + 4 * fill.toNat + 8 * planned.toNat + 16 * f.replay.toNat
  let tw (x : Nat) := if k = 0 then x else 0
  let o := natLe 1 f.fn ++ natLe 1 flags ++ natLe 2 f.bip ++ natLe 4 f.mfc ++ natLe 1 (if p.rxDown k then 0 else f.rei) ++
    List.replicate 3 0 ++ natLe 4 psn ++ natLe 4 (f.expect.getD 0) ++ natLe 4 (crc32c pay) ++ natLe 8 p.ep.serial ++
    natLe 4 (tw p.tw.heartbeat) ++ natLe 4 (tw p.ohEpoch) ++ natLe 4 (tw p.term) ++ List.replicate 4 0 ++
    natLe 8 p.time ++ natLe 8 f.echoTx ++ natLe 8 f.echoRx ++ natLe 1 dccL ++ natLe 1 dccP
  let o := o ++ List.replicate (0xB4 - o.length) 0
  o ++ natLe 4 (crc32c o)

/-- The lane control that framer `k` sends now. -/
def Part.ctrlOut (p : Part) (k : Nat) : LaneCtrl :=
  let f := p.frm k
  ⟨f.op, f.opW, f.opL, p.fg (FRM_LANES_GOOD k), f.token, k == 0 && p.role == 1, decide (0 < f.retrainSend), f.switchTx⟩

/-- A whole frame as it is transmitted. -/
def Part.frameOf (p : Part) (k : Nat) (fill planned : Bool) (psn dccL dccP : Nat) (pay : List Byte) : List Byte :=
  let f := p.frm k
  let w := natLe 4 (p.ctrlOut k).word
  scramble (fawBytes ++ (List.range 8).flatMap (fun j => natLe 4 (laneMarker f.fn j)) ++ (List.range 8).flatMap (fun _ => w) ++
    p.overhead k fill planned psn dccL dccP pay ++ pay)

end Sys2Proof.Machine
end

