-- ==== Sys2Proof/Machine/Atomics.lean ====
section
/-!
DEFINITION. Sys2Proof/Machine/Atomics.lean: inbound BAR2 and ROM accesses, AtomicOps, exclusive sequences, and target timeouts (R213 to R219, R318, R484 to R513).
-/

namespace Sys2Proof.Machine

open Sys2Proof

/-! ### BAR2 (R216 to R219, R484 to R486) -/

/-- Plot-map entries of a BAR2 window (R216, R217, R312). -/
def Part.bar2Entries (p : Part) (f : Nat) : Nat := if f = 0 then [16, 64, 256].getD p.ep.bar2Code 16 else 16

/-- The memory address of a BAR2 offset, where its plot-map entry is VALID. -/
def Part.bar2Map (p : Part) (f off : Nat) : Option Nat :=
  let e := off / 2 ^ 30
  let (v, j) := if f = 0 then (p.flag (SLC_PMAP_PF_VALID e), p.fg (SLC_PMAP_PF_PLOT e))
    else (p.flag (SLC_PMAP_VF_VALID f e), p.fg (SLC_PMAP_VF_PLOT f e))
  if v then some (j * 2 ^ 30 + off % 2 ^ 30) else none

/-- Why an access through BAR2 fails before it reaches a granule (R218, R484), or its memory address. -/
def Part.bar2Check (p : Part) (f off : Nat) (poisoned : Bool) : Nat ⊕ Nat :=
  match p.bar2Map f off with
  | none => .inl 1
  | some a => if !p.sliceUp (sliceOf a) then .inl 2 else if poisoned then .inl 5 else .inr a

/-- Whether the inbound non-posted buffer takes one more request (R476 to R478): what waits there are AtomicOps and reads, each with an outbound completion entry reserved; a request that finds it full has no credit to arrive (DEDUCED, notes/assumptions/95.md). -/
def Part.inboundRoom (p : Part) : Bool :=
  decide ((p.hs.br.waiting.filter fun r => match r with
    | .atomic _ | .read _ _ _ _ => true
    | _ => false).length < 128)

/-- Whether an access of `n` bytes at memory address `a` waits (R496, R497): an AtomicOp locks a granule of it, or an earlier access to one is held. -/
def Part.granWaits (p : Part) (a n : Nat) : Bool :=
  p.granHeld a n || p.hs.br.waiting.any fun r => match r with
    | .write _ o _ _ bs => decide (o / 64 * 64 < a + n ∧ a / 64 * 64 < o + bs.length)
    | .atomic r => (match p.bar2Map r.fn r.off with
      | some o => decide (o / 64 * 64 < a + n ∧ a / 64 ≤ o / 64)
      | none => false)
    | _ => false

/-- Whether a host read of BAR2 waits: a granule of it is held, or an earlier posted write of its function is (R482, R496). -/
def Part.bar2ReadWaits (p : Part) (f off len : Nat) : Bool :=
  (p.hs.br.waiting.any fun r => match r with
    | .write fn _ _ _ _ => fn == f
    | _ => false) ||
  match p.bar2Map f off with
  | some a => p.granWaits a len
  | none => false

/-- A host read of BAR2 (R219, R229, R482, R496): a write that no AtomicOp holds is performed as it arrives. -/
def Dev.bar2Read (d : Dev) (f off len rid : Nat) : Dev :=
  if !d.p.fnReach f || !d.p.inboundRoom then d
  else if !d.p.accessOpen f || decide (d.p.bar2Entries f * 2 ^ 30 < off + len) then d.onP fun p => p.emit (.completion f cplUr [])
  else if d.p.bar2ReadWaits f off len then d.onP fun p => p.holdReq (.read f off len rid)
  else
  let d := d.onP fun p => p.observeBar2 f off
  match d.p.bar2Check f off false with
    | .inl r => d.onP fun p => (p.inboundFail f 2 off rid 0 r).failedRead f 1 len
    | .inr a =>
      let (bs, ok, d) := d.readMem a len
      d.onP fun p => if ok then p.emit (.completion f cplOk bs) else (p.inboundFail f 2 off rid 0 3).failedRead f 1 len

/-- Poisoned TLP Received in AER of function `f` (R486). -/
def Part.logPoisonedTlp (p : Part) (f : Nat) : Part := p.cfgSet f (aerOff + 4) (1 <<< 12)

/-- A host write of BAR2 (R218, R486): performed, or discarded whole. -/
def Dev.bar2Write (d : Dev) (f off : Nat) (bs : List Byte) (poisoned : Bool) (rid : Nat) : Dev :=
  if !d.p.accessOpen f || decide (d.p.bar2Entries f * 2 ^ 30 < off + bs.length) then d
  else
  let d := d.onP fun p => p.observeBar2 f off
  match d.p.bar2Check f off poisoned with
    | .inl r => d.onP fun p => let p := p.inboundFail f 2 off rid 1 r
                               if r = 5 then p.logPoisonedTlp f else p
    | .inr a => if d.p.granWaits a bs.length then d.onP fun p => p.holdReq (.write f a off rid bs) else d.writeMem a bs

/-! ### The expansion ROM (R318, R319) -/

/-- What R318 fixes of the ROM image's first bytes: the signature, and the PCIR structure with the part's IDs, class code, code type and last-image indicator, where the image places it (DEDUCED, notes/assumptions/19.md). -/
def romFixed : Tab (Option Nat) :=
  let at_ := 28 + 4 * (Config.pcirPlace % 16000)
  let put := fun (o : Nat) (bs : List Nat) => bs.zipIdx.map fun x => (o + x.2, some x.1)
  put 0 [0x55, 0xAA] ++ put 0x18 [at_ % 256, at_ / 256] ++
  put at_ [0x50, 0x43, 0x49, 0x52, 0x5A, 0x1D, 0x60, 0x72] ++ put (at_ + 0x0D) [0x00, 0x00, 0x12] ++ put (at_ + 0x14) [0x03, 0x80]

/-- What R529 fixes of the factory header: MAGIC, HDR_VERSION, and the reserved bytes. -/
def headerFixed (i : Nat) : Option Nat :=
  if i < 6 then some ([0x59, 0x4C, 0x47, 0x59, 1, 0].getD i 0)
  else if i = 7 ∨ (0x18 ≤ i ∧ i < 0x20) ∨ (0x50 ≤ i ∧ i < 0x80) ∨ (0xE0 ≤ i ∧ i < 0x100) then some 0
  else none

/-- A byte of the window. -/
def Part.romRead (p : Part) (off : Nat) : Byte :=
  if 0xF0000 ≤ off ∧ off < 0xFE000 ∨ 0xFE100 ≤ off ∧ off < 0xFF000 then 0xFF
  else if 0xFF000 ≤ off then
    let i := off - 0xFF000
    if i = 6 ∨ 16 ≤ i then 0 else BitVec.ofNat 8 (p.ident.getD i 0)
  else match Tab.get none off p.ep.rom with
    | some b => BitVec.ofNat 8 b
    | none =>
      match if 0xFE000 ≤ off then headerFixed (off - 0xFE000) else ((romFixed.find? fun e => e.1 == off).map (·.2)).getD none with
      | some b => BitVec.ofNat 8 b
      | none => Config.romByte off

/-- Whether a push is writing the ROM area: its image has been read and authenticated (R319, R781). -/
def Part.romBusy (p : Part) : Bool := p.boot.push.any fun w => w.slot == 2 && w.img.isSome

/-- A read through the expansion ROM window (R318, R319, R507): from stage S2, while ROM Enable and Memory Space Enable are set. -/
def Part.romAccess (p : Part) (off len rid : Nat) : Part :=
  if !p.inboundRoom then p
  else if !p.accessOpen 0 || p.ep.crs || !(p.cfgRead 0 0x30).testBit 0 || decide (2 ^ 20 < off + len) then p.emit (.completion 0 cplUr [])
  else if p.romBusy then
    ((p.bridgeFail 1 ⟨p.barBase 0 6 + off, rid, none, 0, false, none, 2⟩).inboundFail 0 6 off rid 0 6).emit (.completion 0 cplOk (List.replicate len 0xFF))
  else p.emit (.completion 0 cplOk ((List.range len).map fun i => p.romRead (off + i)))

/-! ### AtomicOps (R495 to R499) -/

/-- The result of an atomic operation on `width` bytes: 0 FetchAdd, 1 Swap, 2 CAS. -/
def atomicNew (op width old operand compare : Nat) : Nat :=
  let m := 2 ^ (8 * width)
  match op with
  | 0 => (old + operand) % m
  | 1 => operand % m
  | _ => if old = compare % m then operand % m else old

/-- Whether a PCIe AtomicOp of a kind and width exists (R495). -/
def atomicLegal (op width : Nat) : Bool := (decide (op ≤ 2) && (width == 4 || width == 8)) || (op == 2 && width == 16)

/-- An atomic operation on a granule of the stacks (R495, R498): the original value, unless the granule is bad. -/
def Dev.atomicMem (d : Dev) (a op width operand compare : Nat) : Option Nat × Dev :=
  let (bs, ok, d) := d.readMem a width
  if !ok then (none, d)
  else
    let old := leNat bs
    let new := atomicNew op width old operand compare
    let d := if new = old then d else d.writeMem a (natLe width new)
    (some old, d.onP fun p => p.addW HBR_ATOMICS_TOTAL 1)

/-- An AtomicOp runs: its granule is locked until the write-back ends (R495, R496). -/
def Dev.atomicGo (d : Dev) (r : AtomicReq) : Dev :=
  let d := d.onP fun p => p.observeBar2 r.fn r.off
  match d.p.bar2Check r.fn r.off r.poisoned with
  | .inl n => d.onP fun p => let p := (p.inboundFail r.fn 2 r.off r.rid 2 n).failedRead r.fn 1 r.width
                             if n = 5 then p.logPoisonedTlp r.fn else p
  | .inr a =>
    match d.atomicMem a r.op r.width r.operand r.compare with
    | (none, d) => d.onP fun p => (p.inboundFail r.fn 2 r.off r.rid 2 3).failedRead r.fn 1 r.width
    | (some old, d) => d.onP fun p =>
      ((p.updBr fun b => { b with locked := b.locked ++ [a / 64] }).emit (.completion r.fn cplOk (natLe r.width old))).semView

/-- Whether an AtomicOp must wait: its granule is locked, an earlier access to it or a posted write of its function is held, or every entry is in use (R482, R496, R497). -/
def Part.atomicWaits (p : Part) (r : AtomicReq) : Bool :=
  decide (60 ≤ p.hs.br.locked.length) ||
  p.bar2ReadWaits r.fn r.off r.width

/-- An inbound AtomicOp (R484, R495, R497). -/
def Dev.atomicIn (d : Dev) (r : AtomicReq) : Dev :=
  if !atomicLegal r.op r.width || !d.p.fnReach r.fn || !d.p.inboundRoom then d
  else if !d.p.accessOpen r.fn then d.onP fun p => p.emit (.completion r.fn cplUr [])
  else if r.bar != 2 then
    d.onP fun p =>
      let p := p.inboundFail r.fn r.bar r.off r.rid 2 4
      if r.bar = 6 then p.emit (.completion r.fn cplOk (List.replicate r.width 0xFF)) else p.failedRead r.fn (r.bar / 2) r.width
  else if d.p.atomicWaits r then d.onP fun p => (p.holdReq (.atomic r)).semView
  else d.atomicGo r

/-- An access that was held is performed, or held again (R496). -/
def Dev.heldGo (d : Dev) (r : HeldReq) : Dev :=
  match r with
  | .atomic r => if d.p.atomicWaits r then d.onP fun p => p.holdReq (.atomic r) else d.atomicGo r
  | .read f off len rid => d.bar2Read f off len rid
  | .write f a off rid bs =>
    if d.p.granWaits a bs.length then d.onP fun p => p.holdReq (.write f a off rid bs)
    else if d.p.sliceUp (sliceOf a) then d.writeMem a bs
    else d.onP fun p => p.inboundFail f 2 off rid 1 2
  | .scrub g => d.onP fun p => p.scrubGran g
  | .fill j page => d.onP fun p => p.fillWhole j page

/-- What was held is performed in its order of arrival, as far as it may be (R496, R497). -/
def Dev.atomicPump (d : Dev) : Dev :=
  let ws := d.p.hs.br.waiting
  let d := d.onP fun p => p.updBr fun b => { b with waiting := [] }
  (forIn' ws (fun r d => d.heldGo r) d).onP Part.semView

/-- The write-back of an AtomicOp ends: its entry is free (R495, R496). -/
def Dev.writebackDone (d : Dev) (g : Nat) : Dev :=
  if d.p.hs.br.locked.contains g then (d.onP fun p => p.updBr fun b => { b with locked := b.locked.erase g }).atomicPump.settle else d

/-! ### Exclusive sequences and core atomics (R499 to R504) -/

/-- Whether the bridge carries core atomics natively (R500). -/
def Part.nativeMode (p : Part) : Bool := p.fg HBR_CTRL_ATOMIC_MODE == 0 && p.atomicEnable

/-- What a core receives. -/
def Part.coreGets (p : Part) (c v : Nat) (ok : Bool) : Part := p.updBr fun b => { b with core := Tab.put (0, false) c (v, ok) b.core }

/-- What a core waits for set. -/
def Part.setPend (p : Part) (c : Nat) (o : Option CoreOp) : Part := p.updBr fun b => { b with pend := Tab.put none c o b.pend }

/-- What a core's load-exclusive left, set. -/
def Part.setRes (p : Part) (c : Nat) (r : Option Reserv) : Part :=
  (p.updBr fun b => { b with reserv := Tab.put none c r b.reserv }).semView

/-- A store-exclusive that fails is counted and told to the core (R502). -/
def Part.stxFail (p : Part) (c : Nat) : Part := (p.coreGets c 0 false).addW HBR_STX_FAILS_TOTAL 1

/-- A non-posted request of a core on the bus. -/
def Part.coreNp (p : Part) (c kind out width : Nat) (pasid : Option Nat) (trans : Bool) (used : Option Nat) (o : CoreOp) : Part :=
  ((p.setPend c (some o)).npNew { agent := .core c, hedge := 0, fn := 0, kind := kind, addr := out, len := width, want := width
                                  pasid := pasid, trans := trans, used := used, attr := p.reqAttr 5 false
                                  operand := o.operand, compare := o.compare }).2

/-- A core waits for its translation, or for another access, with its translation kept (R440, R501). -/
def Part.coreKeeps (p : Part) (c addr : Nat) (write : Bool) (r : XRes) : Part := p.xlKeep (.core c) 0 addr write r

/-- A core's operation on a COHERENT line waits for the line: owned with its data where `own`, any copy otherwise (R463, R499). -/
def Part.coreLine (p : Part) (c out width : Nat) (own : Bool) (o : CoreOp) : Part :=
  let p := p.setPend c (some o)
  if !own then (p.npNew (p.cohReq (.core c) 0 out width)).2
  else if p.cohOwned (out / 64) true then p
  else p.cohOwn (.core c) 0 out width

/-- An atomic operation of a core through a LOCAL window, executed as an inbound AtomicOp (R495 to R499): the granule is locked until its write-back ends, and nothing happens while another holds it. -/
def Dev.localAtomic (d : Dev) (o op width operand compare : Nat) : Option (Option Nat) × Dev :=
  if 60 ≤ d.p.hs.br.locked.length ∨ d.p.hs.br.locked.contains (o / 64) then (none, d)
  else
    let (old, d) := d.atomicMem o op width operand compare
    (some old, if old.isSome then d.onP fun p => (p.updBr fun b => { b with locked := b.locked ++ [o / 64] }).semView else d)

/-- A core's operation fails (R488, R501, R504): all ones, and for a store-exclusive its failure. -/
def Part.coreFails (p : Part) (c : Nat) (o : CoreOp) : Part :=
  let p := ((p.setRes c none).setPend c none).coreGets c (2 ^ (8 * o.width) - 1) false
  if o.kind = 1 ∨ o.kind = 4 then p.addW HBR_STX_FAILS_TOTAL 1 else p

/-- A core's operation on the value `old` that came for it ends (R499 to R501); `req` is the read of an emulated atomic. -/
def Part.coreEnds (p : Part) (c : Nat) (o : CoreOp) (req : NpReq) (old : Nat) : Part :=
  let p := p.setPend c none
  let new := atomicNew o.op o.width old o.operand o.compare
  match o.kind with
  | 0 => (match Tab.get none c p.hs.br.reserv with
    | some v => p.setRes c (some { v with value := old })
    | none => p).coreGets c old true
  | 1 => if old = o.compare then p.coreGets c 0 true else p.stxFail c
  | 2 => p.coreGets c old true
  | _ => ((p.breakRes (some c) o.out o.width).busWrite (.core c) 0 o.out req.pasid req.trans req.used (natLe o.width new)).coreGets c old true

/-- A core's atomic operation on a COHERENT line that the cache owns (R499). -/
def Part.coreCached (p : Part) (c : Nat) (o : CoreOp) (old : Nat) : Part :=
  let new := atomicNew o.op o.width old o.operand o.compare
  let p := p.setPend c none
  let p := if new = old then p else (p.cohWrite (.core c) 0 o.out (natLe o.width new)).2
  if o.kind = 4 then (if old = o.compare then p.coreGets c 0 true else p.stxFail c) else p.coreGets c old true

/-- What a core waits for goes on (R488, R499 to R501, R504): what came back for it is taken, or its COHERENT line is owned; one that was lost again is asked for again. -/
def Part.coreBack (p : Part) (c : Nat) : Part :=
  match Tab.get none c p.hs.br.pend with
  | none => p
  | some o =>
    match p.npOf (.core c) with
    | some t =>
      if o.kind = 3 && !p.postRoom 0 1 then p
      else (match p.np t, p.npTake t with
      | some req, (some (data, bad), p) =>
        let p := p.updBr fun b => { b with pairs := b.pairs.filter (·.1 != c) }
        if bad.any (·.1 != 0) then p.coreFails c o else p.coreEnds c o req (leNat (data.take o.width))
      | _, _ => p)
    | none =>
      if o.kind < 4 then p
      else if p.cohOwned (o.out / 64) true then p.coreCached c o (leNat ((p.cohBytes o.out o.width).getD []))
      else p.cohOwn (.core c) 0 o.out o.width

/-- LOAD_EXCLUSIVE of core `c` (R500 to R502): its device address is one of hedge 0's. -/
def Dev.loadEx (d : Dev) (c addr width : Nat) : Dev :=
  let d := d.onP fun p => p.setRes c none
  let (r, p) := d.p.xlate (.core c) 0 addr false
  let d := { d with p := p }
  match r with
  | .wait => d
  | .fail _ => d.onP fun p => p.coreGets c (2 ^ (8 * width) - 1) false
  | .bus o pasid tr used =>
    if d.p.pairHeld (some c) o width then d.onP fun p => p.coreKeeps c addr false r
    else d.onP fun p =>
      let p := p.setRes c (some ⟨addr, width, 0, if p.nativeMode then none else some (o / 64)⟩)
      p.coreNp c 0 o width pasid tr used ⟨0, 0, width, addr, o, 0, 0⟩
  | .coh o => d.onP fun p => ((p.setRes c (some ⟨addr, width, 0, none⟩)).coreLine c o width false ⟨0, 0, width, addr, o, 0, 0⟩).coreBack c
  | .loc o =>
    if d.p.granHeld o width then d.onP fun p => p.coreKeeps c addr false r else
    let (bs, ok, d) := d.readMem o width
    d.onP fun p => (p.setRes c (some ⟨addr, width, leNat bs, none⟩)).coreGets c (if ok then leNat bs else 2 ^ (8 * width) - 1) ok

/-- STORE_EXCLUSIVE of core `c` (R499 to R502). -/
def Dev.storeEx (d : Dev) (c addr width value : Nat) : Dev :=
  match Tab.get none c d.p.hs.br.reserv with
  | none => d.onP fun p => p.stxFail c
  | some v =>
    let (r, p) := d.p.xlate (.core c) 0 addr true
    let d := { d with p := p }
    let done := fun (d : Dev) => d.onP fun p => p.setRes c none
    match r with
    | .wait => d
    | .fail _ => done (d.onP fun p => p.stxFail c)
    | .bus o pasid translated used =>
      match v.granule with
      | some g =>
        if g = o / 64 then
          if d.p.pairHeld (some c) o width || !d.p.postRoom 0 1 then d.onP fun p => p.coreKeeps c addr true r
          else done (d.onP fun p => ((p.breakRes (some c) o width).busWrite (.core c) 0 o pasid translated used (natLe width value)).coreGets c 0 true)
        else d.onP fun p => p.stxFail c
      | none =>
        if v.addr = addr ∧ v.width = width then
          done (d.onP fun p => p.coreNp c 3 o width pasid translated used ⟨1, 2, width, addr, o, value, v.value⟩)
        else d.onP fun p => p.stxFail c
    | .coh o => done (d.onP fun p => (p.coreLine c o width true ⟨4, 2, width, addr, o, value, v.value⟩).coreBack c)
    | .loc o =>
      match d.localAtomic o 2 width value v.value with
      | (none, d) => d
      | (some none, d) => done (d.onP fun p => p.stxFail c)
      | (some (some old), d) => done (d.onP fun p => if old = v.value then p.coreGets c 0 true else p.stxFail c)

/-- A single atomic instruction of core `c` (R499 to R501). -/
def Dev.coreAtomic (d : Dev) (c op addr width operand compare : Nat) : Dev :=
  let (r, p) := d.p.xlate (.core c) 0 addr true
  let d := { d with p := p }
  let all1 := 2 ^ (8 * width) - 1
  match r with
  | .wait => d
  | .fail _ => d.onP fun p => p.coreGets c all1 false
  | .bus o pasid tr used =>
    if d.p.pairHeld (some c) o width then d.onP fun p => p.coreKeeps c addr true r
    else if d.p.nativeMode then d.onP fun p => p.coreNp c (op + 1) o width pasid tr used ⟨2, op, width, addr, o, operand, compare⟩
    else d.onP fun p =>
      (p.updBr fun b => { b with pairs := b.pairs ++ [(c, o / 64)] }).coreNp c 0 o width pasid tr used ⟨3, op, width, addr, o, operand, compare⟩
  | .coh o => d.onP fun p => (p.coreLine c o width true ⟨5, op, width, addr, o, operand, compare⟩).coreBack c
  | .loc o =>
    match d.localAtomic o op width operand compare with
    | (none, d) => d
    | (some none, d) => d.onP fun p => p.coreGets c all1 false
    | (some (some old), d) => d.onP fun p => p.coreGets c old true

/-- What came back for a core after a completion; the other agents take theirs by commands of their own. -/
def Part.coresBack (p : Part) : Part := forN 4 (fun c p => p.coreBack c) p

/-! ### Meanings -/

/-- BAR2_READ (R216 to R219, R229). -/
def execBar2Read (f off len rid : Nat) (s : State) : Host.Outcome State Fault Refusal := onDev (fun d => d.bar2Read f off len rid) s

/-- BAR2_WRITE (R216 to R218, R486). -/
def execBar2Write (f off : Nat) (bs : List Byte) (poisoned : Bool) (rid : Nat) (s : State) : Host.Outcome State Fault Refusal :=
  onDev (fun d => d.bar2Write f off bs poisoned rid) s

/-- EXPANSION_ROM_READ (R318, R319). -/
def execExpansionRomRead (off len rid : Nat) (s : State) : Host.Outcome State Fault Refusal := onPart (fun p => p.romAccess off len rid) s

/-- INBOUND_ATOMICOP (R484, R485, R495, R497, R498). -/
def execInboundAtomicop (f bar off op width operand compare : Nat) (poisoned : Bool) (rid : Nat) (s : State) : Host.Outcome State Fault Refusal :=
  onDev (fun d => d.atomicIn ⟨f, bar, off, op, width, operand, compare, poisoned, rid⟩) s

/-- ATOMIC_WRITEBACK_DONE (R495 to R497). -/
def execAtomicWritebackDone (g : Nat) (s : State) : Host.Outcome State Fault Refusal := onDev (fun d => d.writebackDone g) s

/-- LOAD_EXCLUSIVE (R500 to R502). -/
def execLoadExclusive (c addr width : Nat) (s : State) : Host.Outcome State Fault Refusal :=
  onDev (fun d => if c < 4 then d.loadEx c addr width else d) s

/-- STORE_EXCLUSIVE (R500 to R502). -/
def execStoreExclusive (c addr width value : Nat) (s : State) : Host.Outcome State Fault Refusal :=
  onDev (fun d => if c < 4 then (d.storeEx c addr width value).settle else d) s

/-- CORE_ATOMIC (R499 to R501). -/
def execCoreAtomic (c op addr width operand compare : Nat) (s : State) : Host.Outcome State Fault Refusal :=
  onDev (fun d => if c < 4 then d.coreAtomic c op addr width operand compare else d) s

/-- RESERVATION_TIMEOUT (R502). -/
def execReservationTimeout (c : Nat) (s : State) : Host.Outcome State Fault Refusal := onPartIf (c < 4) (fun p => p.setRes c none) s

/-- TARGET_TIMEOUT (R506, R507, R509): the access fails for `reason`; the table has no row of its own for the two other failures of a target (DESIGN CHOICE, notes/assumptions/102.md). -/
def execTargetTimeout (who bar off len rid : Nat) (write : Bool) (reason : Nat) (s : State) : Host.Outcome State Fault Refusal :=
  onPartIf (reason = 1 ∨ reason = 3 ∨ reason = 4) (fun p => p.targetFail who bar off len rid reason write) s

/-- HBR_CTRL_WRITE (R511, R513). -/
def execHbrCtrlWrite (v : Word) (s : State) : Host.Outcome State Fault Refusal :=
  blockPart 5 (True) (fun p =>
    let q := p.fs HBR_CTRL_ATOMIC_MODE (v.toNat % 2)
    if p.fg HBR_CTRL_ATOMIC_MODE = v.toNat % 2 then q else q.breakAll) s

/-- OUTBOUND_COMPLETION (R487, R488); `snoops` are the lines that host CPUs asked of the coherence cache before it, and whether each takes the line (R463; DESIGN CHOICE, notes/assumptions/100.md). -/
def execOutboundCompletion (tag status : Nat) (data : List Byte) (snoops : List (Nat × Bool)) (s : State) : Host.Outcome State Fault Refusal :=
  onDev (fun d => (d.onP fun p => ((p.cohSnoops snoops).npComplete tag status data).coresBack).settle) s

/-- COMPLETION_TIMEOUT (R487). -/
def execCompletionTimeout (tag : Nat) (s : State) : Host.Outcome State Fault Refusal :=
  onDev (fun d => (d.onP fun p => (p.npTimeout tag).coresBack).settle) s

end Sys2Proof.Machine
end

