-- ==== Sys2Proof/Machine/Debug.lean ====
section
/-!
DEFINITION. Sys2Proof/Machine/Debug.lean: OBSERVED, the store apertures, debug halts, trace and profile (R534 to R548).
-/

namespace Sys2Proof.Machine

open Sys2Proof

/-! ### OBSERVED of captures (R545) -/

/-- The hedges that a running capture covers are observed: at its start and at each ownership change (R545). -/
def Part.observeCaptures (p : Part) : Part :=
  let p : Part := match p.dbg.trace with
    | some t => forN 16 (fun h p => if t.mask.testBit h then p.observe h else p) p
    | none => p
  match p.dbg.profile with
  | some c => forN 64 (fun b p => if c.brackens.testBit b then p.observeBrk b else p) p
  | none => p

/-! ### Store apertures (R535 to R539) -/

/-- The number of an access path that selects fronds of its own (R536). -/
def pathNum : Path → Nat
  | .fn _ => 0
  | .mp => 1
  | .jtag => 2

/-- The number of an access path: a function, 16 the management processor, 17 JTAG (R25). -/
def pathKey : Path → Nat
  | .fn f => f
  | .mp => 16
  | .jtag => 17

/-- The frond that a path selected. -/
def Part.selFrond (p : Part) (a : Path) : Nat := Tab.get 0 (pathNum a) p.dbg.sel

/-- DBG_FROND_SEL of a path written; a value that names no frond is reserved (R17, R548). -/
def Part.setSel (p : Part) (a : Path) (f : Nat) : Part :=
  if f % 64 < 48 then { p with dbg := { p.dbg with sel := Tab.put 0 (pathNum a) (f % 4096) p.dbg.sel } } else p

/-- The words of a store: weight 0, activation 1, program 2. -/
def storeWords (store : Nat) : Nat := [49152, 8192, 2048].getD store 0

/-- One word of frond `f`'s store as the debug paths read it (R86, R538). -/
def Part.debugWord (p : Part) (f store w : Nat) : Dword × Part :=
  match (p.frond f).eccAt store w with
  | 2 => (BitVec.allOnes 64, p.fs DBG_STATUS_UE 1)
  | _ => let (x, _, p) := p.readWord f store w
         (x, p)

/-- The bits of a value that an access of `width` bits at a byte offset of a 64-bit word reads. -/
def wordPart (x : Dword) (off width : Nat) : Nat := (x.toNat >>> (8 * (off % 8))) % 2 ^ width

/-- A word with an access of `width` bits at a byte offset written into it. -/
def wordWith (x : Dword) (off width : Nat) (v : Dword) : Dword := setBits x (8 * (off % 8)) width v.toNat

/-- A store aperture read (R538, R545). -/
def Part.apertureRead (p : Part) (a : Path) (store off width : Nat) : Nat × Part :=
  let f := p.selFrond a
  if storeWords store * 8 ≤ off then (0, p)
  else
    let (x, p) := (p.observeBrk (f / 64)).debugWord f store (off / 8)
    (wordPart x off width, p)

/-- A write of one store word with new check bits, whole or in part (R538). -/
def Part.debugPut (p : Part) (f store off width : Nat) (v : Dword) : Part :=
  let (old, _, q) := p.readWord f store (off / 8)
  let (x, p) := if width = 64 then (v, p) else (wordWith old off width v, q)
  p.updFrond f fun F => F.setWord store (off / 8) x

/-- Whether a debug write to a program store is performed (R539): the frond is stopped or debug-halted. -/
def Part.progOpen (p : Part) (f : Nat) : Bool := !(p.frond f).running || (p.frond f).halted

/-- A store aperture write (R538, R539, R545). -/
def Part.apertureWrite (p : Part) (a : Path) (store off width : Nat) (v : Dword) : Part :=
  let f := p.selFrond a
  if storeWords store * 8 ≤ off then p
  else
    let p := p.observeBrk (f / 64)
    if store = 2 ∧ !p.progOpen f then p.fs DBG_STATUS_REJECTED 1 else p.debugPut f store off width v

/-- Whether an access path reaches the debug block: PF0 and the management processor where it is available, JTAG while the rails stand (R534; DEDUCED, notes/assumptions/108.md), and no other function (R188, R316). -/
def Part.debugOpen (p : Part) (a : Path) : Bool :=
  match a with
  | .fn f => f == 0 && p.pfOpen && p.available 13
  | .mp => p.available 13
  | .jtag => p.core.rails

/-! ### Debug halts (R540, R541) -/

/-- A frond is halted: a waiting instruction is abandoned and repeated on resume. -/
def Frond.halt (F : Frond) : Frond := if F.running then { F with halted := true, wait := none } else F

/-- A debug-halted frond issues up to `n` instructions; one that must wait is abandoned and counts as no step. -/
def Part.debugSteps (p : Part) (f : Nat) : Nat → Part
  | 0 => p
  | n + 1 =>
    let F := p.frond f
    if !F.running then p
    else match F.nextOp with
      | none => p
      | some op =>
        let p := p.frondFetch f op
        if (p.frond f).wait.isSome || !(p.frond f).owed.isEmpty then p else p.debugSteps f n

/-- A step of a debug-halted frond (R540). -/
def Part.debugStep (p : Part) (f steps : Nat) : Part :=
  let p := (p.updFrond f fun F => { F with halted := false }).debugSteps f steps
  p.updFrond f Frond.halt

/-! ### Trace and profile (R542 to R544) -/

/-- A capture record leaves as outbound writes of hedge 0, one on each side of a 4 KiB boundary, or is discarded and counted. -/
def Dev.captureWrite (d : Dev) (a : Agent) (addr : Nat) (bs : List Byte) : Dev :=
  let k := 4096 - addr % 4096
  let (r, d) := d.hostWrite a 0 addr (bs.take k)
  let (r, d) := if r = .done ∧ k < bs.length then d.hostWrite a 0 (addr + k) (bs.drop k) else (r, d)
  if r = .done then d else d.onP fun p => p.incS DBG_TRACE_LOST

/-- The trace record of a token that is delivered to frond `f` (R542). -/
def Dev.traceToken (d : Dev) (f : Nat) (t : Tok) : Dev :=
  match d.p.dbg.trace with
  | none => d
  | some c =>
    match d.p.brkOwner (f / 64) with
    | none => d
    | some h =>
      if !c.mask.testBit h then d
      else
        let bs := natLe 8 d.p.time ++ natLe 2 (tokTag t) ++ [BitVec.ofNat 8 (f / 64), BitVec.ofNat 8 (f % 64)] ++ natLe 4 0
        (d.captureWrite .trace (c.addr + c.wr) bs).onP fun p =>
          { p with dbg := { p.dbg with trace := some { c with wr := (c.wr + 16) % max c.size 16 } } }

/-- The profile records of a gate (R543). -/
def Dev.profileGate (d : Dev) : Dev :=
  match d.p.dbg.profile with
  | none => d
  | some c =>
    let bs := upTo 64 fun b => c.brackens.testBit b
    let ring := 4096 * bs.length
    let (slot, d) := bs.foldl (fun (acc : Nat × Dev) b =>
      let rec_ := natLe 8 d.p.time ++ natLe 4 b ++ natLe 4 (Tab.get 0 b c.steps) ++ natLe 4 (Tab.get 0 b c.delivered) ++
        natLe 4 (Tab.get 0 b c.sent) ++ natLe 4 (d.p.fg (TEL_TEMPO_RATE b)) ++ natLe 4 0
      ((acc.1 + 1) % max ring 1, acc.2.captureWrite .profile (c.addr + 32 * acc.1) rec_)) (c.slot, d)
    d.onP fun p => { p with dbg := { p.dbg with profile := some { c with slot := slot, steps := [], delivered := [], sent := [] } } }

/-! ### Meanings -/

/-- TEMPO_GATE_END (R60, R65, R72, R543): what each bracken's tempo monitor counted in the gate. -/
def execTempoGateEnd (counts : List Nat) (s : State) : Host.Outcome State Fault Refusal :=
  onDev (fun d => (d.onP fun p => p.gateEnd counts).profileGate) s

/-- STORE_APERTURE_READ (R538, R545). -/
def execStoreApertureRead (path : Path) (store off width : Nat) (s : State) : Host.Outcome State Fault Refusal :=
  onPart (fun p => if !p.debugOpen path || decide (3 ≤ store) then p else
    let (v, p) := p.apertureRead path store off width
    p.emit (.value (pathKey path) off v)) s

/-- STORE_APERTURE_WRITE (R538, R545). -/
def execStoreApertureWrite (path : Path) (store off width : Nat) (v : Dword) (s : State) : Host.Outcome State Fault Refusal :=
  onPart (fun p => if p.debugOpen path && decide (store < 2) then p.apertureWrite path store off width v else p) s

/-- PROGRAM_APERTURE_WRITE (R539, R545). -/
def execProgramApertureWrite (path : Path) (off width : Nat) (v : Dword) (s : State) : Host.Outcome State Fault Refusal :=
  onPart (fun p => if p.debugOpen path then p.apertureWrite path 2 off width v else p) s

/-- CLR_VIOL (R548). -/
def execClrViol (coin : Nat) (s : State) : Host.Outcome State Fault Refusal := blockPart 13 (True) (fun p => forN 16 (fun h p => p.clrHit (DBG_VIOL h) (coin.testBit h)) p) s

/-- DBG_CLR_LOST (R548). -/
def execDbgClrLost (coin : Nat) (s : State) : Host.Outcome State Fault Refusal := blockPart 13 (True) (fun p => p.clrHit DBG_TRACE_LOST (coin.testBit 0)) s

end Sys2Proof.Machine
end

