-- ==== Sys2Proof/Machine/Router.lean ====
section
/-!
DEFINITION. Sys2Proof/Machine/Router.lean: a token at a bracken router, and at the hub (R89 to R125, R605, R747, R750).
-/

namespace Sys2Proof.Machine

open Sys2Proof

/-! ### At a bracken (R92, R99 to R101, R109, R116) -/

/-- Whether a kind may enter bracken `b` through a port (R90, R92): from a frond (events only towards the hub, and none over a neighbour port), the slice controller, the gateway (west ports of column 0), the hub (south ports of row 7), or another router. -/
def kindAllowed (b port kind : Nat) (ch : Chan) : Bool :=
  if 64 ≤ port then decide (kind ≤ 2)
  else if port < 48 then decide (kind ≤ 2) || (kind == 4 && decide (ch = Chan.toHub))
  else if port = 52 then decide (kind ≤ 2) || kind == 5
  else if port = 51 ∧ b % 8 = 0 then kind == 0 || kind == 3
  else if port = 50 ∧ b / 8 = 7 then decide (kind ≤ 3) || kind == 5
  else decide (kind ≤ 5)

/-- The port through which a token that leaves in direction d enters the next bracken. -/
def enterPort (d : Nat) : Nat := [50, 51, 48, 49].getD d 50

/-- The direction in which a system-channel token for bracken `t` leaves bracken `b`: along the row, then along the column (R101). -/
def towards (b t : Nat) : Nat :=
  if b % 8 < t % 8 then 1 else if t % 8 < b % 8 then 3 else if t / 8 < b / 8 then 0 else 2

/-- The input queue of frond `f` for stream `s`. -/
def Part.queueFor (p : Part) (f s : Nat) : Option Nat :=
  ((p.frond f).queues.find? fun e => e.2.bound && e.2.stream == s).map (·.1)

/-- A token is delivered to frond `f` (R116, R117, R109): checked, put into its queue, traced and counted. -/
def Dev.toFrond (d : Dev) (f : Nat) (t : Tok) : Dev :=
  let b := f / 64
  if !d.p.ownsBrk t.hedge b then d.onP fun p => (p.branchReturn t.hedge t.stream [f]).violationAt b 1 (p.brkOwner b) t
  else match d.p.queueFor f t.stream with
    | none => d.onP fun p => ((p.branchReturn t.hedge t.stream [f]).incS (FAB_DROP b)).raiseBoth (0x0100 + b) 0x0108 t.hedge noDetail
    | some q =>
      (d.traceToken f t).onP fun p =>
        (p.updFrond f fun F => { F with queues := Tab.upd {} q (fun Q => { Q with toks := Q.toks ++ [(t.kind, t.pay)] }) F.queues }).profile b fun c =>
          { c with delivered := Tab.upd 0 b (· + 1) c.delivered }

/-- A branch of a hedge-channel token crosses the mesh link in direction d (R116); where no bracken lies, the branch is dropped. -/
def Part.crossLink (p : Part) (b d : Nat) (t : Tok) : Part :=
  match neighbour b d with
  | none => (p.branchReturn t.hedge t.stream [lostLink b d]).violationAt b 0 none t
  | some c =>
    if p.ownsBrk t.hedge c then p.addFlight { b := c, port := enterPort d, ch := .hedge, tok := t }
    else (p.branchReturn t.hedge t.stream (p.destsFrom t.stream 16 c)).violationAt b 0 (p.brkOwner c) t

/-- A system-channel token leaves bracken `b` in direction d: to the next bracken, or from row 7 to the hub (R96, R101). -/
def Part.sysLink (p : Part) (b d : Nat) (ch : Chan) (t : Tok) : Part :=
  match neighbour b d with
  | some c => p.addFlight { b := c, port := enterPort d, ch := ch, tok := t }
  | none => if d = 2 then p.addFlight { b := 64 + b % 8, port := 48, ch := .toHub, tok := t } else p

/-- A token joins the queue of its stream at slice port n (R220). -/
def Part.toSlice (p : Part) (b : Nat) (t : Tok) : Part :=
  let k := qkey (b / 8) t.hedge t.stream
  { p with slc := { p.slc with inq := Tab.put [] k (p.inq k ++ [⟨b, t.kind, t.pay⟩]) p.slc.inq } }

/-! ### Outputs and their grants (R96, R99 to R101)

The outputs of a crossbar are numbered as its ports: 0 to 47 the fronds, 48 to 51 the hedge channel of the mesh links N, E, S, W, 52 the slice port, and 54 to 57 the system channel of the same four links. -/

/-- The outputs that a route mask names; the hub lies south on the system channel. -/
def routeOutputs (m : Nat) : Nat := m % 2 ^ 53 + if m.testBit 53 then 2 ^ 56 else 0

/-- The outputs that a token takes at its bracken (R101); none where it needs a route entry that is not valid (R109). -/
def Part.outputsOf (p : Part) (e : Flight) : Option Nat :=
  let route := (p.route e.b e.tok.stream).map routeOutputs
  match e.ch with
  | .hedge => route
  | .toHub => some (2 ^ 56)
  | .toBracken x => if x = e.b then route else some (2 ^ (54 + towards e.b x))
  | .toFrond f => some (if f / 64 = e.b then 2 ^ (f % 64) else 2 ^ (54 + towards e.b (f / 64)))

/-- The outputs that a token at a bracken still waits for. -/
def Part.wants (p : Part) (e : Flight) : Nat :=
  if kindAllowed e.b e.port e.tok.kind e.ch then e.todo.getD ((p.outputsOf e).getD 0) else 0

/-- The first token of a stream at a port: the tokens of a stream pass in order (R107, R110, R115). -/
def Part.headAt (p : Part) (b port h s : Nat) : Option Flight :=
  p.fab.flight.find? fun e => e.b == b && e.port == port && e.tok.hedge == h && e.tok.stream == s

/-- Whether input `i` of bracken `b`'s crossbar has a token ready for output `o`. -/
def Part.inputReady (p : Part) (b o i : Nat) : Bool :=
  p.fab.flight.any fun e => e.b == b && e.port == i && (p.wants e).testBit o && p.headAt b i e.tok.hedge e.tok.stream == some e

/-- The input that output `o` of bracken `b` grants next: the first ready one after the last granted (R100). -/
def Part.nextInput (p : Part) (b o : Nat) : Option Nat :=
  let start := Tab.get 0 (64 * b + o) p.fab.turns
  ((List.range 53).map fun k => (start + k) % 53).find? (p.inputReady b o)

/-- Whether the mesh link of output `o` is free for its channel: with both channels ready the link alternates (R99). -/
def Part.linkFree (p : Part) (b o : Nat) : Bool :=
  if 48 ≤ o ∧ o < 52 then Tab.get 0 (4 * b + (o - 48)) p.fab.links == 0 || (p.nextInput b (o + 6)).isNone
  else if 54 ≤ o then Tab.get 0 (4 * b + (o - 54)) p.fab.links == 1 || (p.nextInput b (o - 6)).isNone
  else true

/-- Whether output `o` of bracken `b` grants input `i` now. -/
def Part.grants (p : Part) (b o i : Nat) : Bool := p.nextInput b o == some i && p.linkFree b o

/-- Output `o` has granted input `i`: the next grant looks first at the input after it, and a mesh link goes on with its other channel (R99, R100). -/
def Part.granted (p : Part) (b o i : Nat) : Part :=
  let links := if 48 ≤ o ∧ o < 52 then Tab.put 0 (4 * b + (o - 48)) 1 p.fab.links
    else if 54 ≤ o then Tab.put 0 (4 * b + (o - 54)) 0 p.fab.links else p.fab.links
  { p with fab := { p.fab with turns := Tab.put 0 (64 * b + o) ((i + 1) % 53) p.fab.turns, links := links } }

/-- The token of place `e` leaves bracken `e.b` through output `o`. -/
def Dev.leave (d : Dev) (e : Flight) (o : Nat) : Dev :=
  if o < 48 then d.toFrond (64 * e.b + o) e.tok
  else if o < 52 then d.onP fun p => p.crossLink e.b (o - 48) e.tok
  else if o = 52 then d.onP fun p => p.toSlice e.b e.tok
  else
    let ch := match e.ch with
      | .toBracken x => if x = e.b then .toHub else e.ch
      | .toFrond _ => e.ch
      | _ => .toHub
    d.onP fun p => p.sysLink e.b (o - 54) ch e.tok

/-- The token of place `e` is gone from it; where its hedge was stalled, that ends (R130). -/
def Part.unplace (p : Part) (e : Flight) : Part :=
  { p with fab := { p.fab with flight := p.fab.flight.erase e } }.progress e.tok.hedge

/-- The token of place `e`, which waits for the outputs `m`, passes through those that grant its input, and stays for the others. -/
def Dev.crossbar (d : Dev) (e : Flight) (m : Nat) : Dev :=
  let go := upTo 58 fun o => m.testBit o && d.p.grants e.b o e.port
  let left := go.foldl (fun m o => m - 2 ^ o) m
  if go.isEmpty then d
  else
    let d := d.onP fun p => if left = 0 then p.unplace e
      else { p with fab := { p.fab with flight := p.fab.flight.replace e { e with todo := some left } } }.progress e.tok.hedge
    forIn' go (fun o d => (d.onP fun p => p.granted e.b o e.port).leave e o) d

/-- A token at a bracken: from a frond's neighbour it meets that frond, else the router and the crossbar (R92, R95, R101, R109, R116). -/
def Dev.placeToken (d : Dev) (e : Flight) : Dev :=
  if !kindAllowed e.b e.port e.tok.kind e.ch then d.onP fun p => (p.unplace e).kindFault e.b e.port e.ch e.tok
  else if 64 ≤ e.port then (d.onP fun p => p.unplace e).toFrond (64 * e.b + (e.port - 64) / 4) e.tok
  else match e.todo.orElse fun _ => d.p.outputsOf e with
    | none => d.onP fun p => (p.unplace e).routeMiss e.b e.ch e.tok
    | some 0 => d.onP fun p => (p.unplace e).dropReturn e.b e.ch e.tok
    | some m => d.crossbar e m

/-- A token at a bracken router: the first of its stream at its port (R107). -/
def Dev.routerToken (d : Dev) (b port : Nat) (ch : Chan) (t : Tok) : Dev :=
  match d.p.headAt b port t.hedge t.stream with
  | none => d
  | some e => if e.ch = ch ∧ e.tok = t ∧ b < 64 then d.placeToken e else d

/-! ### At the hub (R123 to R125, R348, R747, R750) -/

/-- A hub-bound token is discarded and its credit returned. -/
def Part.hubDrop (p : Part) (t : Tok) : Part := p.addReturn t.hedge t.stream hubDest

/-- The hedge that owns stream port k. -/
def Part.portOwner (p : Part) (k : Nat) : Option Nat := (upTo 16 fun h => (p.hedge h).streamPorts.testBit k).head?

/-- The hedge that owns the loop variable port (R35). -/
def Part.loopOwner (p : Part) : Option Nat := (upTo 16 fun h => (p.hedge h).loopPort).head?

/-- In LOCKSTEP the hub hashes the tokens of a mirrored hedge's streams; a unit ends at each EOS (R750). -/
def Part.lockstepToken (p : Part) (t : Tok) : Part :=
  if p.fg TWN_STATUS_MODE != 2 || !p.tw.mirrored.testBit t.hedge || decide (2 < t.kind) then p
  else
    let k := skey t.hedge t.stream
    let bs := Tab.get [] k p.tw.open_ ++ [BitVec.ofNat 8 t.kind, BitVec.ofNat 8 t.stream] ++ payBytes t.pay
    if t.kind != 1 then { p with tw := { p.tw with open_ := Tab.put [] k bs p.tw.open_ } }
    else
      let n := Tab.get 0 k p.tw.unitNo
      { p with tw := { p.tw with
        open_ := Tab.put [] k [] p.tw.open_
        unitNo := Tab.put 0 k ((n + 1) % 2 ^ 32) p.tw.unitNo
        ended := p.tw.ended ++ [⟨t.hedge, t.stream, n, sha256 bs, p.fg TWN_EPOCH_EPOCH⟩] } }

/-- A token refused at the hub (R116, R117). -/
def Part.hubViolation (p : Part) (c : Nat) (owner : Option Nat) (t : Tok) : Part := (p.hubDrop t).violationAt (56 + c) 3 owner t

/-- A token joins those that wait at the hub. -/
def Part.hubQueue (p : Part) (t : Tok) : Part :=
  let k := skey t.hedge t.stream
  { p with fab := { p.fab with hubWait := Tab.put [] k (Tab.get [] k p.fab.hubWait ++ [(t.kind, t.pay)]) p.fab.hubWait } }

/-- Whether this part is the STANDBY in LOCKSTEP and mirrors the hedge (R750). -/
def Part.lockstepStandby (p : Part) (h : Nat) : Bool :=
  p.fg TWN_STATUS_ROLE == 2 && p.fg TWN_STATUS_MODE == 2 && p.tw.mirrored.testBit h

/-- A token for stream port k waits there, but for a SLIP token and those of a STANDBY in LOCKSTEP (R699, R750). -/
def Part.portToken (p : Part) (k : Nat) (t : Tok) : Part :=
  if t.kind = 3 || p.lockstepStandby t.hedge then p.hubDrop t
  else { p with den := { p.den with framers := Tab.upd {} (k + 1) (fun f => { f with txq := f.txq ++ [t] }) p.den.framers } }

/-- A loop variable from the hub (R124, R508, R605, R750). -/
def Part.loopToken (p : Part) (t : Tok) : Part :=
  let p := p.hubDrop t
  match t.kind with
  | 2 => p.raiseBoth 0x0140 0x010A t.hedge noDetail
  | 0 =>
    if p.lockstepStandby t.hedge then p
    else
      let p := if p.hs.br.lv.isSome then p.incS PBR_LV_REPLACED else p
      p.updBr fun b => { b with lv := some (payWord t.pay 0) }
  | _ => p

/-- An EVENT token becomes a record of its hedge's ring (R125, R177). -/
def Part.eventToken (p : Part) (t : Tok) : Part :=
  (p.hubDrop t).raise (0x0180 + t.hedge) (0x0180 + bitsOfNat t.pay.toNat 0 6) (some t.hedge) (bitsOfNat t.pay.toNat 32 64) [t.hedge]

/-- A token from column c meets the destination that the hub table names (R116, R123, R348, R747). -/
def Part.hubDeliver (p : Part) (c : Nat) (t : Tok) : Part :=
  let h := t.hedge
  if t.kind = 4 then p.eventToken t
  else
    let dst := Tab.get .none (skey h t.stream) p.fab.hub
    match dst with
    | .none => ((p.hubDrop t).incS (FAB_DROP (56 + c))).raiseBoth (0x0138 + c) 0x0108 h noDetail
    | .events => p.hubDrop t
    | _ =>
      let p := p.lockstepToken t
      if p.mirrorStandby && p.tw.mirrored.testBit h then p.hubDrop t
      else match dst with
        | .queue q =>
          if !(p.qp q).exist then (p.hubDrop t).noDest h t.stream q
          else if (p.qp q).owner ≠ some h then p.hubViolation c (p.qp q).owner t
          else p.hubQueue t
        | .port k => if p.portOwner k = some h then p.portToken k t else p.hubViolation c (p.portOwner k) t
        | .loop => if p.loopOwner = some h then p.loopToken t else p.hubViolation c p.loopOwner t
        | _ => p

/-- A hub-bound token reaches the hub from column c, the tokens of a stream in order (R107, R123). -/
def Dev.hubToken (d : Dev) (c : Nat) (t : Tok) : Dev :=
  match d.p.headAt (64 + c) 48 t.hedge t.stream with
  | none => d
  | some e => if e.tok = t then (d.onP fun p => (p.unplace e).hubDeliver c t).settle else d

/-! ### Meanings -/

/-- ROUTER_TOKEN (R101). -/
def execRouterToken (b port : Nat) (ch : Chan) (tok : Tok) (s : State) : Host.Outcome State Fault Refusal :=
  onDevIf (b < 64 ∧ (port < 53 ∨ 64 ≤ port ∧ port < 256)) (fun d => d.routerToken b port ch tok) s

/-- HUB_TOKEN (R123). -/
def execHubToken (col : Nat) (tok : Tok) (s : State) : Host.Outcome State Fault Refusal := onDev (fun d => d.hubToken col tok) s

end Sys2Proof.Machine
end

