-- ==== Sys2Proof/Machine/Denben.lean ====
section
/-!
DEFINITION. Sys2Proof/Machine/Denben.lean: the Denben framers: lanes, alignment, defects, counters, slips, payload, DCC, width changes and retrains (R677 to R724, R808).
A received frame comes with the arrival of its FAW at the balls, as the receiver's lanes assemble it, still scrambled.
-/

namespace Sys2Proof.Machine

open Sys2Proof

/-! ### Defects (R692 to R695) -/

/-- The rings of a framer's defect events, and the owner hedge of a stream port (R695). -/
def Part.frmRings (p : Part) (k : Nat) : Option Nat × List Nat :=
  match (if k = 0 then none else p.portOwner (k - 1)) with
  | some h => (some h, [h, opRing])
  | none => (none, [opRing])

/-- The lanes in use that lack a signal or lane lock. -/
def Part.lanesBad (p : Part) (k : Nat) : Nat := p.fg (FRM_STATUS_LANES k) &&& (255 - p.fg (FRM_LANES_GOOD k))

/-- DENBEN_DEFECT or DENBEN_DEFECT_CLEAR for defect `i` (R695). The manual does not place the width code and LANES within bits 31:16: a free choice of the two orders. -/
def Part.defectEvent (p : Part) (k code i : Nat) : Part :=
  let w := p.fg (FRM_STATUS_WIDTH k)
  let l := p.fg (FRM_STATUS_LANES k)
  let (hi, p) := p.choose 0 [l + w * 2 ^ 8, w + l * 2 ^ 8]
  let (h, rings) := p.frmRings k
  p.raise (0x0D00 + k) code h (i + p.lanesBad k * 2 ^ 8 + hi * 2 ^ 16) rings

/-- When a defect that leads to a retrain began to stand (R717). -/
def Part.defectClock (p : Part) (k : Nat) : Part :=
  p.updFrm k fun f => { f with defectAt := if p.defects k % 8 = 0 then none else if f.defectAt.isNone then some p.time else f.defectAt }

/-- Defect `i` is found: nothing while it or a higher one stands, nor in the frames after a width change (R693, R714). Lower ones clear without an event. -/
def Part.declare (p : Part) (k i : Nat) : Part :=
  if p.defects k % 2 ^ (i + 1) ≠ 0 ∨ (p.frm k).quiet.isSome then p
  else (((p.fs (FRM_STATUS_DEFECTS k) (2 ^ i)).updFrm k fun f => { f with broke := true }).defectEvent k 0x0D01 i).defectClock k

/-- Whether every lane in use is locked and the lanes are deskewed (R688, R692). -/
def Part.lanesLocked (p : Part) (k : Nat) : Bool :=
  let l := p.fg (FRM_STATUS_LANES k)
  l &&& p.fg (FRM_LANES_LOCK k) == l && decide ((p.frm k).skew ≤ 64)

/-- What stands is looked for again once no higher defect hides it (R693). -/
def Part.defectLook (p : Part) (k : Nat) : Part :=
  if p.defects k ≠ 0 then p
  else if !p.lanesLocked k then p.declare k 1
  else if !(p.frm k).aligned then p.declare k 2
  else p

/-- Defect `i` clears where it stands; the detection of lower ones restarts, multiframe alignment after a loss of lanes or frames too (R693). -/
def Part.clearDefect (p : Part) (k i : Nat) : Part :=
  if !(p.defects k).testBit i then p
  else
    let p := ((p.fs (FRM_STATUS_DEFECTS k) 0).updFrm k fun f => { f with
      ais := if i ≤ 4 then 0 else f.ais
      rdi := if i ≤ 5 then 0 else f.rdi
      mf := if i ≤ 2 then false else f.mf
      mfNext := if i ≤ 2 then none else f.mfNext
      mfBad := if i ≤ 3 then 0 else f.mfBad }).defectEvent k 0x0D02 i
    (p.defectLook k).defectClock k

/-! ### Counters (R696) -/

/-- The defects under which counter `i` stops. -/
def stopsUnder (i : Nat) : Nat := [31, 7, 31, 63, 15, 15, 15, 15].getD i 15

/-- Live counter `i` of a framer counts `n` (R696, R714). -/
def Part.frmCount (p : Part) (k i n : Nat) : Part :=
  if n = 0 ∨ p.defects k &&& stopsUnder i ≠ 0 ∨ (p.frm k).quiet.isSome then p else p.addS (FRM_CNT k i) n

/-! ### Retrains (R717, R718) -/

/-- Alignment is lost, and the search that follows takes the present settings (R689, R691); multiframe alignment is looked for anew (R693). -/
def Part.loseAlign (p : Part) (k : Nat) : Part :=
  p.updFrm k fun f => { f with
    aligned := false, confirm := 0, badFaw := 0, bipPrev := none, mf := false, mfNext := none, mfBad := 0
    par := (p.fg (FRM_CTRL_FAW_TOL k), p.fg (FRM_CTRL_FAW_N k), p.fg (FRM_CTRL_FAW_M k)) }

/-- One retrain attempt: the transmitter restarts at MAX_WIDTH on the lowest-numbered lanes with FN 0 and its MFC as it stands (DEDUCED, notes/assumptions/53.md), the receiver searches anew (R717, R718). -/
def Part.attempt (p : Part) (k : Nat) : Part :=
  let w := p.fg (FRM_CTRL_MAX_WIDTH k)
  let l := 2 ^ 2 ^ w - 1
  let p := ((p.fs (FRM_LANES_LOCK k) 0).fs (FRM_LANES_GOOD k) 0).fs (FRM_STATUS_WIDTH k) w
  let p := (p.fs (FRM_STATUS_LANES k) l).loseAlign k
  let p := p.updFrm k fun f => { f with
    fn := 0, txW := w, txL := l, marks := [], rdiNow := false
    attemptAt := p.time, failedAt := none, broke := true }
  (p.incE (FRM_RETRAINS_COUNT k)).declare k 1

/-- A retrain starts with its cause (R717, R724): 0 command, 1 peer, 2 defect, 3 replay. It cancels width requests; one that runs already merges with it. -/
def Part.startRetrain (p : Part) (k cause : Nat) : Part :=
  if p.flag (FRM_STATUS_RETRAINING k) then p
  else
    let p := (p.setFlag (FRM_STATUS_RETRAINING k) true).setFlag (FRM_STATUS_SWITCHING k) false
    let p := p.updFrm k fun f => { f with
      retrain := cause, retrainSend := if cause = 1 then 0 else 2, waitMs := 0
      op := 0, opW := 0, opL := 0, sent := 0, ackNext := none, agreed := none, collided := false
      switchTx := false, switched := false, switchRx := false, quiet := none, rxDone := false, fill := 0 }
    let p := p.attempt k
    p.raiseOp (0x0D00 + k) 0x0D04 none (cause + p.fg (FRM_RETRAINS_COUNT k) * 2 ^ 8)

/-- A retrain succeeds when the receiver has none of the four defects and reads no RDI (R718). -/
def Part.retrainCheck (p : Part) (k : Nat) : Part :=
  let f := p.frm k
  if p.flag (FRM_STATUS_RETRAINING k) && !p.rxDown k && f.aligned && f.mf && !f.rdiNow && f.failedAt.isNone then
    p.setFlag (FRM_STATUS_RETRAINING k) false
  else p

/-! ### Width changes (R713 to R716) -/

/-- The lanes good in both directions (R715). -/
def Part.bothGood (p : Part) (k : Nat) : Nat := p.fg (FRM_LANES_GOOD k) &&& p.fg (FRM_LANES_PEER_GOOD k)

/-- The largest width code up to `top` for which a mask has lanes enough. -/
def widestIn (top mask : Nat) : Option Nat := (upTo (top + 1) fun w => decide (2 ^ w ≤ (lanesIn mask).length)).getLast?

/-- Whether steps 3 to 5 of a width change run, or a retrain does. -/
def Part.widthBusy (p : Part) (k : Nat) : Bool :=
  let f := p.frm k
  f.agreed.isSome || f.quiet.isSome || p.flag (FRM_STATUS_SWITCHING k) || p.flag (FRM_STATUS_RETRAINING k)

/-- A request of width `w` on `lanes` with its cause (R724) and a new TOKEN; it replaces one that is pending (R719). -/
def Part.widthRequest (p : Part) (w lanes cause : Nat) : Part :=
  if p.widthBusy 0 then p
  else p.updFrm 0 fun f => { f with
    op := 1, opW := w, opL := lanes, token := (f.token + 1) % 16, sent := 0, ackNext := none, cause := cause, collided := false }

/-- The lanes of a width of `n` lanes on the twin port: the lowest-numbered ones good in both directions, made up with the lowest others where too few are good (DEDUCED, notes/assumptions/45.md). -/
def Part.lanesFor (p : Part) (n : Nat) : Nat :=
  let good := p.bothGood 0
  let got := lowLanes n good
  got ||| lowLanes (n - (lanesIn got).length) (255 - got)

/-- A MAX_WIDTH below the width in use makes a request of the twin port (R715, R720). -/
def Part.maxWidthCheck (p : Part) (k : Nat) : Part :=
  let top := p.fg (FRM_CTRL_MAX_WIDTH k)
  if k = 0 && decide (top < p.fg (FRM_STATUS_WIDTH k)) then
    let w := (widestIn top (p.bothGood 0)).getD 0
    p.widthRequest w (p.lanesFor (2 ^ w)) 2
  else p

/-- Lanes of LANES have been not good for 10 µs: the largest width that the lanes good in both directions allow, the present one on other lanes too (R715; DEDUCED, notes/assumptions/106.md). -/
def Part.narrow (p : Part) : Part :=
  let f := p.frm 0
  if !p.flag (FRM_CTRL_AUTO_WIDTH 0) || p.lanesBad 0 == 0 || f.op == 1 then p
  else match widestIn (p.fg (FRM_CTRL_MAX_WIDTH 0)) (p.bothGood 0) with
    | some w => p.widthRequest w (lowLanes (2 ^ w) (p.bothGood 0)) 0
    | none => p

/-- Every lane of a larger width has been good in both directions for 1 s (R715). -/
def Part.widen (p : Part) : Part :=
  let cur := p.fg (FRM_STATUS_WIDTH 0)
  if !p.flag (FRM_CTRL_AUTO_WIDTH 0) || (p.frm 0).op == 1 then p
  else match widestIn (p.fg (FRM_CTRL_MAX_WIDTH 0)) (p.bothGood 0) with
    | some w => if cur < w then p.widthRequest w (lowLanes (2 ^ w) (p.bothGood 0)) 1 else p
    | none => p

/-- Whether this side's request wins over a different one of the peer (R716). -/
def Part.winsOver (p : Part) (peerPrimary : Bool) : Bool :=
  if p.role == 1 && !peerPrimary then true
  else if p.role != 1 && peerPrimary then false
  else decide (p.fg (FRM_PEER_SERIAL_SERIAL 0) < p.ep.serial)

/-- The peer's REQUEST is read (R713 step 2, R716). A responder's cause is not given: 3 stands for a free one. -/
def Part.peerRequest (p : Part) (c : LaneCtrl) : Part :=
  let f := p.frm 0
  let ackIt (p : Part) := p.updFrm 0 fun f => { f with op := 2, opW := c.width, opL := c.lanes, token := c.token, sent := 0, agreed := some (c.width, c.lanes) }
  if f.quiet.isSome || f.switchTx || f.switched || f.rxDone || p.flag (FRM_STATUS_RETRAINING 0) then p
  else match f.op with
    | 0 => (ackIt p).updFrm 0 fun f => { f with cause := 3, collided := false }
    | 1 =>
      if c.width = f.opW ∧ c.lanes = f.opL then p.updFrm 0 fun f => { f with agreed := some (c.width, c.lanes) }
      else if p.winsOver c.primary then p
      else p.updFrm 0 fun f => { f with op := 3, sent := 0, agreed := none, collided := true, ackNext := some (c.width, c.lanes, c.token) }
    | 2 => if c.token = f.token ∧ c.width = f.opW ∧ c.lanes = f.opL then p else ackIt p
    | _ => p

/-- The peer's ACK of this side's request, or its WITHDRAW, is read. -/
def Part.peerAnswer (p : Part) (c : LaneCtrl) : Part :=
  let f := p.frm 0
  if c.op = 2 ∧ f.op = 1 ∧ c.width = f.opW ∧ c.lanes = f.opL ∧ c.token = f.token then
    p.updFrm 0 fun f => { f with agreed := some (c.width, c.lanes) }
  else if c.op = 3 ∧ f.op = 2 ∧ !f.switchTx ∧ !f.switched then p.updFrm 0 fun f => { f with op := 0, sent := 0, agreed := none }
  else p

/-- The peer retrains while this receiver asks for a replay and sees no defect itself: the frame is no longer held, the next payload sets the expectation, and what was lost asks for a full copy (R708, R748; DEDUCED, notes/assumptions/107.md). -/
def Part.replayFailed (p : Part) (k : Nat) : Part :=
  if k = 0 && (p.frm 0).replay && p.defects 0 % 8 == 0 then
    (p.updFrm 0 fun f => { f with expect := none, replay := false }).standbyLost
  else p

/-- A lane control value that was read twice is acted on (R685). -/
def Part.actOnCtrl (p : Part) (k w : Nat) : Part :=
  let c := readCtrl w
  let was := readCtrl (p.frm k).acted
  let p := (p.updFrm k fun f => { f with acted := w }).fs (FRM_LANES_PEER_GOOD k) c.good
  let p := if c.retrain && !was.retrain then (p.replayFailed k).startRetrain k 1 else p
  if k ≠ 0 then p
  else
    let p := if c.switch && (p.frm 0).agreed.isSome && !(p.frm 0).rxDone then (p.updFrm 0 fun f => { f with switchRx := true }).setFlag (FRM_STATUS_SWITCHING 0) true else p
    match c.op with
    | 0 => p
    | 1 => p.peerRequest c
    | _ => p.peerAnswer c

/-- A lane control word is read in a frame. -/
def Part.readLaneCtrl (p : Part) (k w : Nat) : Part :=
  if (p.frm k).word = some w then p.actOnCtrl k w else p.updFrm k fun f => { f with word := some w }

/-- The lowest logical lane in use that is locked. -/
def Part.lockedLane (p : Part) (k : Nat) : Option Nat :=
  let ls := lanesIn (p.fg (FRM_STATUS_LANES k))
  (upTo ls.length fun i => (p.fg (FRM_LANES_LOCK k)).testBit (ls.getD i 0)).head?

/-- The receiver takes the agreed width at the peer's FN 0 after its SWITCH (R713 step 5). -/
def Part.switchRxAt (p : Part) (k : Nat) : Part :=
  let f := p.frm k
  match f.agreed with
  | some (w, l) =>
    if f.switchRx && f.quiet.isNone && decide (f.markFn = 63) then
      ((p.updFrm k fun f => { f with
          quiet := some 8, switchRx := false, marks := []
          cause := if f.cause = 3 then 3 + 4 * p.fg (FRM_STATUS_WIDTH k) else f.cause + 4 * p.fg (FRM_STATUS_WIDTH k) }).loseAlign k).fs (FRM_STATUS_WIDTH k) w |>.fs (FRM_STATUS_LANES k) l
    else p
  | none => p

/-- The change is over on this side once its receiver has ended step 5 and its transmitter has switched (R713, R714); a MAX_WIDTH set meanwhile then makes its request (R720). -/
def Part.changeOver (p : Part) (k : Nat) : Part :=
  let f := p.frm k
  if !(f.rxDone && f.switched) then p
  else ((p.updFrm k fun f => { f with agreed := none, switched := false, rxDone := false }).setFlag (FRM_STATUS_SWITCHING k) false).maxWidthCheck k

/-- One more frame at the new width; the eighth ends step 5 (R713, R714, R724). -/
def Part.quietFrame (p : Part) (k : Nat) : Part :=
  match (p.frm k).quiet with
  | none => p
  | some (n + 2) => p.updFrm k fun f => { f with quiet := some (n + 1) }
  | some _ =>
    let f := p.frm k
    let old := 2 ^ (f.cause / 4)
    let p := p.updFrm k fun f => { f with quiet := none, op := 0, opW := 0, opL := 0, sent := 0, collided := false, rxDone := true }
    let (c, p) := if f.cause % 4 = 3 then p.choose 0 [0, 1, 2] else (f.cause % 4, p)
    let p := p.raiseOp (0x0D00 + k) 0x0D03 none
      (old + 2 ^ p.fg (FRM_STATUS_WIDTH k) * 2 ^ 4 + p.fg (FRM_STATUS_LANES k) * 2 ^ 8 + c * 2 ^ 16 + f.collided.toNat * 2 ^ 18)
    let p := if p.lanesLocked k then p.clearDefect k 1 else p
    (p.defectLook k).changeOver k

/-! ### Stream port payload (R700 to R703) -/

/-- Serial comparison of PSNs (Class W): how far `a` lies ahead of `b`; none where it lies below. -/
def psnAhead (a b : Nat) : Option Nat :=
  let d := (a + 2 ^ 32 - b % 2 ^ 32) % 2 ^ 32
  if d < 2 ^ 31 then some d else none

/-- The payload of a SLIP token (R702). -/
def Loss.payload (l : Loss) : Payload := wordsPay [l.frames, l.cause, l.tokens.getD 0xFFFFFFFF, l.first, 0, 0, 0, 0]

/-- A loss that waits to be reported becomes a SLIP token among the tokens received. -/
def Framer.flushLoss (f : Framer) : Framer :=
  match f.loss with
  | none => f
  | some l => { f with rxq := f.rxq ++ [(0, 3, l.payload)], loss := none }

/-- Frames were lost or repeated; losses in a row of one cause join, so that a gap yields one SLIP token (R702). -/
def Framer.lose (f : Framer) (l : Loss) : Framer :=
  match f.loss with
  | some o =>
    if o.cause = l.cause ∧ l.cause ≠ 1 then
      { f with loss := some ⟨o.frames + l.frames, o.cause, o.tokens.bind fun a => l.tokens.map (a + ·), o.first⟩ }
    else { f.flushLoss with loss := some l }
  | none => { f with loss := some l }

/-- Tokens that wait for credit are injected in order; a SLIP token goes on SLIP_STREAM (R700, R702). -/
def Part.portDrain (p : Part) (k : Nat) : Nat → Part
  | 0 => p
  | fuel + 1 =>
    match (if k = 0 then none else p.portOwner (k - 1)), (p.frm k).rxq with
    | some h, (s, kind, pay) :: rest =>
      let s := if kind = 3 then p.fg (FRM_CTRL_SLIP_STREAM k) else s
      if (p.stream h s).credit = 0 then p
      else ((p.hubInject h s kind pay).updFrm k fun f => { f with rxq := rest }).portDrain k fuel
    | _, _ => p

/-- The owner's VF or the hedge is being reset, or there is no owner: the port sends fill and discards what it receives (R703). -/
def Part.portIdle (p : Part) (k : Nat) : Bool :=
  match p.portOwner (k - 1) with
  | none => true
  | some h => (p.hedge h).resetting || (decide (0 < h) && (p.func h).resetting)

/-- Whether the owner is a hedge that a STANDBY mirrors (R747, R750). -/
def Part.portMirrored (p : Part) (k : Nat) : Bool :=
  match p.portOwner (k - 1) with
  | some h => p.role == 2 && p.tw.mirrored.testBit h
  | none => false

/-- A gap before `psn` is found: its cause is LINK after a defect or a retrain, CRC after an errored frame (R702). -/
def Part.streamGap (p : Part) (k psn n : Nat) : Part :=
  let f := p.frm k
  let (cause, p) := if f.broke then (4, p) else if f.errored then (2, p) else p.choose 4 [2, 4]
  p.updFrm k fun f => f.lose ⟨n, cause, none, (psn + 2 ^ 32 - n) % 2 ^ 32⟩

/-- A frame with a good OH_CRC on a stream port, payload or fill, that no slip dropped (R699 to R702, R706). -/
def Part.streamFrame (p : Part) (k psn : Nat) (fill payOk : Bool) (pay : List Byte) : Part :=
  if p.portIdle k then p.updFrm k fun f => { f with expect := none, rxq := [], loss := none, errored := false, broke := false }
  else
    let ahead := (p.frm k).expect.map fun e => psnAhead psn e
    let p := match ahead with
      | some (some (n + 1)) => p.streamGap k psn (n + 1)
      | _ => p
    let below := decide (ahead = some none)
    let p := p.updFrm k fun f => { f with errored := false, broke := false }
    if fill then if below then p else p.updFrm k fun f => { f with expect := some psn }
    else if below then p.updFrm k fun f => f.lose ⟨0, 1, some 0, psn⟩
    else
      let p := p.updFrm k fun f => { f with expect := some ((psn + 1) % 2 ^ 32) }
      match (if payOk then streamTokens pay else none) with
      | none => p.updFrm k fun f => f.lose ⟨1, 2, none, psn⟩
      | some ts =>
        if ts.any fun t => decide (2 < t.2.1) then p.updFrm k fun f => f.lose ⟨1, 2, none, psn⟩
        else if ((p.frm k).rxq.filter fun t => t.2.1 != 3).length + ts.length > 1024 then
          (p.frmCount k 4 1).updFrm k fun f => f.lose ⟨1, 3, some ts.length, psn⟩
        else if ts = [] then p
        else p.updFrm k fun f => { f.flushLoss with rxq := f.flushLoss.rxq ++ ts }

/-! ### Twin payload (R707, R708, R743) -/

/-- The receiver enters the REPLAY state (R707). -/
def Part.enterReplay (p : Part) : Part :=
  if (p.frm 0).replay then p else (p.frmCount 0 7 1).updFrm 0 fun f => { f with replay := true }

/-- A frame with a good OH_CRC on the twin port that no slip dropped (R707). -/
def Part.twinFrame (p : Part) (psn : Nat) (fill payOk : Bool) (pay : List Byte) : Part :=
  if p.twinMode = 0 then p
  else match (p.frm 0).expect.map fun e => psnAhead psn e with
    | some none => p
    | some (some (_ + 1)) => p.enterReplay
    | _ =>
      if fill then p.updFrm 0 fun f => { f with expect := some psn, replay := false }
      else if !payOk then (p.updFrm 0 fun f => { f with expect := some psn }).enterReplay
      else (p.updFrm 0 fun f => { f with expect := some ((psn + 1) % 2 ^ 32), replay := false }).updTwin fun t =>
        { t with inbox := t.inbox ++ payloadRecords 128 pay }

/-- The sender reads RPSN and REPLAY (R707, R708). -/
def Part.twinAcks (p : Part) (rpsn : Nat) (replay : Bool) : Part :=
  let p := p.updFrm 0 fun f => { f with hist := f.hist.filter fun e => (psnAhead e.1 rpsn).isSome }
  let f := p.frm 0
  if !replay then p.updFrm 0 fun f => { f with replaySeen := false }
  else if f.replaySeen then p
  else
    let p := p.updFrm 0 fun f => { f with replaySeen := true }
    if f.hist.any fun e => e.1 == rpsn then p.updFrm 0 fun f => { f with resend := some rpsn }
    else if rpsn = f.psn then p
    else p.startRetrain 0 3

/-- The twin fields of a frame with a good OH_CRC (R739, R740, R745, R751, R759). -/
def Part.twinOverhead (p : Part) (o : List Byte) (t : Nat) : Part :=
  if p.twinMode = 0 then p
  else
    let f (off n : Nat) := bytesAt o (off - 0x48) n
    let flags := f 0x49 1
    let ep := f 0x6C 4
    let p := (p.updTwin fun w => { w with
      partnerTerm := f 0x70 4, planned := flags.testBit 3
      thetas := (if f 0x48 1 = 0 then [] else w.thetas) ++
        [((f 0x88 8 : Nat) : Int) - (f 0x80 8 : Nat) + (f 0x78 8 : Nat) - (t : Int)] }).heartbeatIn (f 0x68 4)
    let p := p.twinAcks (f 0x58 4) (flags.testBit 4)
    if p.role = 1 && p.tw.formed && ep != 0 then
      let gain := (ep + 2 ^ 32 - p.fg TWN_EPOCH_ACKED_EPOCH) % 2 ^ 32
      let lag := (p.fg TWN_EPOCH_EPOCH + 2 ^ 32 - 1 - ep) % 2 ^ 32
      if 0 < gain ∧ gain < 2 ^ 31 ∧ lag < 2 ^ 16 then (p.fs TWN_EPOCH_ACKED_EPOCH ep).fs TWN_LAG_EPOCHS lag else p
    else if p.role = 2 then p.fs TWN_EPOCH_EPOCH ep
    else p

/-! ### DCC of a received frame (R705, R712, R732) -/

/-- A DCC byte is read from the slip buffer. -/
def Part.dccIn (p : Part) (k ch mfc fn b : Nat) : Part :=
  if p.twinDcc k ch then
    let i := slotIdx mfc fn
    let slot := p.tw.slot
    let slot := if i = 0 then [BitVec.ofNat 8 b] else if slot.length = i then slot ++ [BitVec.ofNat 8 b] else []
    if slot.length < 48 then p.updTwin fun t => { t with slot := slot }
    else p.updTwin fun t => { t with
      slot := [], messages := if crc32c (slot.take 44) = bytesAt slot 44 4 then t.messages ++ [slot] else t.messages }
  else match p.dccPort k ch with
    | none => p
    | some d =>
      let q := Tab.get [] d p.den.toTxd
      if 4 ≤ q.length then p.frmCount k 6 1
      else { p with den := { p.den with toTxd := Tab.put [] d (q ++ [BitVec.ofNat 8 b]) p.den.toTxd } }

/-! ### A received frame -/

/-- What a read from the slip buffer passes on. -/
def Part.passFrame (p : Part) (k : Nat) (o : List Byte) (payOk : Bool) (pay : List Byte) : Part :=
  let f (off n : Nat) := bytesAt o (off - 0x48) n
  let fill := (f 0x49 1).testBit 2
  let fn := f 0x48 1 % 64
  let ch := dccOf fn
  let dcc := ch.map fun c => (c, f (0x90 + c) 1)
  let p := (match dcc with
    | some (c, b) => p.dccIn k c (f 0x4C 4) fn b
    | none => p).updFrm k fun F => { F with lastDcc := dcc, lastFill := fill, lastPsn := f 0x54 4 }
  if k = 0 then p.twinFrame (f 0x54 4) fill payOk pay else p.streamFrame k (f 0x54 4) fill payOk pay

/-- The slip buffer takes the frame: one frame too many is dropped, at once on a stream port and on a fill frame or the fourth on the twin port (R704 to R707). -/
def Part.slipIn (p : Part) (k : Nat) (o : List Byte) (payOk : Bool) (pay : List Byte) : Part :=
  let f (off n : Nat) := bytesAt o (off - 0x48) n
  let fill := (f 0x49 1).testBit 2
  let psn := f 0x54 4
  let full := decide (3 ≤ (p.frm k).buf)
  if k ≠ 0 then
    if !full then (p.updFrm k fun F => { F with buf := F.buf + 1 }).passFrame k o payOk pay
    else
      let p := p.frmCount k 4 1
      let ahead := (p.frm k).expect.map fun e => psnAhead psn e
      if fill || p.portIdle k || decide (ahead = some none) then p
      else
        let p := match ahead with
          | some (some (n + 1)) => p.streamGap k psn (n + 1)
          | _ => p
        p.updFrm k fun F => { (F.lose ⟨1, 0, some (bytesAt pay 0 2), psn⟩) with expect := some ((psn + 1) % 2 ^ 32), errored := false, broke := false }
  else
    let due := match (p.frm 0).due with
      | some (true, n) => some n
      | _ => if full then some 0 else none
    match due with
    | none => (p.updFrm 0 fun F => { F with buf := F.buf + 1, due := match F.due with
        | some (false, n) => some (false, n + 1)
        | d => d }).passFrame 0 o payOk pay
    | some n =>
      if fill ∨ 3 ≤ n then
        let p := (p.frmCount 0 4 1).updFrm 0 fun F => { F with due := none }
        if fill || p.twinMode == 0 then p else p.enterReplay
      else (p.updFrm 0 fun F => { F with due := some (true, n + 1) }).passFrame 0 o payOk pay

/-- Multiframe alignment with a frame number (R690). -/
def Part.mfIn (p : Part) (k fn : Nat) : Part :=
  let f := p.frm k
  let next := some ((fn + 1) % 64)
  if f.mfNext = some fn then
    ((p.updFrm k fun f => { f with mf := true, mfNext := next, mfBad := 0 }).clearDefect k 3)
  else if f.mfNext.isNone then p.updFrm k fun f => { f with mfNext := next, mfBad := 1 }
  else if f.mf && decide (f.mfBad < 2) then p.updFrm k fun f => { f with mfBad := f.mfBad + 1, mfNext := f.mfNext.map fun n => (n + 1) % 64 }
  else
    let p := p.updFrm k fun f => { f with mf := false, mfNext := next, mfBad := f.mfBad + 1 }
    if (p.frm k).mfBad ≥ 3 then p.declare k 3 else p

/-- A bit that is set, or clear, in three good frames in a row (R692): the count of frames against what stands, and the change that is due. -/
def threeInRow (stands now : Bool) (n : Nat) : Nat × Bool := if stands = now then (0, false) else if n ≥ 2 then (0, true) else (n + 1, false)

/-- AIS and RDI of a good frame (R692). -/
def Part.flagsIn (p : Part) (k flags : Nat) : Part :=
  let a := threeInRow ((p.defects k).testBit 4) (flags.testBit 0) (p.frm k).ais
  let p := p.updFrm k fun f => { f with ais := a.1 }
  let p := if a.2 then if flags.testBit 0 then p.declare k 4 else p.clearDefect k 4 else p
  let r := threeInRow ((p.defects k).testBit 5) (flags.testBit 1) (p.frm k).rdi
  let p := p.updFrm k fun f => { f with rdi := r.1, rdiNow := flags.testBit 1 }
  if r.2 then if flags.testBit 1 then p.declare k 5 else p.clearDefect k 5 else p

/-- A frame in alignment, descrambled: overhead and payload (R686, R687, R690 to R707). `bad` says whether its FAW was errored. -/
def Part.alignedFrame (p : Part) (k t : Nat) (raw : List Byte) (badFaw : Bool) : Part :=
  let bs := scramble raw
  let o := (bs.drop 0x48).take 0xB4
  let pay := bs.drop 0x100
  let bipWas := (p.frm k).bipPrev
  let p := p.updFrm k fun f => { f with bipPrev := some (bip16 raw) }
  if crc32c o ≠ bytesAt bs 0xFC 4 then
    let p := (p.frmCount k 2 1).updFrm k fun f => { f with
      rei := 0, errored := true, buf := min 3 (f.buf + 1), mfNext := if f.mf then f.mfNext.map fun n => (n + 1) % 64 else none }
    if k = 0 && p.twinMode != 0 then p.enterReplay else p
  else
    let f (off n : Nat) := bytesAt o (off - 0x48) n
    let payOk := decide (crc32c pay = f 0x5C 4)
    let errs := match bipWas with
      | some b => ones 16 (b ^^^ f 0x4A 2)
      | none => 0
    let p := (p.updFrm k fun F => { F with rei := errs, echoTx := f 0x78 8, echoRx := t, flags := f 0x49 1, rpsn := f 0x58 4 }).fs
      (FRM_PEER_SERIAL_SERIAL k) (f 0x60 8)
    let p := (p.mfIn k (f 0x48 1 % 64)).flagsIn k (f 0x49 1)
    let p := ((p.frmCount k 0 errs).frmCount k 2 (if errs ≠ 0 || badFaw || !payOk then 1 else 0)).frmCount k 3 (f 0x50 1)
    let p := if k = 0 then p.twinOverhead o t else p
    p.slipIn k o payOk pay

/-- The FAW of a frame at its place (R689). The answer says whether the frame lies in alignment, and whether its FAW was errored. -/
def Part.fawIn (p : Part) (k : Nat) (raw : List Byte) : Bool × Bool × Part :=
  let f := p.frm k
  let bad := decide (f.par.1 < fawErrors raw)
  if f.aligned then
    if !bad then (true, false, p.updFrm k fun f => { f with badFaw := 0 })
    else
      let p := (p.frmCount k 1 1).updFrm k fun f => { f with badFaw := f.badFaw + 1 }
      if (p.frm k).badFaw < f.par.2.2 then (true, true, p)
      else (false, true, ((p.frmCount k 2 1).loseAlign k).declare k 2)
  else if bad || !p.lanesLocked k then (false, bad, p.updFrm k fun f => { f with confirm := 0 })
  else if f.confirm + 1 < f.par.2.1 then (false, false, p.updFrm k fun f => { f with confirm := f.confirm + 1 })
  else (true, false, (p.updFrm k fun f => { f with aligned := true, confirm := 0, badFaw := 0 }).clearDefect k 2)

/-- Whether the framers run (R773, R808): TWIN_REFCLK is present, S6 has enabled the ports, and the high-speed supplies are up. -/
def Part.denbenUp (p : Part) : Bool := p.den.refclk && p.den.up && !p.qsDown

/-- BUFFER shows the slip buffer. -/
def Part.bufView (p : Part) (k : Nat) : Part := p.fs (FRM_STATUS_BUFFER k) (min 3 (p.frm k).buf)

/-- FRAME_RECEIVE. -/
def Part.frameIn (p : Part) (k t : Nat) (raw : List Byte) : Part :=
  let p := p.at t
  if !p.denbenUp || decide (8 < k) || raw.length != 8448 then p
  else
    let p := p.switchRxAt k
    let p := match p.lockedLane k with
      | some i =>
        let w := 2 ^ p.fg (FRM_STATUS_WIDTH k)
        let j := (upTo 8 fun j => (j + 2) % w == i).headD 0
        (p.updFrm k fun f => { f with markFn := bitsOfNat (bytesAt raw (4 * (2 + j)) 4) 8 6 }).readLaneCtrl k (bytesAt raw (4 * (10 + j)) 4)
      | none => p
    let (inFrame, bad, p) := p.fawIn k raw
    let p := if inFrame && p.defects k % 4 == 0 then p.alignedFrame k t raw bad else p
    (((p.quietFrame k).retrainCheck k).portDrain k 1100).bufView k

/-- LANE_MARKER: a marker with its lane control word arrives on a lane, right or wrong, and the skew of the lanes in use in words (R684, R685, R688). -/
def Part.laneMark (p : Part) (k t lane : Nat) (ok : Bool) (fn ctrl skew : Nat) : Part :=
  let p := p.at t
  if !p.denbenUp || decide (8 < k) || decide (8 ≤ lane) || (decide (k ≠ 0) && decide (lane ≠ 0)) then p
  else
    let n : Int := if ok then max 0 (Tab.get 0 lane (p.frm k).marks) + 1 else min 0 (Tab.get 0 lane (p.frm k).marks) - 1
    let n := max (-4) (min 3 n)
    let p := p.updFrm k fun f => { f with marks := Tab.put 0 lane n f.marks, skew := skew }
    let set (p : Part) (f : Fld) (b : Bool) := p.setFlag ⟨f.reg, f.lo + lane, 1⟩ b
    let p := if ok then set p (FRM_LANES_NO_SIGNAL k) false else p
    let p := if n = 3 then set p (FRM_LANES_LOCK k) true else if n = -4 then set p (FRM_LANES_LOCK k) false else p
    let p := p.fs (FRM_LANES_GOOD k) (p.fg (FRM_LANES_LOCK k) &&& (255 - p.fg (FRM_LANES_NO_SIGNAL k)))
    let p := if ok && (p.lockedLane k).isNone && (p.fg (FRM_LANES_LOCK k)).testBit lane then
      (p.updFrm k fun f => { f with markFn := fn % 64 }).readLaneCtrl k ctrl else p
    let used := (p.fg (FRM_STATUS_LANES k)).testBit lane
    let p := if p.lanesLocked k then p.clearDefect k 1 else if used && (n = -4 || decide (64 < skew)) then p.declare k 1 else p
    p.retrainCheck k

/-- DLOS_TIMER: the lanes that have had a signal for 10 µs, the others lacking one for 1 µs (R692, R808). -/
def Part.signalTimer (p : Part) (k t sig : Nat) : Part :=
  let p := p.at t
  if decide (8 < k) || !p.den.up || p.qsDown then p
  else
    let sig := if p.den.refclk then (if k = 0 then sig % 256 else sig % 2) else 0
    let p := p.fs (FRM_LANES_NO_SIGNAL k) (255 - sig)
    let p := p.fs (FRM_LANES_GOOD k) (p.fg (FRM_LANES_LOCK k) &&& sig)
    if p.fg (FRM_STATUS_LANES k) &&& sig = 0 then p.declare k 0 else p.clearDefect k 0

/-! ### A transmitted frame -/

/-- The maps of DENBEN_DCC_MAP take effect at a multiframe of their port (R709). -/
def Part.dccMaps (p : Part) (k : Nat) : Part :=
  forN 4 (fun d p =>
    let want := if p.flag (FRM_DCC_ENABLE d) && p.fg (FRM_DCC_PORT d) == k then some (k, p.fg (FRM_DCC_CHANNEL d)) else none
    let now := Tab.get none d p.den.live
    if want.isSome || now.any (fun m => m.1 == k) then { p with den := { p.den with live := Tab.put none d want p.den.live } } else p) p

/-- At FN 0 the transmitter changes to the agreed width, and sends fill in 8 frames (R713 step 4); SWITCH is set from FN 56 (step 3). -/
def Part.switchTxAt (p : Part) (k : Nat) : Part :=
  let f := p.frm k
  match f.agreed with
  | some (w, l) =>
    if f.fn = 0 ∧ f.switchTx then (p.updFrm k fun f => { f with txW := w, txL := l, fill := 8, switchTx := false, switched := true }).changeOver k
    else if f.fn = 56 ∧ (2 ≤ f.sent ∨ f.rxDone) ∧ !f.switched then (p.updFrm k fun f => { f with switchTx := true }).setFlag (FRM_STATUS_SWITCHING k) true
    else p
  | none => p

/-- The twin port's next payload: a resent frame, or records that wait, where R708 lets it send one; none is a fill frame. The flag says whether it is new. -/
def Part.twinNext (p : Part) : Option (Nat × List Byte × Bool) × Part :=
  let f := p.frm 0
  let l := f.txL
  if p.twinMode = 0 || decide (0 < f.fill) || p.rxDown 0 || p.fg (FRM_LANES_PEER_GOOD 0) &&& l != l then (none, p)
  else match f.resend.bind fun r => f.hist.find? fun e => e.1 == r with
    | some (n, pay) =>
      let next := (n + 1) % 2 ^ 32
      (some (n, pay, false), p.updFrm 0 fun f => { f with resend := if f.hist.any fun e => e.1 == next then some next else none })
    | none =>
      let p := p.updFrm 0 fun f => { f with resend := none }
      if p.tw.outbox.isEmpty || decide (64 ≤ f.hist.length) then (none, p)
      else
        let (pay, rest) := packRecords 128 [] p.tw.outbox
        let pay := pay ++ List.replicate (8192 - pay.length) 0
        (some (f.psn, pay, true), (p.updTwin fun t => { t with outbox := rest }).updFrm 0 fun f => { f with hist := f.hist ++ [(f.psn, pay)] })

/-- A stream port's next payload: up to 240 waiting tokens, each returning its credit (R699, R703, R747). -/
def Part.streamNext (p : Part) (k : Nat) : Option (Nat × List Byte × Bool) × Part :=
  if p.portIdle k || p.portMirrored k then (none, p)
  else
    let f := p.frm k
    let ts := f.txq.take 240
    if ts.isEmpty then (none, p)
    else (some (f.psn, streamPayload ts, true),
      forIn' ts (fun t p => p.hubDrop t) (p.updFrm k fun f => { f with txq := f.txq.drop 240 }))

/-- A repeat slip of the twin port: a repeated payload is discarded by its PSN (R707). -/
def Part.repeatTwin (p : Part) : Part :=
  let f := p.frm 0
  let p := (p.frmCount 0 5 1).updFrm 0 fun f => { f with due := none, buf := f.buf + 1 }
  match f.lastDcc with
  | some (c, b) => if p.twinDcc 0 c then p.updTwin fun t => { t with slot := [] } else p.dccIn 0 c 0 0 b
  | none => p

/-- The receiver reads one frame in its own frame period; an empty buffer repeats the last one (R704 to R707). -/
def Part.slipOut (p : Part) (k : Nat) : Part :=
  let f := p.frm k
  if !f.aligned || p.defects k % 4 != 0 then p
  else if 0 < f.buf then
    let p := p.updFrm k fun f => { f with buf := f.buf - 1 }
    match f.due with
    | some (false, n) => if f.lastFill ∨ 4 ≤ n then p.repeatTwin else p
    | _ => p
  else if k = 0 then
    if f.lastFill then p.repeatTwin else p.updFrm 0 fun f => { f with due := if f.due.isSome then f.due else some (false, 0) }
  else
    let p := p.frmCount k 5 1
    let p := match f.lastDcc with
      | some (c, b) => p.dccIn k c f.mfc f.fn b
      | none => p
    if f.lastFill || p.portIdle k then p else p.updFrm k fun f => f.lose ⟨0, 1, some 0, f.lastPsn⟩

/-- After a frame is sent: frame number, multiframe counter, BIP, and the lane control counts (R713, R716, R717). -/
def Part.afterFrame (p : Part) (k bip : Nat) (new : Bool) : Part :=
  p.updFrm k fun f =>
    let f := { f with
      fn := (f.fn + 1) % 64
      mfc := if f.fn = 63 then (f.mfc + 1) % 2 ^ 32 else f.mfc
      bip := bip
      psn := if new then (f.psn + 1) % 2 ^ 32 else f.psn
      fill := f.fill - 1
      retrainSend := f.retrainSend - 1
      sent := if f.op = 0 then 0 else f.sent + 1 }
    match f.op, f.ackNext with
    | 3, some (w, l, tok) => { f with op := 2, opW := w, opL := l, token := tok, sent := 0, agreed := some (w, l), ackNext := none }
    | _, _ => f

/-- One frame is built and sent. -/
def Part.sendFrame (p : Part) (k : Nat) (planned : Bool) : Part :=
  let p := (if (p.frm k).fn = 0 then p.dccMaps k else p).switchTxAt k
  let (pay, p) := if planned then (none, p) else if k = 0 then p.twinNext else p.streamNext k
  let f := p.frm k
  let ch := dccOf f.fn
  let (l, p) := if ch = some 0 then p.dccOut k 0 f.mfc f.fn else (0, p)
  let (b, p) := if ch = some 1 then p.dccOut k 1 f.mfc f.fn else (0, p)
  let bytes := match pay with
    | some (n, x, _) => p.frameOf k false planned n l b x
    | none => p.frameOf k true planned (f.resend.getD f.psn) l b (List.replicate 8192 0)
  let new := match pay with
    | some (_, _, n) => n
    | none => false
  (p.emit (.frame k bytes)).afterFrame k (bip16 bytes) new

/-- FRAME_TRANSMIT. -/
def Part.frameOut (p : Part) (k t : Nat) : Part :=
  let p := p.at t
  if !p.denbenUp || decide (8 < k) then p
  else
    let p := if p.flag (FRM_CTRL_ENABLE k) then p.sendFrame k false else p
    ((p.slipOut k).portDrain k 1100).bufView k

/-! ### Meanings -/

/-- FRAME_RECEIVE (R685 to R707). -/
def execFrameReceive (p t : Nat) (bytes : List Byte) (s : State) : Host.Outcome State Fault Refusal :=
  onPartIf (p < 9) (fun P => P.frameIn p t bytes) s

/-- FRAME_TRANSMIT (R699, R713). -/
def execFrameTransmit (p t : Nat) (s : State) : Host.Outcome State Fault Refusal :=
  onPartIf (p < 9) (fun P => P.frameOut p t) s

/-- DLOS_TIMER (R692). -/
def execDlosTimer (p t signal : Nat) (s : State) : Host.Outcome State Fault Refusal :=
  onPartIf (p < 9) (fun P => P.signalTimer p t signal) s

/-- WIDTH_REQUEST (R715). -/
def execWidthRequest (t : Nat) (s : State) : Host.Outcome State Fault Refusal :=
  onPart (fun P => if P.denbenUp then (P.at t).narrow else P) s

/-- WIDTH_RESTORE (R715). -/
def execWidthRestore (t : Nat) (s : State) : Host.Outcome State Fault Refusal :=
  onPart (fun P => if P.denbenUp then (P.at t).widen else P) s

/-- RETRAIN_DEFECT_TIMEOUT (R717): only while no width change runs. -/
def execRetrainDefectTimeout (p t : Nat) (s : State) : Host.Outcome State Fault Refusal :=
  onPartIf (p < 9) (fun P =>
    let P := P.at t
    match (P.frm p).defectAt with
    | some a => if p ≤ 8 ∧ P.denbenUp ∧ a + 10000000 ≤ P.time ∧ !P.widthBusy p then P.startRetrain p 2 else P
    | none => P) s

/-- RETRAIN_ATTEMPT_TIMEOUT (R718). -/
def execRetrainAttemptTimeout (p t : Nat) (s : State) : Host.Outcome State Fault Refusal :=
  onPartIf (p < 9) (fun P =>
    let P := P.at t
    let f := P.frm p
    if P.flag (FRM_STATUS_RETRAINING p) && f.failedAt.isNone && decide (f.attemptAt + 10000000 ≤ P.time) then
      P.updFrm p fun f => { f with failedAt := some P.time, waitMs := if f.waitMs = 0 then 1 else min 1000 (2 * f.waitMs) }
    else P) s

/-- RETRAIN_RETRY (R718). -/
def execRetrainRetry (p t : Nat) (s : State) : Host.Outcome State Fault Refusal :=
  onPartIf (p < 9) (fun P =>
    let P := P.at t
    match (P.frm p).failedAt with
    | some a => if P.flag (FRM_STATUS_RETRAINING p) && decide (a + (P.frm p).waitMs * 1000000 ≤ P.time) then P.attempt p else P
    | none => P) s

/-- DCC_EXCHANGE (R711, R712): what TXD sends while its FIFO is empty is not given. -/
def execDccExchange (d rxd : Nat) (s : State) : Host.Outcome State Fault Refusal :=
  onPartIf (d < 4) (fun P =>
    match Tab.get none d P.den.live with
    | none => P
    | some (k, _) =>
      let out := Tab.get [] d P.den.toTxd
      let inn := Tab.get [] d P.den.fromRxd
      if P.flag (FRM_DCC_SUSPENDED d) || (out.isEmpty && decide (4 ≤ inn.length)) then P
      else
        let (b, P) := match out with
          | b :: _ => (b.toNat, P)
          | [] => P.draw 256
        let P := P.emit (.serial d [BitVec.ofNat 8 b])
        let P := { P with den := { P.den with toTxd := Tab.put [] d out.tail P.den.toTxd } }
        if 4 ≤ inn.length then P.frmCount k 6 1
        else { P with den := { P.den with fromRxd := Tab.put [] d (inn ++ [BitVec.ofNat 8 rxd]) P.den.fromRxd } }) s

/-- FRM_CLEAR_WRITE (R697, R723). -/
def execFrmClearWrite (p bits coin : Nat) (s : State) : Host.Outcome State Fault Refusal :=
  blockPart 7 (True) (fun P => if p ≤ 8 then forN 8 (fun i P => if bits.testBit i then P.clrHit (FRM_CNT p i) (coin.testBit i) else P) P else P) s

/-- TWIN_REFCLK_LOSS (R808): every transmitter is silent and every framer reports dLOS. -/
def execTwinRefclkLoss (t : Nat) (s : State) : Host.Outcome State Fault Refusal :=
  onPart (fun P =>
    let P := P.at t
    forN 9 (fun k P => P.signalTimer k P.time 0) { P with den := { P.den with refclk := false } }) s

/-- TWIN_REFCLK_RETURN (R808): the transmitters send again. -/
def execTwinRefclkReturn (t : Nat) (s : State) : Host.Outcome State Fault Refusal :=
  onPart (fun P =>
    let P := P.at t
    { P with den := { P.den with refclk := true } }) s

/-- LANE_MARKER (R684, R688). -/
def execLaneMarker (p t lane : Nat) (ok : Bool) (fn ctrl skew : Nat) (s : State) : Host.Outcome State Fault Refusal :=
  onPartIf (p < 9 ∧ lane < 8) (fun P => P.laneMark p t lane ok fn ctrl skew) s

end Sys2Proof.Machine
end

