-- ==== Sys2Proof/Machine/Twin.lean ====
section
/-!
DEFINITION. Sys2Proof/Machine/Twin.lean: the twin function: partner messages, forming and dissolving a pair, epochs, mirror records, lockstep results, shared time and failover (R725 to R764).
-/

namespace Sys2Proof.Machine

open Sys2Proof

/-! ### Heartbeats and the fence (R739, R740) -/

/-- Whether firmware serves the part: service above none and no halted core (R656, R739). -/
def Part.firmwareRuns (p : Part) : Bool := p.fg GBL_STATUS_SERVICE != 0 && p.core.halted == 0

/-- The part stops seeing its partner: a later one appears anew (R754). -/
def Part.partnerGone (p : Part) : Part := p.updTwin fun t => { t with versionRaised := false }

/-- 32 heartbeats are missing (R740). -/
def Part.heartbeatMissing (p : Part) (t : Nat) : Part :=
  let p := p.at t
  let from_ := max (p.tw.beatAt.getD 0) p.tw.since
  if p.twinMode = 0 ∨ p.tw.missing ∨ p.time < from_ + 160000 then p
  else (((p.updTwin fun w => { w with missing := true }).partnerGone).partnerCheck false p.tw.fenceAbsent)

/-- No fence edge for 100 µs (R740). -/
def Part.fenceMissing (p : Part) (t : Nat) : Part :=
  let p := p.at t
  let from_ := max (p.tw.fenceAt.getD 0) p.tw.since
  if p.twinMode = 0 ∨ p.tw.fenceAbsent ∨ p.time < from_ + 100000 then p
  else (p.updTwin fun w => { w with fenceAbsent := true }).partnerCheck p.tw.missing false

/-- A fence edge (R740). -/
def Part.fenceEdge (p : Part) (t : Nat) : Part :=
  let p := p.at t
  let was := p.tw.fenceAbsent
  let p := p.updTwin fun w => { w with fenceAt := some p.time, fenceAbsent := false }
  if p.twinMode = 0 then p else p.partnerCheck p.tw.missing was

/-! ### Taking PRIMARY and STANDBY (R726, R736, R737, R757, R760) -/

/-- The part begins to take PRIMARY: the core domain writes its new term (R726). -/
def Part.promote (p : Part) (cause : Nat) (mbx : Option Nat) : Part :=
  if p.tw.promote.isSome then p else p.updTwin fun t => { t with promote := some ⟨cause, p.nextTerm, mbx⟩ }

/-- A queue pair takes the CQ state of its QUEUE record, and its SQ head at the oldest descriptor that had not completed (R757). -/
def Part.restoreQueue (p : Part) (r : QueueRec) : Part :=
  if !(p.qp r.qp).exist then p
  else
    let size := (p.qp r.qp).sqSize
    let head := r.sqHead % size
    let p := p.updQp r.qp fun Q => { Q with descs := [], fetching := none, fetchStop := true, cplStop := false, held := [] }
    ((p.fs (DB_SQ_HEAD_HEAD r.qp) head).fs (DB_CQ_TAIL_TAIL r.qp) r.cqTail).fs (DB_CQ_TAIL_PHASE r.qp) r.phase

/-- The term is written and the part acts as PRIMARY (R726, R741, R756, R757). -/
def Part.termWritten (p : Part) : Part :=
  match p.tw.promote with
  | none => p
  | some pr =>
    let p := (p.updTwin fun t => { t with promote := none }).writeTerm pr.term
    if pr.cause = 0 then
      let p := p.setRole 1 0
      let p := p.fs TWN_STATUS_REQUEST 0
      match pr.mbx with
      | some m => p.mbxEnd m stOk (natLe 4 p.term)
      | none => p
    else
      let p := if p.twinMode = 1 then forIn' p.tw.ackedRecs (fun r p => p.restoreQueue r) p else p
      let acked := p.fg TWN_EPOCH_ACKED_EPOCH
      let p := (p.fs TWN_EPOCH_EPOCH ((acked + 1) % 2 ^ 32)).fs TWN_LAG_EPOCHS 0
      if pr.cause = 2 then
        let p := ((p.unpair).incE TWN_FAILOVERS_COUNT).twinEventAll 0x0E07 (acked + pr.term * 2 ^ 32)
        p.setRole 1 2
      else
        let p := (p.updTwin fun t => { t with copy := true, dirty := [], stale := [] }).fs TWN_STATUS_REQUEST 0
        p.setRole 1 7

/-- The part becomes STANDBY of its partner and takes its term (R726, R737). -/
def Part.takeStandby (p : Part) (cause : Nat) : Part :=
  let p := (p.writeTerm p.tw.partnerTerm).fs TWN_STATUS_REQUEST 0
  let p := p.updTwin fun t => { t with
    formed := true, split := false, outbox := [], inbox := [], heldRecs := [], gotGranules := 0, gotQueues := 0, passedSeq := none
    synced1 := false, badRounds := 0, goodRounds := 0, mine := [], theirs := [], ended := [] }
  (p.setRole 2 cause).setFlag TWN_STATUS_SYNCED false

/-- The first epoch is numbered 1 when a pair first forms (R741). -/
def Part.openEpochs (p : Part) : Part :=
  if p.tw.opened then p
  else
    let p := p.updTwin fun t => { t with opened := true }
    ((p.fs TWN_EPOCH_EPOCH 1).fs TWN_EPOCH_ACKED_EPOCH 0).fs TWN_LAG_EPOCHS 0

/-- The primary's side of a new pair: a full copy starts at the next close (R737, R742). -/
def Part.formPrimary (p : Part) : Part :=
  (p.updTwin fun t => { t with formed := true, split := false, copy := true, outbox := [], mine := [], theirs := [], ended := [] }).openEpochs

/-! ### STATUS messages (R733 to R738, R754) -/

/-- Whether the twin port of each part has none of dLOS, dLOL, dLOF and dLOM: the partner's shows in RDI (R694, R737). -/
def Part.twinPortGood (p : Part) : Bool := !p.rxDown 0 && !(p.frm 0).rdiNow

/-- VERSION_DISCORD and CONFIG_DISCORD as a STATUS is compared (R754). -/
def Part.discords (p : Part) (q : Partner) (mine : List Byte) : Part :=
  let p :=
    if q.major = 2 ∨ p.tw.versionRaised then p
    else (p.updTwin fun t => { t with versionRaised := true }).twinEvent 0x0E02 (2 + 1 * 2 ^ 8 + q.major * 2 ^ 16 + q.minor * 2 ^ 24)
  if q.digest = mine then p.updTwin fun t => { t with differ := none, configRaised := [] }
  else if p.tw.formed then p.updTwin fun t => { t with differ := t.differ <|> some p.time }
  else if p.tw.configRaised = q.digest then p
  else (p.updTwin fun t => { t with configRaised := q.digest }).twinEvent 0x0E01 (bytesAt mine 0 4 + bytesAt q.digest 0 4 * 2 ^ 32)

/-- Both parts are PRIMARY: the lower term yields, or at equal terms the lower serial number (R754). -/
def Part.splitBrain (p : Part) (q : Partner) : Part :=
  let own := p.term
  let p := if p.tw.splitNow then p
    else (p.updTwin fun t => { t with split := true, splitNow := true }).twinEventAll 0x0E04 (own + q.term * 2 ^ 32)
  if own < q.term ∨ (own = q.term ∧ p.ep.serial < p.fg (FRM_PEER_SERIAL_SERIAL 0)) then
    (p.becomeUnpaired 3).updTwin fun t => { t with splitNow := false }
  else p

/-- Roles as a STATUS compares them (R736 to R738, R754, R760). An exchange of roles for TWIN_RESYNC goes through REQUEST, and a partner that has taken STANDBY already forms the pair as one that asks for it (DEDUCED, notes/assumptions/28.md, 107.md). -/
def Part.compareRoles (p : Part) (q : Partner) (same : Bool) : Part :=
  match p.role with
  | 1 =>
    if q.role = 1 then
      if p.fg TWN_STATUS_REQUEST = 2 ∧ p.tw.formed then p.takeStandby 7
      else if q.request = 2 ∧ p.tw.formed then p
      else p.splitBrain q
    else
      let p := p.updTwin fun t => { t with splitNow := false }
      if p.tw.formed then
        if q.role = 2 ∧ q.request = 1 then p.takeStandby 7
        else if (q.role = 3 ∧ q.request ≠ 2) ∨ q.role = 0 then p.unpair
        else if q.role = 2 ∧ !q.flags.testBit 0 ∧ !p.tw.copy ∧ p.tw.outbox.isEmpty ∧ (p.frm 0).hist.isEmpty then
          p.updTwin fun t => { t with copy := true }
        else p
      else if ((q.role = 3 ∧ q.request = 2) ∨ q.role = 2) ∧ same ∧ p.twinPortGood then p.formPrimary
      else p
  | 2 =>
    if (q.role = 3 ∨ q.role = 0) ∧ !p.tw.missing then p.becomeUnpaired 5
    else if q.role = 1 ∧ q.request = 2 ∧ p.tw.formed then p.promote 7 none
    else if q.role = 2 ∧ p.fg TWN_STATUS_REQUEST = 1 then p.promote 7 none
    else if q.role = 1 ∧ q.term ≠ p.term then p.writeTerm q.term
    else p
  | 3 =>
    if q.role = 1 ∧ p.fg TWN_STATUS_REQUEST = 2 ∧ same ∧ p.twinPortGood then (p.openEpochs).takeStandby 1 else p
  | _ => p

/-- A STATUS message is taken (R733). -/
def Part.statusIn (p : Part) (m : List Byte) : Part :=
  let q : Partner := ⟨bytesAt m 1 1, bytesAt m 2 1, bytesAt m 3 1 % 4, bytesAt m 3 1 / 16 % 4, bytesAt m 4 4, (m.drop 8).take 32, bytesAt m 0x28 1⟩
  let p := p.updTwin fun t => { t with partner := some q, partnerTerm := q.term }
  let mine := p.pairDigest
  (p.discords q mine).compareRoles q (q.major == 2 && q.digest == mine)

/-- The first waiting message of a type is taken off; the messages before it stay in order. -/
def Part.takeMessage (p : Part) (type : Nat) : Option (List Byte) × Part :=
  match p.tw.messages with
  | m :: rest => if bytesAt m 0 1 = type then (some m, p.updTwin fun t => { t with messages := rest }) else (none, p)
  | [] => (none, p)

/-- A LOOP message is taken (R735, R751, R761). -/
def Part.loopIn (p : Part) (m : List Byte) : Part :=
  let p := p.updTwin fun t => { t with partnerOffset := (BitVec.ofNat 64 (bytesAt m 0x10 8)).toInt }
  let seq := bytesAt m 4 4
  if !p.loopStandby || bytesAt m 1 1 != 1 || p.tw.passedSeq == some seq then p
  else
    let p := p.updTwin fun t => { t with passedSeq := some seq }
    p.sourceInput (bytesAt m 2 2) (bytesAt m 8 4)

/-- A PRIMARY reads its source current (R735). -/
def Part.sourceRead (p : Part) (t : Nat) : Part :=
  let p := p.at t
  if p.role ≠ 1 then p
  else
    let valid := p.flag LCH_LOOP_STATUS_LOOP_PRESENT && p.loop.given.isSome
    let ua := p.loop.given.getD 0
    if ua = p.tw.srcUa ∧ valid = p.tw.srcValid ∧ p.time < p.tw.srcAt + 1000000 then p
    else p.updTwin fun w => { w with srcUa := ua, srcValid := valid, srcSeq := (w.srcSeq + 1) % 2 ^ 32, srcAt := p.time }

/-! ### Closing an epoch (R741 to R744, R746, R749, R750) -/

/-- The granules of a page as a primary sends them, with the poison mask (R744). -/
def Dev.pageOut (d : Dev) (page : Nat) : List Byte × Nat × Dev :=
  (List.range 64).foldl (fun (acc : List Byte × Nat × Dev) i =>
    let (bs, pois, d) := acc
    let a := 4096 * page + 64 * i
    if !d.p.sliceUp (sliceOf a) then (bs ++ List.replicate 64 0, pois + 2 ^ i, d)
    else
      let (x, ok, d) := d.readIn a 64
      if ok then (bs ++ x, pois, d) else (bs ++ List.replicate 64 0, pois + 2 ^ i, d)) ([], 0, d)

/-- The DATA record of a page (R743). -/
def Dev.dataRecord (d : Dev) (epoch page : Nat) : List Byte × Dev :=
  let (bs, pois, d) := d.pageOut page
  let a := 4096 * page
  (unitOf [(0, [1]), (1, [64]), (2, natLe 2 (a / 2 ^ 30)), (4, natLe 4 (a % 2 ^ 30)), (8, natLe 4 epoch), (0x10, natLe 8 pois)] ++ bs, d)

/-- The pages of the mirror regions, region by region. -/
def Part.regionPages (p : Part) : List Nat :=
  (List.range 64).flatMap fun r => match p.mirRegion r with
    | some (j, o, n, _) => (List.range (n / 4096)).map fun i => (j * 2 ^ 30 + o) / 4096 + i
    | none => []

/-- The queue pairs of mirrored hedges that exist. -/
def Part.mirroredQps (p : Part) : List Nat :=
  p.mirroredHedges.flatMap fun h => (p.qpsOf h).filter fun q => (p.qp q).exist

/-- The SQ index of the oldest descriptor of queue pair `q` that has not completed; the next one to fetch where all have (R757). -/
def Part.oldestIdx (p : Part) (q : Nat) : Nat :=
  let Q := p.qp q
  let head := p.fg (DB_SQ_HEAD_HEAD q)
  match Q.descs with
  | [] => head
  | x :: _ => (head + Q.sqSize - (Q.nextId - x.id) % Q.sqSize) % Q.sqSize

/-- The QUEUE record of a queue pair (R743): its SQ_HEAD is the head that R757 restores (DEDUCED, notes/assumptions/107.md). -/
def Part.queueRecord (p : Part) (epoch q : Nat) : List Byte :=
  let Q := p.qp q
  let ds := Q.descs.take 64
  unitOf [(0, [2]), (1, natLe 1 ds.length), (2, natLe 2 q), (4, natLe 2 (p.oldestIdx q)), (6, natLe 2 (p.fg (DB_CQ_TAIL_TAIL q))),
    (8, natLe 4 epoch), (0xC, natLe 1 (p.fg (DB_CQ_TAIL_PHASE q)))] ++ ds.flatMap (fun x => (x.raw ++ List.replicate 64 0).take 64)

/-- A CLOSE record (R743). -/
def closeRecord (resync : Bool) (epoch granules queues : Nat) : List Byte :=
  unitOf [(0, [4]), (1, [if resync then 1 else 0]), (8, natLe 4 epoch), (0xC, natLe 4 granules), (0x10, natLe 2 queues)]

/-- A RESULT record (R743). -/
def resultRecord (epoch : Nat) (u : UnitRes) : List Byte :=
  unitOf [(0, [5]), (1, natLe 1 u.hedge), (2, natLe 1 u.stream), (4, natLe 4 u.unit), (8, natLe 4 epoch), (0x20, u.digest)]

/-- Records join those that wait for the twin port. -/
def Part.sendRecords (p : Part) (rs : List (List Byte)) : Part := p.updTwin fun t => { t with outbox := t.outbox ++ rs }

/-- The records of a page list, read now. -/
def Dev.sendPages (d : Dev) (epoch : Nat) (pages : List Nat) : Dev :=
  pages.foldl (fun d page =>
    let (r, d) := d.dataRecord epoch page
    d.onP fun p => p.sendRecords [r]) d

/-- RESULT_DISCORD and its count (R750, R763). -/
def Part.resultDiscord (p : Part) (u : UnitRes) (missing : Bool) : Part :=
  let k := skey u.hedge u.stream
  let p := p.incS TWN_RESULT_DISCORDS
  if p.tw.raised.contains k then p
  else (p.updTwin fun t => { t with raised := k :: t.raised }).twinEventAll 0x0E05
    (u.hedge + u.stream * 2 ^ 8 + missing.toNat * 2 ^ 16 + u.unit * 2 ^ 32)

/-- Two results of one unit. -/
def UnitRes.same (a b : UnitRes) : Bool := a.hedge == b.hedge && a.stream == b.stream && a.unit == b.unit

/-- Units that one part reported 16 epochs ago and the other has not (R750). -/
def Part.missingResults (p : Part) (epoch : Nat) : Part :=
  let old (u : UnitRes) : Bool := decide ((epoch + 2 ^ 32 - u.epoch) % 2 ^ 32 ≥ 16) && decide ((epoch + 2 ^ 32 - u.epoch) % 2 ^ 32 < 2 ^ 31)
  let late := (p.tw.mine ++ p.tw.theirs).filter old
  let p := p.updTwin fun t => { t with mine := t.mine.filter (!old ·), theirs := t.theirs.filter (!old ·) }
  forIn' late (fun u p => p.resultDiscord u true) p

/-- A unit's digest of this part meets the partner's, or waits for it. -/
def Part.ownResult (p : Part) (u : UnitRes) : Part :=
  match p.tw.theirs.find? u.same with
  | some v =>
    let p := p.updTwin fun t => { t with theirs := t.theirs.filter fun x => !u.same x }
    if u.digest = v.digest then p else p.resultDiscord u false
  | none => p.updTwin fun t => { t with mine := t.mine ++ [u] }

/-- In LOCKSTEP each part sends a RESULT record for every unit that ended in the epoch (R750). -/
def Part.lockstepClose (p : Part) (epoch : Nat) : Part :=
  let us := p.tw.ended
  let p := p.updTwin fun t => { t with ended := [], raised := [] }
  if !p.tw.formed then p
  else ((forIn' us (fun u p => p.ownResult u) p).sendRecords (us.map (resultRecord epoch))).missingResults epoch

/-- The command TWIN_RESYNC ends once the copy has begun (R760). -/
def Part.resyncBegun (p : Part) : Part :=
  match p.tw.resync with
  | some m => (p.updTwin fun t => { t with resync := none }).mbxEnd m stOk []
  | none => p

/-- A PRIMARY closes the epoch (R335, R741, R742, R746, R749): pages, QUEUE records, STALE records, results and the CLOSE record, in that order. -/
def Dev.closePrimary (d : Dev) : Dev :=
  let e := d.p.fg TWN_EPOCH_EPOCH
  let copy := d.p.tw.copy && d.p.tw.formed
  let mirror := d.p.twinMode == 1
  let pages := if !d.p.tw.formed then [] else if copy then d.p.regionPages else if mirror then d.p.tw.dirty.filter (fun g => d.p.mirrored (4096 * g)) else []
  let qs := if d.p.tw.formed && mirror then d.p.mirroredQps else []
  let stale := if d.p.tw.formed then d.p.tw.stale else []
  let d := d.onP fun p => p.updTwin fun t => { t with
    dirty := [], stale := [], copy := false
    unitNo := if copy then [] else t.unitNo
    ended := if copy then [] else t.ended
    open_ := if copy then [] else t.open_
    mine := if copy then [] else t.mine
    theirs := if copy then [] else t.theirs }
  let d := d.sendPages e pages
  d.onP fun p =>
    let p := p.sendRecords (qs.map fun q => p.queueRecord e q)
    let p := p.sendRecords (stale.map fun j => unitOf [(0, [3]), (2, natLe 2 j), (8, natLe 4 e)])
    let p := if p.twinMode = 2 then p.lockstepClose e else p
    let p := if p.tw.formed then p.sendRecords [closeRecord copy e (64 * pages.length) qs.length] else p
    let p := if copy then p.resyncBegun else p
    (p.fs TWN_EPOCH_EPOCH ((e + 1) % 2 ^ 32)).fs TWN_LAG_EPOCHS (min 65535 (p.fg TWN_LAG_EPOCHS + 1))

/-- EPOCH_CLOSE: pair time is a multiple of EPOCH_US (R741); in LOCKSTEP the STANDBY reports its units too (R750). -/
def Dev.epochClose (d : Dev) (t : Nat) : Dev :=
  let d := d.onP fun p => p.at t
  let p := d.p
  if p.twinMode = 0 ∨ p.pairTime % (p.tw.epochUs * 1000) ≠ 0 then d
  else if p.role = 1 then d.closePrimary
  else if p.role = 2 ∧ p.twinMode = 2 then d.onP fun p => p.lockstepClose (p.fg TWN_EPOCH_EPOCH)
  else d

/-! ### Records on the standby (R743 to R748, R750) -/

/-- The first waiting record, where it has the type. -/
def Part.headRecord (p : Part) (type : Nat) : Option (List Byte) :=
  p.tw.inbox.head?.bind fun r => if bytesAt r 0 1 = type then some r else none

/-- The first waiting record is done. -/
def Part.dropRecord (p : Part) : Part := p.updTwin fun t => { t with inbox := t.inbox.tail }

/-- A DATA record is written into its mirror region, poisoned granules with the marker (R744, R745). -/
def Dev.dataIn (d : Dev) (r : List Byte) : Dev :=
  let a := bytesAt r 2 2 * 2 ^ 30 + bytesAt r 4 4
  let n := bytesAt r 1 1
  let d := d.onP fun p => p.updTwin fun t => { t with gotGranules := t.gotGranules + n }
  forN n (fun i d =>
    let x := a + 64 * i
    if !d.p.mirrored x || !d.p.sliceUp (sliceOf x) then d.onP fun p => p.standbyLost
    else d.writeRaw x ((r.drop (64 * (i + 1))).take 64) ((bytesAt r 0x10 8).testBit i)) d

/-- A QUEUE record is held (R745). -/
def Part.queueIn (p : Part) (r : List Byte) : Part :=
  let n := bytesAt r 1 1
  let q : QueueRec := ⟨bytesAt r 2 2, bytesAt r 4 2, bytesAt r 6 2, bytesAt r 0xC 1 % 2, (List.range n).map fun i => (r.drop (64 * (i + 1))).take 64⟩
  p.updTwin fun t => { t with heldRecs := t.heldRecs ++ [q], gotQueues := t.gotQueues + 1 }

/-- A CLOSE record (R742, R745): counts that match acknowledge the epoch of a part that is synced, or synced by it (DEDUCED, notes/assumptions/29.md). -/
def Part.closeIn (p : Part) (r : List Byte) : Part :=
  let resync := (bytesAt r 1 1).testBit 0
  let e := bytesAt r 8 4
  let match_ := decide (bytesAt r 0xC 4 = p.tw.gotGranules ∧ bytesAt r 0x10 2 = p.tw.gotQueues)
  let recs := p.tw.heldRecs
  let p := p.updTwin fun t => { t with heldRecs := [], gotGranules := 0, gotQueues := 0 }
  if !match_ then p.standbyLost
  else
    let p := if resync then (p.setFlag TWN_STATUS_SYNCED true).updTwin fun t => { t with unitNo := [], open_ := [], ended := [], mine := [], theirs := [] } else p
    if p.flag TWN_STATUS_SYNCED then
      (p.updTwin fun t => { t with ack := e, ackedRecs := recs }).fs TWN_EPOCH_ACKED_EPOCH e
    else p

/-- A RESULT record is compared with this part's own (R750). -/
def Part.resultIn (p : Part) (r : List Byte) : Part :=
  let u : UnitRes := ⟨bytesAt r 1 1, bytesAt r 2 1, bytesAt r 4 4, (r.drop 0x20).take 32, bytesAt r 8 4⟩
  match p.tw.mine.find? u.same with
  | some v =>
    let p := p.updTwin fun t => { t with mine := t.mine.filter fun x => !u.same x }
    if u.digest = v.digest then p else p.resultDiscord u false
  | none => p.updTwin fun t => { t with theirs := t.theirs ++ [u] }

/-! ### Shared time (R751, R753) -/

/-- The insertion of a number in a rising list. -/
def insInt (x : Int) : List Int → List Int
  | [] => [x]
  | y :: t => if x ≤ y then x :: y :: t else y :: insInt x t

/-- The two middle items of a list of numbers in rising order: the same one where their count is odd. -/
def middles (l : List Int) : List Int :=
  let s := l.foldr insInt []
  let n := s.length
  if n % 2 = 1 then [s.getD (n / 2) 0] else [s.getD (n / 2 - 1) 0, s.getD (n / 2) 0].eraseDups

/-- A sync round (R751, R753). The error is between pair times, each part's own offset on its own times (DEDUCED, notes/assumptions/30.md); halves of a nanosecond, and the middle of an even count, are a free choice. -/
def Part.syncRound (p : Part) (t : Nat) : Part :=
  let p := p.at t
  if p.role ≠ 2 ∨ !p.tw.formed ∨ p.tw.missing ∨ p.tw.thetas = [] then p
  else
    let (m, p) := p.choose 0 (middles p.tw.thetas)
    let (half, p) := p.choose 0 (if m % 2 = 0 then [m / 2] else [m / 2, m / 2 + 1])
    let own : Int := (BitVec.ofNat 64 (p.fg TWN_PAIR_OFFSET_OFFSET)).toInt
    let err := half + p.tw.partnerOffset - own
    let step := if p.tw.synced1 then max (-1000) (min 1000 err) else err
    let p := (p.fs TWN_PAIR_OFFSET_OFFSET (BitVec.ofInt 64 (own + step)).toNat).fs TWN_TIME_ERR_ERR (BitVec.ofInt 32 err).toNat
    let beyond := decide ((p.tw.limitNs : Int) < err ∨ err < -(p.tw.limitNs : Int))
    let p := p.updTwin fun w => { w with
      synced1 := true, badRounds := if beyond then w.badRounds + 1 else 0, goodRounds := if beyond then 0 else w.goodRounds + 1 }
    let stands := p.flag TWN_STATUS_TIME_DISCORD
    if !stands && decide (3 ≤ p.tw.badRounds) then
      (p.setFlag TWN_STATUS_TIME_DISCORD true).twinEvent 0x0E03 ((BitVec.ofInt 32 err).toNat + p.tw.limitNs * 2 ^ 32)
    else if stands && decide (3 ≤ p.tw.goodRounds) then p.setFlag TWN_STATUS_TIME_DISCORD false
    else p

/-! ### Disagreement and failover (R754, R756 to R759) -/

/-- Digests have differed for 1 s while paired (R754). -/
def Part.discordEnd (p : Part) (t : Nat) : Part :=
  let p := p.at t
  match p.tw.differ, p.tw.partner with
  | some a, some q =>
    if !p.tw.formed || decide (p.time < a + 1000000000) then p
    else
      let p := p.twinEvent 0x0E01 (bytesAt p.pairDigest 0 4 + bytesAt q.digest 0 4 * 2 ^ 32)
      if p.role = 2 then p.becomeUnpaired 6 else p.unpair
  | _, _ => p

/-- The hold ends (R756, R758, R759); the cause with which an unsynced standby leaves is not given. -/
def Part.holdEnd (p : Part) (t : Nat) : Part :=
  let p := p.at t
  let hold := if p.tw.planned then p.fg TWN_CTRL_PLANNED_HOLD * 1000000 else p.tw.delay * 1000
  if !p.flag TWN_STATUS_HOLD || decide (p.time < p.tw.holdAt + hold) then p
  else
    let p := p.setFlag TWN_STATUS_HOLD false
    if p.flag TWN_STATUS_SYNCED then p.promote 2 none
    else
      let (c, p) := p.choose 2 [2, 5]
      p.becomeUnpaired c

/-! ### Meanings -/

/-- HEARTBEAT_TICK (R739). -/
def execHeartbeatTick (t : Nat) (s : State) : Host.Outcome State Fault Refusal :=
  onPart (fun p =>
    let p := p.at t
    if p.twinMode = 0 then p else p.updTwin fun w => { w with heartbeat := (w.heartbeat + 1) % 2 ^ 32 }) s

/-- FENCE_PULSE (R739): a pulse on TWIN_FENCE_OUT, pin 6 of this model's record of pins. -/
def execFencePulse (t : Nat) (s : State) : Host.Outcome State Fault Refusal :=
  onPart (fun p =>
    let p := p.at t
    if p.twinMode != 0 && p.firmwareRuns then p.emit (.pin 6 1) else p) s

/-- FENCE_IN_EDGE (R740). -/
def execFenceInEdge (t : Nat) (s : State) : Host.Outcome State Fault Refusal := onPart (fun p => p.fenceEdge t) s

/-- HEARTBEAT_MISSING (R740). -/
def execHeartbeatMissing (t : Nat) (s : State) : Host.Outcome State Fault Refusal := onPart (fun p => p.heartbeatMissing t) s

/-- FENCE_ABSENT (R740). -/
def execFenceAbsent (t : Nat) (s : State) : Host.Outcome State Fault Refusal := onPart (fun p => p.fenceMissing t) s

/-- DCC_P_STATUS_MESSAGE (R733). -/
def execDccPStatusMessage (s : State) : Host.Outcome State Fault Refusal :=
  onPart (fun p => match p.takeMessage 1 with
    | (some m, p) => if p.twinMode = 0 then p else p.statusIn m
    | (none, p) => p) s

/-- DCC_P_LOOP_MESSAGE (R761). -/
def execDccPLoopMessage (s : State) : Host.Outcome State Fault Refusal :=
  onPart (fun p => match p.takeMessage 2 with
    | (some m, p) => if p.twinMode = 0 then p else p.loopIn m
    | (none, p) => p) s

/-- SOURCE_CURRENT_READ (R735). -/
def execSourceCurrentRead (t : Nat) (s : State) : Host.Outcome State Fault Refusal := onPart (fun p => p.sourceRead t) s

/-- EPOCH_CLOSE (R741). -/
def execEpochClose (t : Nat) (s : State) : Host.Outcome State Fault Refusal := onDev (fun d => d.epochClose t) s

/-- MIRROR_DATA_RECORD (R745). -/
def execMirrorDataRecord (s : State) : Host.Outcome State Fault Refusal :=
  onDev (fun d => match d.p.headRecord 1 with
    | some r => let d := d.onP fun p => p.dropRecord
                if d.p.role = 2 then (d.dataIn r).onP fun p => p.resyncBegun else d
    | none => d) s

/-- MIRROR_QUEUE_RECORD (R745). -/
def execMirrorQueueRecord (s : State) : Host.Outcome State Fault Refusal :=
  onPart (fun p => match p.headRecord 2 with
    | some r => if p.role = 2 then (p.dropRecord).queueIn r else p.dropRecord
    | none => p) s

/-- MIRROR_STALE_RECORD (R741): the named plot becomes stale. -/
def execMirrorStaleRecord (s : State) : Host.Outcome State Fault Refusal :=
  onDev (fun d => match d.p.headRecord 3 with
    | some r =>
      let d := d.onP fun p => p.dropRecord
      let j := bytesAt r 2 2
      if d.p.role = 2 ∧ j < 288 then d.markStale j else d
    | none => d) s

/-- MIRROR_CLOSE_RECORD (R745). -/
def execMirrorCloseRecord (s : State) : Host.Outcome State Fault Refusal :=
  onPart (fun p => match p.headRecord 4 with
    | some r => if p.role = 2 then (let q := (p.dropRecord).closeIn r; if (bytesAt r 1 1).testBit 0 then q.resyncBegun else q) else p.dropRecord
    | none => p) s

/-- MIRROR_RESULT_RECORD (R750). -/
def execMirrorResultRecord (s : State) : Host.Outcome State Fault Refusal :=
  onPart (fun p => match p.headRecord 5 with
    | some r => if p.twinMode = 2 then (p.dropRecord).resultIn r else p.dropRecord
    | none => p) s

/-- SYNC_ROUND (R751). -/
def execSyncRound (t : Nat) (s : State) : Host.Outcome State Fault Refusal := onPart (fun p => p.syncRound t) s

/-- CONFIG_DISCORD_TIMEOUT (R754). -/
def execConfigDiscordTimeout (t : Nat) (s : State) : Host.Outcome State Fault Refusal := onPart (fun p => p.discordEnd t) s

/-- FAILOVER_HOLD_END (R756). -/
def execFailoverHoldEnd (t : Nat) (s : State) : Host.Outcome State Fault Refusal := onPart (fun p => p.holdEnd t) s

/-- TERM_WRITE_DONE (R726). -/
def execTermWriteDone (s : State) : Host.Outcome State Fault Refusal := onPart (fun p => p.termWritten) s

/-- TWN_CLR_LOCAL_WRITES (R764). -/
def execTwnClrLocalWrites (coin : Nat) (s : State) : Host.Outcome State Fault Refusal := blockPart 7 (True) (fun p => p.clrHit TWN_LOCAL_WRITES (coin.testBit 0)) s

/-- TWN_CLR_RESULT_DISCORDS (R764). -/
def execTwnClrResultDiscords (coin : Nat) (s : State) : Host.Outcome State Fault Refusal := blockPart 7 (True) (fun p => p.clrHit TWN_RESULT_DISCORDS (coin.testBit 0)) s

end Sys2Proof.Machine
end

