-- ==== Sys2Proof/Machine/Hedges.lean ====
section
/-!
DEFINITION. Sys2Proof/Machine/Hedges.lean: hedges: creation, assignment, unbinding, destruction, and what a resource that leaves a hedge takes with it (R209, R215, R416 to R418, R443, R514 to R520).
-/

namespace Sys2Proof.Machine

open Sys2Proof

/-! ### Registers at their Reset column -/

/-- The register at key `k` returns to its Reset column. -/
def Part.resetReg (p : Part) (k : Nat) : Part := p.setReg k (Tab.get 0 k resetRegs)

/-! ### Stream ports, channels and rings that change hands -/

/-- Stream port `k` changes its owner (R703): tokens that wait are discarded, and the next PSN sets the expectation. -/
def Part.portFresh (p : Part) (k : Nat) : Part :=
  let p := forIn' (p.frm (k + 1)).txq (fun t p => p.hubDrop t) p
  p.updFrm (k + 1) fun f => { f with txq := [], rxq := [], loss := none, expect := none, errored := false, broke := false }

/-- The channels of hedge `h` have changed: its rings and its gateway routes keep only what it owns (R569, R571). -/
def Part.channelsFollow (p : Part) (h : Nat) : Part :=
  let p := p.ringsLoseChannels h
  forN 32 (fun k p => if p.fg (FAB_GW_ROUTE_HEDGE k) = h then
    p.fs (FAB_GW_ROUTE_CHANNELS k) (p.fg (FAB_GW_ROUTE_CHANNELS k) &&& (p.hedge h).channels) else p) p

/-- Hedge `h` gained or lost a resource (R326), and captures that run observe a new owner (R545). -/
def Part.resourceChange (p : Part) (h : Nat) : Part := (p.setVfIrq h 1).observeCaptures

/-- Event ring `r` is disabled; the records that wait for it are lost (R376). -/
def Part.ringDisable (p : Part) (r : Nat) : Part := (p.setFlag (EVT_CFG_ENABLE r) false).ringClose r

/-! ### Plots (R214, R215, R233, R748) -/

/-- Plot `j` becomes stale for a reason other than a STALE record: a STANDBY that mirrors it has lost content (R748). -/
def Dev.plotStale (d : Dev) (j : Nat) : Dev :=
  (d.markStale j).onP fun p =>
    if (List.range 64).any (fun r => (p.mirRegion r).any fun m => m.1 == j) then p.standbyLost else p

/-- Whether a request in progress at slice `n` uses plot `j`. -/
def Part.reqUses (p : Part) (n j : Nat) (r : SReq) : Bool :=
  if r.op ≤ 2 then r.left != 0 && r.addr / 2 ^ 30 == j
  else r.blocks != 0 && (p.regionPlots n (p.region n r.region)).contains j

/-- The requests in progress that use a plot which is about to leave its hedge (R233; DEDUCED, notes/assumptions/33.md): a READ and a DECODE, which were accepted whole, are performed; a WRITE and an ENCODE have only their data that has arrived performed, and what follows fails the slice-port check. -/
def Dev.reqsLosePlot (d : Dev) (j : Nat) : Dev :=
  let n := j / 36
  forIn' (d.p.slc.reqs.filter fun e => e.1 / 4096 == n) (fun e d => match e.2 with
    | none => d
    | some r =>
      let h := e.1 % 4096 / 256
      let s := e.1 % 256
      if !d.p.reqUses n j r then d
      else if r.op = 1 then
        let (r, d) := d.readAll n r 16385
        d.onP fun p => p.setSreq e.1 (some r)
      else if r.op = 3 then d.decodeAll n h s 65535
      else
        let d := if r.op = 2 then (d.writeTaken n r).1 else d
        d.onP fun p => ((((p.setSreq e.1 none).violationAt r.brk 2 none ⟨h, s, 0, wordsPay [r.word0]⟩).startDiscard e.1).discardTo n h s 8)) d

/-- The plots `js` leave their hedges together (R215, R251, R575): they are stale, unowned, and in no VF map, region, ring or mirror region. -/
def Dev.plotsLeave (d : Dev) (js : List Nat) : Dev :=
  let d := forIn' js (fun j d => d.reqsLosePlot j) d
  let d := d.onP fun p => forIn' js (fun j p => (p.kvcPlotLeaves j).ringsLosePlot j) p
  let d := forIn' js (fun j d => d.plotStale j) d
  d.onP fun p => forIn' js (fun j p =>
    let p := (p.fs (SLC_PLOT_OWNED j) 0).fs (SLC_PLOT_HEDGE j) 0
    let p := forN 15 (fun v p => forN 16 (fun e p =>
      if p.fg (SLC_PMAP_VF_PLOT (v + 1) e) = j then p.setFlag (SLC_PMAP_VF_VALID (v + 1) e) false else p) p) p
    forN 64 (fun r p => if (p.mirRegion r).any (fun m => m.1 == j) then (p.setReg (TWN_MIR r) 0).setReg (TWN_MIR_HI r) 0 else p) p) p

/-- The plots of hedge `h` in the whole part. -/
def Part.allPlots (p : Part) (h : Nat) : List Nat := upTo 288 fun j => p.plotOwner j == some h

/-! ### Stopping (R131, R209) -/

/-- The stop-and-clear sequence of hedge `h` (R131). -/
def Part.stopWork (p : Part) (h : Nat) (release : Bool) : Part := (p.stopSlices h).stopFabric h release

/-- Step 4 of R131 in a reset or destruction: regions, claims and codec work of the hedge go (R251), and its plots become stale (R233). -/
def Dev.stopClear (d : Dev) (h : Nat) : Dev :=
  let d := d.onP fun p => (p.kvcStop h).stopWork h false
  forIn' (d.p.allPlots h) (fun j d => d.plotStale j) d

/-- The image of hedge `h` is unbound (R209, R360): routes with no channels, no hub entries, no schedules, fronds cleared, plots kept, descriptors flushed. -/
def Part.unbindImage (p : Part) (h : Nat) : Part :=
  let p := p.stopWork h false
  let p := forN 32 (fun k p => if p.fg (FAB_GW_ROUTE_HEDGE k) = h then p.fs (FAB_GW_ROUTE_CHANNELS k) 0 else p) p
  let p := p.flushHedge h
  ((p.updHedge h fun H => { H with image := none }).setVfIrq h 2).vlSettle

/-! ### PASID slots (R442, R443) -/

/-- Whether non-posted requests of function `f` with a PASID are outstanding (R443): reads and AtomicOps, Translation Requests, and requests that are translated and have not left. -/
def Part.pasidReads (p : Part) (f pasid : Nat) : Bool :=
  (p.hs.atu.np.any fun e => e.2.any fun q => q.fn == f && q.pasid == some pasid && (match q.phase with
    | .back _ _ => false
    | _ => true)) ||
  p.hs.atu.xl.any fun x => x.fn == f && x.pasid == pasid && (match x.phase with
    | .ats _ _ => true
    | .held => true
    | .grant _ _ => true
    | .done _ => true
    | _ => false)

/-- The end of emptying a PASID slot (R443): a Stop Marker where page requests are out, and the cache entries go. -/
def Part.pasidGone (p : Part) (f pasid : Nat) : Part :=
  let p := if p.hs.atu.preqs.any fun e => e.2.any fun q => q.fn == f && q.pasid == pasid then p.emit (.ats 4 f pasid 0) else p
  (p.atcRemove fun fn ps _ _ => fn == f && ps == pasid).2

/-- A PASID slot stops serving lookups. -/
def Part.pasidOff (p : Part) (h slot : Nat) : Part := p.fs (ATU_PASID_VALID h slot) 0

/-- The PASIDs that the slots of hedge `h` hold. -/
def Part.pasidsOf (p : Part) (h : Nat) : List Nat :=
  (upTo 4 fun i => p.flag (ATU_PASID_VALID h i)).map fun i => p.fg (ATU_PASID_PASID h i)

/-- Every PASID slot of hedge `h` is emptied, where nothing waits for the requests that are out (R443, R784). -/
def Part.pasidsEmpty (p : Part) (h : Nat) : Part :=
  forIn' (p.pasidsOf h) (fun ps p => p.pasidGone h ps) (forN 4 (fun i p => p.setReg (ATU_PASID h i) 0) p)

/-! ### Creating and destroying (R416, R517 to R520) -/

/-- Step 2 of R517. -/
def Part.createHedge (p : Part) (h : Nat) (pinned : Bool) : Part :=
  let p := p.updHedge h fun _ => { exist := true, pinned := pinned }
  let p := (p.setFlag (ATU_HEDGE_PINNED h) pinned).fs ⟨DBG_OBSERVED, h, 1⟩ 0
  let p := ((p.pasidsEmpty h).ringDisable h).setCadence h 0 (p.flag (TEL_CADENCE_ENABLE h))
  (p.raiseOp (0x0900 + h) 0x0902 (some h) noDetail).setVfIrq h 1

/-- Queue pair `q` has no owner. -/
def Part.qpFree (p : Part) (q : Nat) : Part := { p with hs := { p.hs with qps := Tab.put {} q {} p.hs.qps } }

/-- A loop variable that has not been sent goes with the port's owner (R520). -/
def Part.loopPortFree (p : Part) : Part := if p.loopOwner.isNone then p.updBr fun b => { b with lv := none } else p

/-- HEDGE_DESTROY up to the requests that it waits for (R416, R443, R519): nothing of the hedge works any more, and its PASID slots serve no lookup. -/
def Dev.destroyBegin (d : Dev) (h : Nat) : Dev :=
  let d := d.onP fun p =>
    let p := if (p.hedge h).image.isSome then p.unbindImage h else p
    let p := forIn' (p.qpsOf h) (fun q p => (p.destroyQp q).qpFree q) p
    (p.kvcStop h).stopWork h true
  let d := d.plotsLeave (d.p.allPlots h)
  d.onP fun p => forN 4 (fun i p => p.setReg (ATU_PASID h i) 0) p

/-- The rest of HEDGE_DESTROY (R416, R441, R443, R519, R520), once the requests with its PASIDs have completed. -/
def Dev.destroyEnd (d : Dev) (h : Nat) (pasids : List Nat) : Dev :=
  d.onP fun p =>
    let ports := upTo 8 ((p.hedge h).streamPorts.testBit ·)
    let p := p.updHedge h fun H => { H with channels := 0, streamPorts := 0, loopPort := false }
    let p := (forIn' ports (fun k p => p.portFresh k) p).channelsFollow h
    let p := ((forIn' pasids (fun ps p => p.pasidGone h ps) p).ringDisable h).setCadence h 0 false
    let p := (p.updHedge h fun _ => {}).loopPortFree
    let p := (p.fs (ATU_HEDGE_PINNED h) 0).updTwin fun t => { t with mirrored := t.mirrored - (t.mirrored &&& 2 ^ h) }
    ((p.raiseOp (0x0900 + h) 0x0903 (some h) noDetail).setVfIrq h 1).observeCaptures.vlSettle

/-- A hedge is destroyed at once, as the entry to DECOMMISSIONED does it, which no request holds up (R666; DEDUCED, notes/assumptions/98.md). -/
def Dev.destroyHedge (d : Dev) (h : Nat) : Dev := (d.destroyBegin h).destroyEnd h (d.p.pasidsOf h)

/-! ### Assignment (R417, R516, R790) -/

/-- The resources that HEDGE_ASSIGN names, as masks. -/
structure Res where
  brks : Nat
  chans : Nat
  ports : Nat
  loop : Bool
  deriving DecidableEq, Repr

/-- Whether a named resource belongs to a hedge other than `h`. -/
def Part.resForeign (p : Part) (h : Nat) (r : Res) : Bool :=
  let other := fun (o : Option Nat) => o.isSome && o != some h
  ((List.range 64).any fun b => r.brks.testBit b && other (p.brkOwner b)) ||
  ((List.range 32).any fun c => r.chans.testBit c && other (p.channelOwner c)) ||
  ((List.range 8).any fun k => r.ports.testBit k && other (p.portOwner k)) || (r.loop && other p.loopOwner)

/-- What the bound image of hedge `h` uses (R417). -/
def Part.imageUses (p : Part) (h : Nat) : Res :=
  match (p.hedge h).image with
  | none => ⟨0, 0, 0, false⟩
  | some im =>
    let brks := upTo 64 fun b => decide (im.row ≤ b / 8 ∧ b / 8 < im.row + im.rows ∧ im.col ≤ b % 8 ∧ b % 8 < im.col + im.cols)
    ⟨brks.foldl (fun m b => m + 2 ^ b) 0, im.routes.foldl (fun m k => m ||| p.fg (FAB_GW_ROUTE_CHANNELS k)) 0, im.ports, im.loop⟩

/-- Whether two sets of resources meet. -/
def Res.meets (a b : Res) : Bool := a.brks &&& b.brks != 0 || a.chans &&& b.chans != 0 || a.ports &&& b.ports != 0 || (a.loop && b.loop)

/-- Hedge `h` gains the named resources. -/
def Part.resAssign (p : Part) (h : Nat) (r : Res) : Part :=
  let p := forN 64 (fun b p => if r.brks.testBit b then p.setReg (FAB_BRK_OWNER b) (BitVec.ofNat 64 (h + 16)) else p) p
  let fresh := upTo 8 fun k => r.ports.testBit k && p.portOwner k != some h
  let p := p.updHedge h fun H =>
    { H with channels := H.channels ||| r.chans, streamPorts := H.streamPorts ||| r.ports, loopPort := H.loopPort || r.loop }
  (forIn' fresh (fun k p => p.portFresh k) p).resourceChange h

/-- Hedge `h` gives up those of the named resources that it owns. -/
def Part.resRelease (p : Part) (h : Nat) (r : Res) : Part :=
  let p := forN 64 (fun b p => if r.brks.testBit b && p.ownsBrk h b then p.setReg (FAB_BRK_OWNER b) 0 else p) p
  let gone := upTo 8 fun k => r.ports.testBit k && p.portOwner k == some h
  let p := p.updHedge h fun H =>
    { H with
      channels := H.channels - (H.channels &&& r.chans)
      streamPorts := H.streamPorts - (H.streamPorts &&& r.ports)
      loopPort := H.loopPort && !r.loop }
  let p := if r.loop then p.loopPortFree else p
  ((forIn' gone (fun k p => p.portFresh k) p).channelsFollow h).resourceChange h

end Sys2Proof.Machine
end

