-- ==== Sys2Proof/Machine/Bringup.lean ====
section
/-!
DEFINITION. Sys2Proof/Machine/Bringup.lean: the stages, service levels, boot flash slots, boot events and the global status registers (R765 to R798), and the return of slices (R240 to R243).
-/

namespace Sys2Proof.Machine

open Sys2Proof

/-- A change to bring-up. -/
def Part.updBoot (p : Part) (f : Boot → Boot) : Part := { p with boot := f p.boot }

/-! ### Boot records (R794) -/

/-- A boot record joins the buffer of 64; a full one discards its oldest. -/
def Part.bootRec (p : Part) (code low : Nat) : Part :=
  p.updBoot fun b =>
    if 64 ≤ b.recs.length then { b with recs := b.recs.drop 1 ++ [⟨code, low, p.time⟩], lost := true }
    else { b with recs := b.recs ++ [⟨code, low, p.time⟩] }

/-- The detail of a boot event: the device time of the occurrence in µs above the record's own bits. -/
def BootRec.detail (r : BootRec) : Nat := r.low + r.time / 1000 % 2 ^ 32 * 2 ^ 32

/-- STAGE_RETRY for a stage with its cause, the bracken of cause 2, and the wait in ms. -/
def Part.stageRetry (p : Part) (stage cause brk waitMs : Nat) : Part :=
  p.bootRec 0x0F02 (stage + cause * 16 + brk * 2 ^ 8 + waitMs / 100 * 2 ^ 16)

/-- The oldest boot record becomes an event, once the operator ring takes it. -/
def Part.bootEvent (p : Part) : Part :=
  if p.service < 1 || !p.ringTakes opRing then p
  else match p.boot.recs with
    | [] => p
    | r :: rest =>
      let p := if p.boot.lost then p.updRing opRing fun q => { q with lostNext := true } else p
      (p.updBoot fun b => { b with recs := rest, lost := false }).raiseOp 0x0F00 r.code none r.detail

/-! ### Stages and levels (R767 to R773) -/

/-- Whether the life cycle holds the part at MOSS_FW (R770, R673). -/
def Part.lcHeld (p : Part) : Bool := p.fg LCH_LIFECYCLE_STATE ∈ [0, 5, 6] || p.flag LCH_LIFECYCLE_PENDING

/-- Whether a slice is DOWN or a bracken has failed its last self-test (R769). -/
def Part.degraded (p : Part) : Bool := p.fg GBL_STATUS_SLICES_DOWN != 0 || p.fg GBL_BRK_FAIL_FAILED != 0

/-- Stage `n` has ended. -/
def Part.reach (p : Part) (n : Nat) : Part :=
  let p := (p.updBoot fun b => { b with stage := n }).fs GBL_STATUS_STAGE (max n (p.fg GBL_STATUS_STAGE))
  let p := p.fs GBL_STATUS_WORKING (if n < 7 && !p.flag GBL_STATUS_LC_HOLD then n + 1 else p.fg GBL_STATUS_STAGE)
  p.bootRec 0x0F01 n

/-- The service level changes (R769, R773), with the cause of SERVICE_LEVEL. -/
def Part.setLevel (p : Part) (new cause : Nat) : Part :=
  let old := p.service
  if old = new then p.vlSettle
  else
    let p := (p.dirChange (p.fs GBL_STATUS_SERVICE new)).setGbl GBL_STATUS_LEVEL_CHANGED 0
    let p := forN 16 (fun v p => p.setVfIrq v 0) p
    (p.bootRec 0x0F04 (new + old * 4 + cause * 16)).vlSettle

/-- The level that full service has now. -/
def Part.fullLevel (p : Part) : Nat := if p.degraded then 2 else 3

/-- A return of a slice or a bracken raises PARTIAL to FULL when nothing else is degraded (R772, R790). -/
def Part.levelRise (p : Part) (cause : Nat) : Part := if p.service = 2 && !p.degraded then p.setLevel 3 cause else p

/-- AVAILABLE flags are set (R774). -/
def Part.addAvail (p : Part) (ids : List Nat) : Part := p.setAvail (ids.foldl (fun m i => m ||| 2 ^ i) p.ep.avail)

/-! ### S1 and S2 (R766, R775) -/

/-- S1: the attempt is counted, the reset cause read and the factory trims loaded (R342, R583, R659); device time starts again. -/
def Part.startS1 (p : Part) : Part :=
  let p := (p.timeRestart.incE LCH_BOOT_ATTEMPTS_COUNT).nvmWrite.loadTrims
  ((p.setReg GBL_RESET_CAUSE (BitVec.ofNat 64 p.core.cause)).updBoot fun b => { b with stage := 1 }).bootRec 0x0F01 1

/-- S1 starts once nothing holds the dies in reset (R633, R646, R766, R803). -/
def Part.tryStart (p : Part) : Part := if p.boot.stage = 0 && !p.qsDown then p.startS1 else p

/-- S3 begins: while FAILS is not zero it waits (R788). -/
def Part.beginS3 (p : Part) : Part :=
  let n := p.fg GBL_BOOT_FAILS
  if n = 0 then p
  else
    let w := min 60000 (100 * 2 ^ (n - 1))
    (p.updBoot fun b => { b with waitAt := p.time, waitMs := w }).fs GBL_BOOT_WAIT (w / 100)

/-- S2 (R300, R305, R766, R775, R776): `link` says whether the core domain answered. -/
def Part.stageS2 (p : Part) (t : Nat) (link : Bool) : Part :=
  if p.boot.stage ≠ 1 || p.ep.linkDisabled then p
  else
    let p := p.at t
    let p := { p with ep := { p.ep with
      crs := false
      bar2Code := if link then p.ep.bar2Nvm else 0
      serial := if link then p.ep.serialNvm else 0 } }
    let p := forN 17 (fun m p => p.fs (MBX_STATUS_STATE m) 0) p
    let p := (p.addAvail [1, 3, 0xD, 5, 9, 0xA]).reach 2
    if link then p.beginS3
    else
      (((p.setFlag GBL_STATUS_LICHEN_LINK true).setFlag GBL_STATUS_RETRYING true).updBoot fun b => { b with silentMs := 100 }).stageRetry 3 0 0 100

/-- S3 asks the core domain again (R775). -/
def Part.linkRetry (p : Part) (t : Nat) (link : Bool) : Part :=
  if p.boot.stage ≠ 2 || p.boot.silentMs = 0 then p
  else
    let p := p.at t
    if link then
      (((p.setFlag GBL_STATUS_LICHEN_LINK false).setFlag GBL_STATUS_RETRYING false).updBoot fun b => { b with silentMs := 0 }).beginS3
    else
      let w := min 60000 (2 * p.boot.silentMs)
      (p.updBoot fun b => { b with silentMs := w }).stageRetry 3 0 0 w

/-! ### Images (R529 to R531) -/

/-- The largest payload of a slot: 31,457,024 bytes of A and B, 983,040 of the ROM area (R529, R780). -/
def slotLimit (slot : Nat) : Nat := if slot = 2 then 983040 else 31457024

/-- FW_VERSION and FWIF of an image (R529). -/
def imageIdent (img : List Byte) : Nat × Nat := (leNat ((img.drop 8).take 4), leNat ((img.drop 12).take 4))

/-- The public key of a key slot (R527, R528), 96 bytes: X then Y, lowest byte first; none where the slot is empty. The factory's keys are free values (DEDUCED, notes/assumptions/47.md). -/
def Part.keyOf (p : Part) (slot : Nat) : List Byte :=
  if slot < 2 then (if p.fg LCH_LIFECYCLE_STATE = 0 then [] else (List.range 96).map (Config.factoryKey slot)) else Tab.get [] slot p.core.keys

/-- Two numbers of 48 bytes each, their bytes turned round. -/
def turn48 (bs : List Byte) : List Byte := (bs.take 48).reverse ++ ((bs.drop 48).take 48).reverse

/-- The first of R530's checks that an image of a slot fails, for the SIZE given; 0 where it passes them all.
A payload size outside R529's range fails check 2 (DEDUCED, notes/assumptions/37.md). -/
def Part.imageCheck (p : Part) (slot size : Nat) (img : List Byte) : Nat :=
  let at_ := fun o n => leNat ((img.drop o).take n)
  let zero := fun o n => ((img.drop o).take n).all (· == 0)
  let pay := at_ 0x10 8
  let key := p.keyOf (at_ 6 1)
  if img.length < 256 || at_ 0 4 != 0x59474C59 || at_ 4 2 != 1 || !(zero 7 1 && zero 0x18 8 && zero 0x50 48 && zero 0xE0 32) then 1
  else if size != 256 + pay || pay = 0 || decide (slotLimit slot < pay) then 2
  else if 3 < at_ 6 1 then 3
  else if key.isEmpty then 4
  else if sha384 ((img.drop 256).take pay) != (img.drop 0x20).take 48 then 5
  else if !ecdsaOk (turn48 key) (sha384 (img.take 128)) (turn48 (img.drop 0x80)) then 6
  else 0

/-- What S3 finds in a slot whose content no push of the model wrote: the failing check, FW_VERSION and FWIF, as the command's operand says. -/
structure Found where
  check : Nat
  version : Nat
  fwif : Nat
  deriving DecidableEq, Repr

/-- What S3 finds in a slot (R531). -/
def Part.slotFound (p : Part) (slot : Nat) (facts : List (Nat × Nat × Nat)) : Found :=
  match p.boot.images.find? (fun e => e.1 == slot) with
  | some (_, img) =>
    let c := p.imageCheck slot img.length img
    ⟨c, (imageIdent img).1, (imageIdent img).2⟩
  | none => let f := facts.getD slot (0, 0, 0); ⟨f.1, f.2.1, f.2.2⟩

/-- A slot is checked: its result is kept, and a failure raises IMAGE_INVALID (R778, R783). -/
def Part.slotChecked (p : Part) (slot : Nat) (f : Found) : Part :=
  let p := p.updBoot fun b => { b with
    slots := Tab.put 0 slot (if f.check = 0 then 1 else 0) b.slots
    versions := Tab.put 0 slot (if f.check = 0 then f.version else 0) b.versions }
  if f.check = 0 then p else p.bootRec 0x0F03 (slot + f.check * 16)

/-- The watchdog's timeout starts again (R656); while a core is halted it is kept for the end of the pause. -/
def Part.watchdogStart (p : Part) : Part :=
  let n := p.fg LCH_WDT_TIMEOUT_MS * 1000000
  if !p.flag LCH_WDT_ARMED || n = 0 then p
  else p.updCore fun c => if c.halted = 0 then { c with expiry := some (p.clock + n) } else { c with expiry := none, left := n }

/-- Authenticated firmware starts from a slot: the end of S3 (R656, R766, R769, R774). -/
def Part.firmwareStart (p : Part) (slot : Nat) (f : Found) : Part :=
  let p := { p with ep := { p.ep with fwVersion := f.version, fwif := f.fwif } }
  let p := (((p.fs GBL_STATUS_RUNNING (slot + 1)).setFlag GBL_STATUS_RETRYING false).setFlag GBL_STATUS_WAIT_PUSH false).setFlag GBL_BOOT_CONFIRMED false
  let p := p.updBoot fun b => { b with startedAt := p.time, force := none }
  let p := (p.setFlag LCH_WDT_ARMED true).watchdogStart
  ((p.addAvail [2, 4, 6, 8]).reach 3).setLevel 1 0

/-- FAILS counts one; Class S of eight bits (R785). -/
def Part.bootFails (p : Part) : Part :=
  let n := p.fg GBL_BOOT_FAILS + 1
  (if 255 ≤ n then (p.fs GBL_BOOT_FAILS 255).fs GBL_BOOT_SAT 1 else p.fs GBL_BOOT_FAILS n).nvmWrite

/-- The ROM area is checked against its header at S3 (R781). -/
def Part.romCheck (p : Part) (facts : List (Nat × Nat × Nat)) : Part :=
  let f := p.slotFound 2 facts
  if f.check = 0 then p else p.bootRec 0x0F03 (2 + f.check * 16)

/-- S3 without a wait (R778, R785, R786, R788, R789): both slots in their order. -/
def Part.tryS3 (p : Part) (facts : List (Nat × Nat × Nat)) : Part :=
  let p := (p.romCheck facts).fs GBL_BOOT_WAIT 0
  let p := p.updBoot fun b => { b with waitMs := 0 }
  let next := p.fg GBL_BOOT_NEXT
  let one := p.boot.force.getD (if p.fg GBL_BOOT_FAILS % 2 = 0 then next else 1 - next)
  let f1 := p.slotFound one facts
  let p := p.slotChecked one f1
  if f1.check = 0 then p.firmwareStart one f1
  else
    let f2 := p.slotFound (1 - one) facts
    let p := p.slotChecked (1 - one) f2
    if f2.check = 0 then p.firmwareStart (1 - one) f2
    else
      let p := (p.bootFails.setFlag GBL_STATUS_WAIT_PUSH true).setFlag GBL_STATUS_RETRYING true
      let p := (p.updBoot fun b => { b with force := none }).beginS3
      p.stageRetry 3 1 0 p.boot.waitMs

/-! ### S4 (R53, R766, R768, R770, R771, R790) -/

/-- VOUT_TRANSITION_RATE of PMBus, in its linear format 1.0 mV/µs. -/
def voutRate : Nat := 0x27

/-- Bracken `b` fails a self-test (R790): nobody owns it, and it waits for a retest. -/
def Part.brackenFails (p : Part) (b : Nat) : Part :=
  let p := match p.brkOwner b with
    | some h => (p.setReg (FAB_BRK_OWNER b) 0).resourceChange h
    | none => p
  let w := if Tab.get 0 b p.boot.retest = 0 then 100 else min 60000 (2 * Tab.get 0 b p.boot.retest)
  ((p.fs ⟨GBL_BRK_FAIL, b, 1⟩ 1).updBoot fun x => { x with retest := Tab.put 0 b w x.retest }).stageRetry 4 2 b w

/-- The self-tests of S4: brackens that pass are free of their failure. -/
def Part.selfTest (p : Part) (failed : Nat) : Part :=
  let p := (p.setReg GBL_BRK_FAIL 0).updBoot fun x => { x with retest := [] }
  forN 64 (fun b p => if failed.testBit b then p.brackenFails b else p) p

/-- An attempt of S4 begins: the rate, VL0, the self-tests, and then the glide to VL1. -/
def Part.beginS4 (p : Part) (failed : Nat) : Part :=
  if p.boot.rising then p
  else
    let p := (p.emit (.pmbus voutRate 1)).emit (.pmbus voutCommand (nominalMv 0))
    ((p.selfTest failed).updBoot fun x => { x with rising := true }).glideStart 1

/-- S4 ends (R770 to R772, R774): hedge 0 gets bracken 0 once, the life cycle may hold the climb, and after a brown-out the earlier stage and level return. -/
def Part.endS4 (p : Part) : Part :=
  let grant := !p.boot.granted && !(p.fg GBL_BRK_FAIL_FAILED).testBit 0
  let p := p.updBoot fun x => { x with rising := false, granted := true }
  let p := if grant then (p.setReg (FAB_BRK_OWNER 0) 16).resourceChange 0 else p
  let p := p.addAvail [0xB]
  let p := p.setFlag GBL_STATUS_LC_HOLD p.lcHeld
  let back := p.boot.back
  let p := (p.updBoot fun x => { x with back := 0 }).reach 4
  if 4 < back && !p.lcHeld then
    let p := (p.updBoot fun x => { x with stage := back }).fs GBL_STATUS_WORKING (min 7 (back + 1))
    if back = 7 then p.setLevel p.fullLevel 4 else p.vlSettle
  else p.vlSettle

/-- One attempt of S4 (R766, R768): the brackens that fail, and READ_VOUT after the glide to VL1. -/
def Part.stageS4 (p : Part) (t failed : Nat) (read : Option Nat) : Part :=
  if p.boot.stage ≠ 3 then p
  else
    let p := (p.at t).beginS4 failed
    let p := if p.flag TEL_VL_STATUS_GLIDING || p.active = 1 then p else p.glideStart 1
    if read.any (inWindow 1) then
      let p := (p.fs TEL_VL_STATUS_ACTIVE 1).setFlag TEL_VL_STATUS_GLIDING false
      let p := { p with vl := { p.vl with confirmed := 1, retryMs := 0, retrying := false, vdd := read.getD p.vl.vdd } }
      (p.setFlag GBL_STATUS_RETRYING false).endS4
    else
      let p := ((p.vlFault read).regov).setFlag GBL_STATUS_RETRYING true
      p.stageRetry 4 3 0 p.vl.retryMs

/-- The retest of a failed bracken (R790). -/
def Part.brackenRetest (p : Part) (t b : Nat) (pass : Bool) : Part :=
  if Tab.get 0 b p.boot.retest = 0 then p
  else
    let p := p.at t
    if pass then
      ((p.fs ⟨GBL_BRK_FAIL, b, 1⟩ 0).updBoot fun x => { x with retest := Tab.put 0 b 0 x.retest }).levelRise 3
    else p.brackenFails b

/-! ### S5 and the slices (R233, R240 to R243) -/

/-- The state of slice `n`, and SLICES_DOWN with it. -/
def Part.sliceState (p : Part) (n st : Nat) : Part :=
  (p.fs (SLC_STATUS_STATE n) st).fs ⟨GBL_STATUS, 24 + n, 1⟩ (if st = 0 then 1 else 0)

/-- Slice `n` is DOWN and waits 100 ms before its first retry (R241). -/
def Part.sliceDown (p : Part) (n : Nat) : Part :=
  let p := p.sliceState n 0
  { p with slc := { p.slc with backoff := Tab.put 0 n 100 p.slc.backoff } }

/-- Every plot of slice `n` is stale (R233, R243). -/
def Dev.sliceStale (d : Dev) (n : Nat) : Dev := forN 36 (fun i d => d.plotStale (36 * n + i)) d

/-- S5: the stacks that failed training three times are DOWN; every plot is stale. -/
def Dev.stageS5 (d : Dev) (t failed : Nat) : Dev :=
  if d.p.boot.stage ≠ 4 || d.p.lcHeld then d
  else
    let d := d.onP fun p => (p.at t).setFlag GBL_STATUS_LC_HOLD false
    let d := if d.p.boot.trained then d
      else
        let d := forN 8 (fun n d =>
          if failed.testBit n then d.onP fun p => (p.sliceDown n).raiseOp (0x0200 + n) 0x0210 none noDetail
          else d.onP fun p => p.sliceState n 2) d
        forN 8 (fun n d => d.sliceStale n) d
    d.onP fun p => ((p.updBoot fun b => { b with trained := true }).addAvail [0xC]).reach 5

/-- The background training of a DOWN slice (R241, R243). -/
def Dev.sliceRetrain (d : Dev) (t n : Nat) (ok : Bool) : Dev :=
  let w := Tab.get 0 n d.p.slc.backoff
  if 8 ≤ n || d.p.fg (SLC_STATUS_STATE n) ≠ 0 || w = 0 then d
  else
    let d := d.onP fun p => (p.at t).incE (SLC_TRAIN_COUNT_COUNT n)
    if ok then
      let d := d.sliceStale n
      d.onP fun p =>
        let p := { p.sliceState n 2 with slc := { p.slc with backoff := Tab.put 0 n 0 p.slc.backoff } }
        (p.raiseOp (0x0200 + n) 0x0212 none noDetail).levelRise 2
    else d.onP fun p => { p with slc := { p.slc with backoff := Tab.put 0 n (min 60000 (2 * w)) p.slc.backoff } }

/-- A running slice loses its stack (R242, R748, R772). -/
def Part.sliceLost (p : Part) (n : Nat) : Part :=
  if 8 ≤ n || !p.sliceUp n then p
  else
    let p := ((p.sliceDown n).encodesDown n).raiseOp (0x0200 + n) 0x0211 none noDetail
    let mir := (List.range 64).any fun r => (p.mirRegion r).any fun m => m.1 / 36 == n
    let p := if mir then p.standbyLost else p
    if p.service = 3 then p.setLevel 2 1 else p

/-! ### S6 and S7 (R766, R768, R774) -/

/-- S6: the Denben ports are enabled with their reset settings; the glide to VL1 of S7 begins. -/
def Part.stageS6 (p : Part) (t : Nat) : Part :=
  if p.boot.stage ≠ 5 then p
  else
    let p := p.at t
    let p := { p with den := { p.den with up := true } }
    (((p.addAvail [7]).reach 6).updBoot fun b => { b with rising := true }).vlSettle

/-- S7: the active point is never below VL1 in full service (R44), so S7 ends once the glide has. -/
def Part.stageS7 (p : Part) (t : Nat) : Part :=
  if p.boot.stage ≠ 6 || p.active = 0 then p
  else
    let p := ((p.at t).updBoot fun b => { b with rising := false }).reach 7
    p.setLevel p.fullLevel 0

/-! ### Confirmation and restart (R784, R787) -/

/-- Firmware has run for 60 s (R787). -/
def Part.bootConfirm (p : Part) (t : Nat) : Part :=
  let run := p.fg GBL_STATUS_RUNNING
  if run = 0 || p.flag GBL_BOOT_CONFIRMED || p.core.halted ≠ 0 || decide (max p.time t < p.boot.startedAt + 60000000000) then p
  else
    let p := (((p.at t).fs GBL_BOOT_FAILS 0).fs GBL_BOOT_SAT 0).fs GBL_BOOT_NEXT (run - 1)
    (p.setFlag GBL_BOOT_CONFIRMED true).nvmWrite

/-- What hedge 0 held in Moss service goes (R784). -/
def Part.hedge0Gone (p : Part) : Part :=
  let p := if (p.hedge 0).image.isSome then p.unbindImage 0 else p.stopWork 0 false
  let p := forIn' (p.qpsOf 0) (fun q p => (p.destroyQp q).qpFree q) p
  let p := forN 64 (fun b p => if p.ownsBrk 0 b then p.setReg (FAB_BRK_OWNER b) 0 else p) p
  let p := (p.pasidsEmpty 0).ringDisable 0
  forIn' [EVT_CFG 0, EVT_BASE 0, EVT_HEAD 0, EVT_TAIL 0] (fun k p => p.resetReg k) p

/-- A push restart (R784): the mailboxes go back to the boot ROM, and S3 runs on the pushed slot without a wait. -/
def Part.pushRestart (p : Part) (slot : Nat) : Part :=
  let p := p.fs GBL_BOOT_NEXT slot
  let p := if p.service = 1 then p.hedge0Gone else p
  let p := forN 17 (fun m p => if p.fg (MBX_STATUS_STATE m) = 1 then
    (p.updMbx m fun b => { b with run := [], ended := false, step := 0 }).fs (MBX_STATUS_STATE m) 0 else p) p
  let p := { p with hs := { p.hs with binds := [] }, ep := { p.ep with fwif := 0, fwVersion := 0 } }
  let p := ((p.fs GBL_STATUS_RUNNING 0).setFlag GBL_STATUS_LC_HOLD false).setFlag GBL_STATUS_RETRYING false
  let p := (p.setFlag LCH_WDT_ARMED false).updCore fun c => { c with expiry := none, left := 0 }
  let p := (p.fs GBL_BOOT_WAIT 0).fs GBL_BOOT_CONFIRMED 0
  let p := p.updBoot fun b => { b with stage := 2, waitMs := 0, force := some slot, granted := false, rising := false, back := 0 }
  (p.fs GBL_STATUS_WORKING 3).setLevel 0 6

/-! ### Meanings -/

/-- STAGE_S2 (R300, R305, R766, R775). -/
def execStageS2 (t : Nat) (link : Bool) (s : State) : Host.Outcome State Fault Refusal := onPart (fun p => p.stageS2 t link) s

/-- STAGE_S3 (R766, R778, R785): `facts` says, for slots A and B and the ROM area, the failing check, FW_VERSION and FWIF of content that no push wrote. -/
def execStageS3 (t : Nat) (facts : List (Nat × Nat × Nat)) (s : State) : Host.Outcome State Fault Refusal :=
  onPart (fun p => if p.boot.stage = 2 && p.boot.silentMs = 0 && p.boot.waitMs = 0 then (p.at t).tryS3 facts else p) s

/-- STAGE_S4 (R53, R766, R768, R770, R771). -/
def execStageS4 (t failed : Nat) (read : Option Nat) (s : State) : Host.Outcome State Fault Refusal :=
  onPart (fun p => p.stageS4 t failed read) s

/-- STAGE_S5 (R240, R241, R766). -/
def execStageS5 (t failed : Nat) (s : State) : Host.Outcome State Fault Refusal := onDev (fun d => d.stageS5 t failed) s

/-- STAGE_S6 (R766). -/
def execStageS6 (t : Nat) (s : State) : Host.Outcome State Fault Refusal := onPart (fun p => p.stageS6 t) s

/-- STAGE_S7 (R766, R769). -/
def execStageS7 (t : Nat) (s : State) : Host.Outcome State Fault Refusal := onPart (fun p => p.stageS7 t) s

/-- BOOT_BACKOFF_END (R788, R789). -/
def execBootBackoffEnd (t : Nat) (facts : List (Nat × Nat × Nat)) (s : State) : Host.Outcome State Fault Refusal :=
  onPart (fun p =>
    if p.boot.stage = 2 && p.boot.silentMs = 0 && p.boot.waitMs != 0 && decide (p.boot.waitAt + p.boot.waitMs * 1000000 ≤ max p.time t) then
      (p.at t).tryS3 facts
    else p) s

/-- LICHEN_LINK_RETRY (R775). -/
def execLichenLinkRetry (t : Nat) (link : Bool) (s : State) : Host.Outcome State Fault Refusal := onPart (fun p => p.linkRetry t link) s

/-- BRACKEN_RETEST (R790). -/
def execBrackenRetest (t b : Nat) (pass : Bool) (s : State) : Host.Outcome State Fault Refusal :=
  onPart (fun p => if b < 64 then p.brackenRetest t b pass else p) s

/-- BOOT_CONFIRM (R787). -/
def execBootConfirm (t : Nat) (s : State) : Host.Outcome State Fault Refusal := onPart (fun p => p.bootConfirm t) s

/-- BOOT_EVENT_DELIVERY (R794). -/
def execBootEventDelivery (s : State) : Host.Outcome State Fault Refusal := onPart (fun p => p.bootEvent) s

/-- A write of GBL_IRQ_MASK (R797, R798): unmasking a set source sends PF0 vector 0. -/
def Part.gblMaskWrite (p : Part) (m : Nat) : Part :=
  let old := p.fg GBL_IRQ_MASK_MASK
  let p := p.fs GBL_IRQ_MASK_MASK m
  if (upTo 4 fun i => old.testBit i && !m.testBit i && p.gblIrq.testBit i).isEmpty then p else p.sendMsi 0 0

/-- GBL_IRQ_MASK_WRITE (R798). -/
def execGblIrqMaskWrite (m : Nat) (s : State) : Host.Outcome State Fault Refusal := blockPart 1 (True) (fun p => p.gblMaskWrite m) s

/-- SLICE_RETRAIN (R241, R243). -/
def execSliceRetrain (t n : Nat) (ok : Bool) (s : State) : Host.Outcome State Fault Refusal := onDevIf (n < 8) (fun d => d.sliceRetrain t n ok) s

/-- MEM_SLICE_DOWN (R242). -/
def execMemSliceDown (n : Nat) (s : State) : Host.Outcome State Fault Refusal := onPartIf (n < 8) (fun p => p.sliceLost n) s

/-- STACK_TEMPERATURE_CHANGE (R237): the guaranteed rate is timing; HOT follows the temperature. -/
def execStackTemperatureChange (n : Nat) (t : Int) (s : State) : Host.Outcome State Fault Refusal :=
  onPart (fun p => if n < 8 then p.stackTemp n t else p) s

end Sys2Proof.Machine
end

