-- ==== Sys2Proof/Machine/Resets.lean ====
section
/-!
DEFINITION. Sys2Proof/Machine/Resets.lean: resets, function-level resets, VF Enable, power states and the loss of rails (R42, R327 to R342, R657, R803, R804).
-/

namespace Sys2Proof.Machine

open Sys2Proof

/-! ### Resets of the Quickset die (R332 to R337) -/

/-- The register file after a fundamental or hot reset (R333): the Lichen die's registers, Class E counters and the boot-control record stay. -/
def keptRegs (r : Tab Dword) : Tab Dword :=
  (r.filter fun e => keptByHostReset e.1).foldl (fun t e => Tab.put 0 e.1 e.2 t) (resetRegs.filter fun e => !keptByHostReset e.1)

/-- A firmware push that a reset interrupts leaves its slot without a header; one of the ROM area has touched the flash only once its image was authenticated (R779, R781). -/
def Boot.afterReset (b : Boot) : Boot :=
  { images := match b.push with
      | some w => if w.slot = 2 && w.img.isNone then b.images else Tab.ins w.slot [0xFF] (Tab.del w.slot b.images)
      | none => b.images }

/-- The Quickset and Thicket dies reset (R332, R333): what the Lichen die and NVM hold stays, and the loop domain learns that the host is absent.
The first cause stands while the die is in reset (R658). -/
def Part.dieReset (p : Part) (cause : Nat) : Part :=
  if p.boot.stage = 0 then p
  else
    let e := p.ep
    let p := { p with
      regs := keptRegs p.regs
      hold := []
      rings := []
      seqs := []
      vl := { vdd := p.vl.vdd }
      perSec := []
      hedges := []
      ep := { perst := e.perst, linkDisabled := e.linkDisabled && cause != 1, bar2Nvm := e.bar2Nvm, serialNvm := e.serialNvm,
              suffixG := e.suffixG, romVersion := e.romVersion, cfgImage := e.cfgImage, rom := e.rom }
      fab := {}
      slc := {}
      hs := {}
      tw := {}
      dbg := {}
      sor := { rails := p.sor.rails, refin := p.sor.refin, avdd := p.sor.avdd, selAt := p.time, factory := p.sor.factory }
      den := { refclk := p.den.refclk }
      boot := p.boot.afterReset }
    let p := (p.fs GBL_BOOT_WAIT 0).setFlag GBL_BOOT_CONFIRMED false
    let p := (p.setFlag LCH_WDT_ARMED false).setFlag LCH_WDT_PAUSED false
    let p := p.updCore fun c => { c with cause := cause, expiry := none, left := 0, halted := 0, run := c.run.map fun r => (r.1, none) }
    let p := p.updLoop fun l => { l with writes := l.writes.map fun w => { w with mbx := none } }
    p.hostAbsent

/-- One multiframe with the planned-reset flag, when the twin port is aligned (step 2 of R337). -/
def Part.plannedReset (p : Part) : Part :=
  if (p.frm 0).aligned && p.denbenUp then forN 64 (fun _ p => p.sendFrame 0 true) p else p

/-- A hot reset, a link disable or a DL_Down (R337): the dies reset and bring-up starts at S1. -/
def Part.hotReset (p : Part) (cause : Nat) : Part := (p.plannedReset.dieReset cause).tryStart

/-- The watchdog resets the dies without the planned-reset flag (R657); before its confirmation the boot counts as failed (R786). -/
def Part.watchdogReset (p : Part) : Part :=
  let p := p.record 0x0C02 (p.fg LCH_WDT_TIMEOUT_MS + p.fg GBL_STATUS_STAGE * 2 ^ 16)
  let p := if p.fg GBL_STATUS_RUNNING != 0 && !p.flag GBL_BOOT_CONFIRMED then p.bootFails else p
  (p.dieReset 4).tryStart

/-! ### Function-level resets (R328, R338 to R341) -/

/-- The bind of mailbox `m` is gone, with the read that it has out. -/
def Part.dropBind (p : Part) (m : Nat) : Part :=
  let p := p.agentsGone (· == .mp m)
  { p with hs := { p.hs with binds := p.hs.binds.filter fun (e : Nat × Option Bind) => e.2.map Bind.mbx != some m } }

/-- The place of the reads of a firmware push that has no mailbox any more. -/
def pushBox : Nat := 17

/-- A push whose mailbox is cleared goes on without a response (R334, R779, R781); what it has read of its image stays. -/
def Part.pushAlone (p : Part) (m : Nat) : Part :=
  match p.boot.push with
  | none => p
  | some w =>
    if w.mbx ≠ some m then p
    else
      let read := (Tab.get none m p.hs.binds).map fun b => { b with mbx := pushBox, tag := none }
      { p with
        hs := { p.hs with binds := Tab.put none pushBox read p.hs.binds }
        boot := { p.boot with push := some { w with mbx := none } } }

/-- What a command of mailbox `m` has under way stops, or goes on without the mailbox. -/
def Part.mbxLeave (p : Part) (m : Nat) : Part :=
  let gone := fun (b : Option Nat) => if b = some m then none else b
  let p := ((p.pushAlone m).dropBind m).updCore fun c =>
    { c with run := c.run.map fun r => (r.1, gone r.2) }
  let p := p.updLoop fun l => { l with writes := l.writes.map fun w => { w with mbx := gone w.mbx } }
  let p := p.updTwin fun t => { t with promote := t.promote.map fun r => { r with mbx := gone r.mbx }, resync := gone t.resync }
  if p.sor.user = some m then p.sorFree else p

/-- A mailbox abandons its command (R334, R397). -/
def Part.mbxAbandon (p : Part) (m : Nat) : Part := ((p.updMbx m fun _ => {}).setReg (MBX_STATUS m) 0).mbxLeave m

/-- Whether the command that runs on mailbox `m` goes on through a reset of a hedge: LIFECYCLE and FIRMWARE (R334, R406). -/
def Part.mbxFirm (p : Part) (m : Nat) : Bool :=
  p.boot.push.any (fun w => w.mbx == some m) || p.core.run.any (fun r => r.2 == some m)

/-- A reset of hedge `h` begins while mailbox 0 runs a command on it (R406). -/
def Part.mbxAborted (p : Part) (h : Nat) : Part :=
  if h ≠ 0 && p.fg (MBX_STATUS_STATE 0) = 1 && !(p.mbx 0).ended && p.mbxHedge 0 = h && !p.mbxFirm 0 then
    (p.dropBind 0).mbxFail 0 stAborted
  else p

/-- Event ring `r` is cleared by an FLR: what waits for it is gone, and its registers but EVT_LOST return to their Reset column (R332). -/
def Part.ringClear (p : Part) (r : Nat) : Part :=
  forIn' [EVT_BASE r, EVT_CFG r, EVT_HEAD r, EVT_TAIL r, EVT_STATUS r] (fun k p => p.resetReg k) (p.ringDisable r)

/-- Steps 2 to 5 of R338 for hedge `f` (R332). -/
def Dev.flrHedge (d : Dev) (f : Nat) : Dev :=
  let d := d.onP fun p => (p.updHedge f fun H => { H with resetting := true }).mbxAborted f
  let d := d.stopClear f
  d.onP fun p =>
    let p := forN 32 (fun k p => if p.fg (FAB_GW_ROUTE_HEDGE k) = f then p.fs (FAB_GW_ROUTE_CHANNELS k) 0 else p) p
    let p := p.updHedge f fun H => { H with image := none }
    let p := forN 8 (fun k p => if p.portOwner k == some f then p.portFresh k else p) p
    let p := p.dropOutbound f
    let p := forIn' (p.qpsOf f) (fun q p => p.destroyQp q) p
    let p := (p.mbxAbandon f).ringClear f
    -- inbound requests of the function that waited are discarded unlogged (R490)
    let p := (p.updBr fun b => { b with waiting := b.waiting.filter fun r => match r with
      | .atomic r => r.fn != f
      | .read fn _ _ _ | .write fn _ _ _ _ => fn != f
      | _ => true }).semView
    ((p.atcRemove fun fn _ _ _ => fn == f).2).invalDone.vlSettle

/-- Steps 1 to 5 of R338 for function `f` and its hedge. -/
def Dev.flrBegin (d : Dev) (f : Nat) : Dev :=
  if (d.p.func f).resetting || !d.p.fnExists f then d
  else (d.onP fun p => p.updFunc f fun F => { F with resetting := true, vecs := [] }).flrHedge f

/-- The configuration registers of PF0 that an FLR keeps: sticky AER and link fields (R332). -/
def stickyCfg (off : Nat) : Bool := decide (0x104 ≤ off ∧ off ≤ 0x118) || off == 0x70 || off == 0x90

/-- Step 6 of R338 (R332, R339). -/
def Part.flrDone (p : Part) (f : Nat) : Part :=
  if !(p.func f).resetting then p
  else
    let p := p.updFunc f fun F => { cfg := if f = 0 then F.cfg.filter fun e => stickyCfg e.1 else [] }
    let p := if f = 0 then p.breakAll else forIn' [GBL_VF_STATUS f, GBL_VF_IRQ f, GBL_VF_IRQ_MASK f] (fun k p => p.resetReg k) p
    let p := forN 16 (fun h p => if h = f ∨ (f = 0 ∧ !(p.func h).resetting) then p.updHedge h fun H => { H with resetting := false } else p) p
    p.raiseOp (0x0400 + f) 0x0403 none noDetail

/-- Every VF that exists runs its FLR, and VF Enable is clear (R328). -/
def Dev.vfsGo (d : Dev) : Dev :=
  let d := forN 16 (fun v d => if 0 < v then d.flrBegin v else d) d
  d.onP fun p => { p with ep := { p.ep with vfEnable := false } }

/-- A PF0 FLR (R332, R339): hedge 0, every VF, the hedges whose VF is not enabled, mailbox 16 and the operator ring. -/
def Dev.pf0Flr (d : Dev) : Dev :=
  if (d.p.func 0).resetting || d.p.boot.stage < 2 then d
  else
    let d := (d.flrBegin 0).vfsGo
    let d := forN 16 (fun h d => if (d.p.func h).resetting then d else d.flrHedge h) d
    d.onP fun p => (p.mbxAbandon 16).ringClear opRing

/-! ### Power states (R329 to R331) -/

/-- Requests and messages that D3hot held and that may leave now do so (R330). -/
def Part.releaseHeld (p : Part) : Part :=
  forN 16 (fun f p => p.flushMsi f) p.postRelease.atsRelease.npPump

/-! ### Rails (R42, R803, R804) -/

/-- FAB_BROWNOUT (R42, R772): the Thicket die resets, images are unbound and S4 runs again, and the governing band is that of VL0 (R49).
Its counters, STALLED and STALL_SEEN bits and the routes that the operator wrote stand in registers that the reset matrix resets with the Quickset die (R332): they stay (DEDUCED, notes/assumptions/80.md). -/
def Part.brownout (p : Part) : Part :=
  if p.boot.stage = 0 then p
  else
    let p := p.raiseOp 0x0142 0x0113 none noDetail
    let st := p.boot.stage
    let p := p.updBoot fun b => { b with back := if 4 ≤ st then max st b.back else b.back, stage := min st 3, rising := false }
    let p := if 3 ≤ st then p.fs GBL_STATUS_WORKING 4 else p
    let p := if 2 ≤ p.service then p.setLevel 1 4 else p
    let p := forN 16 (fun h p => if (p.hedge h).image.isSome then p.unbindImage h else p) p
    let p := { p with fab := {}, vl := { p.vl with confirmed := 0, retrying := false, retryMs := 0 } }.tempoRestart
    (((p.fs TEL_VL_STATUS_ACTIVE 0).fs TEL_VL_STATUS_TARGET 0).setFlag TEL_VL_STATUS_GLIDING false).regov

/-! ### Meanings -/

/-- PERST_N_ASSERT (R336). -/
def execPerstNAssert (s : State) : Host.Outcome State Fault Refusal :=
  onPart (fun p =>
    let p := p.dieReset 1
    { p with ep := { p.ep with perst := true } }) s

/-- PERST_N_DEASSERT (R336, R766). -/
def execPerstNDeassert (s : State) : Host.Outcome State Fault Refusal :=
  onPart (fun p => { p with ep := { p.ep with perst := false } }.tryStart) s

/-- HOT_RESET (R337). -/
def execHotReset (s : State) : Host.Outcome State Fault Refusal :=
  onPart (fun p => if p.ep.linkUp then p.hotReset 2 else p) s

/-- LINK_DISABLE (R337): the part waits while the link is disabled. -/
def execLinkDisable (s : State) : Host.Outcome State Fault Refusal :=
  onPart (fun p => if p.ep.linkUp then
    let p := p.hotReset 2
    { p with ep := { p.ep with linkDisabled := true } } else p) s

/-- LINK_DOWN (R337). -/
def execLinkDown (s : State) : Host.Outcome State Fault Refusal :=
  onPart (fun p => if p.ep.linkUp then p.hotReset 3 else p) s

/-- VF_FLR (R338, R340, R341). -/
def execVfFlr (v : Nat) (s : State) : Host.Outcome State Fault Refusal :=
  onDev (fun d => if 1 ≤ v ∧ v ≤ 15 ∧ 2 ≤ d.p.boot.stage then d.flrBegin v else d) s

/-- PF0_FLR (R339, R341). -/
def execPf0Flr (s : State) : Host.Outcome State Fault Refusal := onDev (fun d => d.pf0Flr) s

/-- EP_FLR_DONE (step 6 of R338). -/
def execEpFlrDone (f : Nat) (s : State) : Host.Outcome State Fault Refusal := onPartIf (f < 16) (fun p => p.flrDone f) s

/-- VF_ENABLE_SET (R321, R327). -/
def execVfEnableSet (s : State) : Host.Outcome State Fault Refusal :=
  onPart (fun p => if p.ep.crs || (p.func 0).resetting then p else { p with ep := { p.ep with vfEnable := true } }) s

/-- VF_ENABLE_CLEAR (R328). -/
def execVfEnableClear (s : State) : Host.Outcome State Fault Refusal :=
  onDev (fun d => if d.p.ep.crs || (d.p.func 0).resetting || !d.p.ep.vfEnable then d else d.vfsGo) s

/-- D3HOT_ENTRY (R329, R331). -/
def execD3hotEntry (f : Nat) (s : State) : Host.Outcome State Fault Refusal :=
  onPart (fun p => if p.fnExists f && !p.ep.crs then p.updFunc f fun F => { F with d3 := true } else p) s

/-- D0_RETURN (R330). -/
def execD0Return (f : Nat) (s : State) : Host.Outcome State Fault Refusal :=
  onDev (fun d => if (d.p.func f).d3 then (d.onP fun p => (p.updFunc f fun F => { F with d3 := false }).releaseHeld.coresBack).settle else d) s

/-- FAB_BROWNOUT (R42, R772). -/
def execFabBrownout (s : State) : Host.Outcome State Fault Refusal := onPart (fun p => p.brownout) s

/-- RAILS_SETTLED (R803). -/
def execRailsSettled (s : State) : Host.Outcome State Fault Refusal :=
  onPart (fun p => (p.updCore fun c => { c with rails := true }).tryStart) s

/-- RAIL_DIP (R804): memory contents are lost. -/
def execRailDip (s : State) : Host.Outcome State Fault Refusal :=
  onDev (fun d => { mem := [], p := (d.p.dieReset 0).updCore fun c => { c with rails := false } }) s

end Sys2Proof.Machine
end

