-- ==== Sys2Proof/Machine/CoreEvents.lean ====
section
/-!
DEFINITION. Sys2Proof/Machine/CoreEvents.lean: supplies, alarms, the over-temperature latch, the watchdog and the life cycle of the Lichen core domain (R631 to R674).
-/

namespace Sys2Proof.Machine

open Sys2Proof

/-! ### Supplies (R631 to R635, R668) -/

/-- HOLD_OK for a capacitance in µF at a voltage in mV (R668): ½ × C × (V² − 2.4²) is at least 250 µJ. -/
def holdOk (uf mv : Nat) : Bool := decide (500000000 + uf * 5760000 ≤ uf * mv * mv)

/-- The core domain is without power: the RTC and retention RAM are lost (R635). -/
def Part.coreDies (p : Part) : Part :=
  let p := p.updCore fun c => { c with dead := true, ret := [], diff := [], cellOk := false, cellFailed := false }
  p.setReg LCH_CORE_STATUS 0

/-- The core domain's cold start (R635, R676): RTC_VALID is clear and the RTC starts at zero. -/
def Part.coreColdStart (p : Part) : Part :=
  if !p.core.dead then p
  else
    let p := (p.setReg LCH_CORE_STATUS 0).setReg LCH_WDT 0
    (p.updCore fun c => { c with dead := false, ret := [], diff := [], rtcBase := 0, rtcAt := p.clock }).retView

/-- VSTBY falls below 2.85 V (R631, R633): the core domain runs from VBAT, or dies where the cell cannot hold it. -/
def Part.vstbyFall (p : Part) : Part :=
  if !p.vstby then p
  else
    let p := p.dieReset 0
    let p := (p.setFlag LCH_CORE_STATUS_VSTBY_OK false).setFlag LCH_CORE_STATUS_HOLD_OK false
    let p := p.updCore fun c => { c with rails := false, cellOk := false }
    let p := if p.core.vbat < 2200 then p.coreDies else p.setFlag LCH_CORE_STATUS_ON_CELL true
    p.hostAbsent.loopSettle

/-- Every retention record, oldest first, goes to the NVM log (R655). -/
def Part.recordWriteAll (p : Part) : Part := forN p.core.ret.length (fun _ p => p.recordWrite) p

/-- VSTBY rises to 3.0 V (R631, R634, R646, R655, R668): a record latched on the cell that no test let write gets CELL_ONLY (R647). -/
def Part.vstbyRise (p : Part) (uf mv : Nat) : Part :=
  if p.vstby then p
  else
    let p := p.coreColdStart
    let p := ((p.setFlag LCH_CORE_STATUS_VSTBY_OK true).setFlag LCH_CORE_STATUS_ON_CELL false).setFlag LCH_CORE_STATUS_HOLD_OK (holdOk uf mv)
    let p := p.updCore fun c => { c with cellFailed := false, cellOk := false, cycled := true, ret := c.ret.map CoreRec.cellOnly }
    p.recordWriteAll.tryStart

/-- VBAT falls below 2.2 V (R635). -/
def Part.vbatLoss (p : Part) (mv : Nat) : Part :=
  let p := (p.updCore fun c => { c with vbat := mv }).fs LCH_CORE_STATUS_VBAT (mv / 20)
  if p.vstby || 2200 ≤ mv then p else p.coreDies.loopSettle

/-! ### Alarms and the over-temperature latch (R640 to R646) -/

/-- The ACTION of alarm `i`. -/
def Part.alarmAct (p : Part) (i : Nat) : Nat := p.fg ⟨LCH_ALARM_CFG, 4 * i, 2⟩

/-- The POLARITY of alarm `i`. -/
def Part.alarmPol (p : Part) (i : Nat) : Bool := p.flag ⟨LCH_ALARM_CFG, 4 * i + 2, 1⟩

/-- One sample of input `i` (R641, R643, R644, R652). -/
def Part.alarmInput (p : Part) (i : Nat) (closed : Bool) : Part :=
  let f : Fld := ⟨LCH_CORE_STATUS, 8 + i, 1⟩
  let now := closed != p.alarmPol i
  if now = p.flag f then p.updCore fun c => { c with diff := Tab.put 0 i 0 c.diff }
  else
    let n := Tab.get 0 i p.core.diff + 1
    if n < 3 then p.updCore fun c => { c with diff := Tab.put 0 i n c.diff }
    else
      let p := (p.setFlag f now).updCore fun c => { c with diff := Tab.put 0 i 0 c.diff }
      p.record 0x0C01 (i + (if now then 16 else 0) + p.alarmAct i * 2 ^ 8)

/-- The 10 ms sample of the four inputs; `closed` has a bit for each. -/
def Part.alarmSample (p : Part) (closed : Nat) : Part :=
  if p.core.dead then p
  else
    let p := p.updCore fun c => { c with closed := closed % 16 }
    (forN 4 (fun i p => p.alarmInput i (closed.testBit i)) p).loopSettle

/-- The record of the over-temperature latch (R652). -/
def Part.overtempRecord (p : Part) (tripped : Bool) : Part :=
  p.record 0x0C03 ((if tripped then 16 else 0) + p.alarmAct 4 * 2 ^ 8 + (BitVec.ofInt 8 p.core.temp).toNat * 2 ^ 16)

/-- The pin OVERTEMP_N. -/
def pinOvertemp : Nat := 7

/-- The latch trips (R645). -/
def Part.overtempTrip (p : Part) (temp : Int) : Part :=
  let tj := (BitVec.ofNat 8 (p.fg TEL_VL_STATUS_TJ_MAX)).toInt
  if p.core.dead || p.flag LCH_CORE_STATUS_OVERTEMP || !(decide (120 ≤ temp) || decide (115 ≤ tj)) then p
  else
    let p := (p.updCore fun c => { c with temp := temp, cycled := false }).setFlag LCH_CORE_STATUS_OVERTEMP true
    let p := ((p.fs ⟨LCH_CORE_STATUS, 12, 1⟩ 1).overtempRecord true).emit (.pin pinOvertemp 0)
    let (cause, p) := p.draw 2
    (p.dieReset cause).loopSettle

/-- The latch releases (R646). -/
def Part.overtempRelease (p : Part) (temp : Int) : Part :=
  if !p.flag LCH_CORE_STATUS_OVERTEMP || decide (90 ≤ temp) || !(p.ep.perst || p.core.cycled) then p
  else
    let p := (p.updCore fun c => { c with temp := temp }).setFlag LCH_CORE_STATUS_OVERTEMP false
    let p := ((p.fs ⟨LCH_CORE_STATUS, 12, 1⟩ 0).overtempRecord false).emit (.pin pinOvertemp 1)
    p.loopSettle.tryStart

/-! ### The watchdog (R656, R657) -/

/-- A kick, which may set a new timeout. -/
def Part.watchdogKick (p : Part) (timeout : Option Nat) : Part :=
  if !p.flag LCH_WDT_ARMED then p
  else
    let p := match timeout with
      | some n => if 100 ≤ n ∧ n ≤ 60000 then p.fs LCH_WDT_TIMEOUT_MS n else p
      | none => p
    p.watchdogStart

/-- The watchdog expires at device time `t`. -/
def Part.watchdogExpires (p : Part) (t : Nat) : Part :=
  let q := p.at t
  if p.flag LCH_WDT_ARMED && q.core.expiry.any (fun e => decide (e ≤ q.clock)) then q.watchdogReset else p

/-- JTAG halts core `c`: the watchdog pauses. -/
def Part.coreHalt (p : Part) (c : Nat) : Part :=
  let p := p.updCore fun k =>
    { k with
      halted := k.halted ||| 2 ^ c
      left := match k.expiry with
        | some e => e - p.clock
        | none => k.left
      expiry := none }
  p.setFlag LCH_WDT_PAUSED (p.flag LCH_WDT_ARMED)

/-- JTAG releases core `c`: the watchdog counts on once no core is halted. -/
def Part.coreResume (p : Part) (c : Nat) : Part :=
  let was := p.core.halted
  let p := p.updCore fun k => { k with halted := k.halted - (k.halted &&& 2 ^ c) }
  if was = 0 || p.core.halted ≠ 0 then p
  else
    let p := p.setFlag LCH_WDT_PAUSED false
    if p.flag LCH_WDT_ARMED && p.core.left ≠ 0 then p.updCore fun k => { k with expiry := some (p.clock + k.left) } else p

/-! ### The life cycle (R660 to R674) -/

/-- The slot that governs: 0 A, 1 B (R672). -/
def Core.governing (c : Core) : Option (Nat × LcSlot) :=
  match c.slotA, c.slotB with
  | some a, some b => if seqAbove b.seq a.seq then some (1, b) else some (0, a)
  | some a, none => some (0, a)
  | none, some b => some (1, b)
  | none, none => none

/-- A slot is written. -/
def Core.setSlot (c : Core) (i : Nat) (s : Option LcSlot) : Core := if i = 0 then { c with slotA := s } else { c with slotB := s }

/-- LCH_LIFECYCLE shows the governing record. -/
def Part.lifeView (p : Part) : Part :=
  match p.core.governing with
  | none => (p.fs LCH_LIFECYCLE_STATE 6).setFlag LCH_LIFECYCLE_PENDING false
  | some (_, s) => (p.fs LCH_LIFECYCLE_STATE s.state).setFlag LCH_LIFECYCLE_PENDING !s.committed

/-- The side effects of a transition (R664). -/
def Part.lifeEffects (p : Part) (old new : Nat) : Part :=
  let p := if old = 4 then p.updLoop fun l => { l with cal := none } else p
  if new ≠ 5 then p.loopSettle
  else
    let p := (p.updCore fun c => { c with keys := Tab.put [] 2 [] (Tab.put [] 3 [] c.keys), loopDefaults := true }).nvmWrite.nvmWrite
    let p := p.writeTerm 0
    if p.loop.running then p.loopDefaults.loopSettle else p

/-- What the management processor does after DECOMMISSIONED commits (R666, R726, R770). -/
def Dev.decommissioned (d : Dev) : Dev :=
  if d.p.service = 0 then d
  else
    let d := forN 16 (fun h d => if 0 < h && d.p.hedgeExists h then d.destroyHedge h else d) d
    d.onP fun p =>
      let p := if (p.hedge 0).image.isSome then p.unbindImage 0 else p
      let p := (p.setLevel 1 5).setFlag GBL_STATUS_LC_HOLD true
      p.unpair.setRole 0 0

/-- The commit of the governing record (steps 5 to 7 of R669, R673). -/
def Dev.lifeCommit (d : Dev) (slot : Nat) (s : LcSlot) (mbx : Option Nat) (redone : Bool) : Dev :=
  let d := d.onP fun p =>
    let p := p.lifeEffects s.prev s.state
    let p := ((p.updCore fun c => { c.setSlot slot (some { s with committed := true }) with run := none }).nvmWrite.lifeView).setFlag LCH_LIFECYCLE_BUSY false
    let p := p.record 0x0C04 (s.state + s.prev * 16 + if redone then 256 else 0)
    let p := p.loopSettle
    if p.flag GBL_STATUS_LC_HOLD && !p.lcHeld then
      let p := p.setFlag GBL_STATUS_LC_HOLD false
      if p.boot.stage = 4 then p.fs GBL_STATUS_WORKING 5 else p
    else p
  let d := if s.state = 5 then d.decommissioned else d
  match mbx with
  | some m => d.onP fun p => p.mbxEnd m stOk [BitVec.ofNat 8 s.state]
  | none => d

/-- LIFECYCLE_COMMIT: the transition that runs ends. -/
def Dev.lifecycleCommit (d : Dev) : Dev :=
  match d.p.core.run, d.p.core.governing with
  | some (slot, m), some (g, s) => if g = slot && !s.committed then d.lifeCommit slot s m false else d
  | _, _ => d

/-- LIFECYCLE_REDO: a record found pending at power-up. -/
def Dev.lifecycleRedo (d : Dev) : Dev :=
  if d.p.core.run.isSome || !d.p.vstby || !d.p.flag LCH_CORE_STATUS_HOLD_OK || !d.p.flag LCH_LIFECYCLE_PENDING then d
  else match d.p.core.governing with
    | some (slot, s) => if s.committed then d else d.lifeCommit slot s none true
    | none => d

/-- The core domain powers up (R672): a transition that power failure cut short is found as its slot says; `torn`: power failed while step 3 wrote its record, whose CRC then fails (R674). -/
def Part.corePowerUp (p : Part) (torn : Bool) : Part :=
  ((p.updCore fun c =>
    let c := match c.run with
      | some (slot, _) => if torn then c.setSlot slot none else c
      | none => c
    { c with run := none }).setFlag LCH_LIFECYCLE_BUSY false).lifeView.loopSettle

/-! ### Meanings -/

/-- VSTBY_FALL (R631, R633). -/
def execVstbyFall (s : State) : Host.Outcome State Fault Refusal := onPart (fun p => p.vstbyFall) s

/-- VSTBY_RISE (R631, R634, R668): CHOLD in µF and its voltage in mV as the core domain measures them. -/
def execVstbyRise (uf mv : Nat) (s : State) : Host.Outcome State Fault Refusal := onPart (fun p => p.vstbyRise uf mv) s

/-- VBAT_LOSS (R635). -/
def execVbatLoss (mv : Nat) (s : State) : Host.Outcome State Fault Refusal := onPart (fun p => p.vbatLoss mv) s

/-- ALARM_SAMPLE (R640, R641). -/
def execAlarmSample (closed : Nat) (s : State) : Host.Outcome State Fault Refusal := onPart (fun p => p.alarmSample closed) s

/-- OVERTEMP_LATCH_TRIP (R645). -/
def execOvertempLatchTrip (temp : Int) (s : State) : Host.Outcome State Fault Refusal := onPart (fun p => p.overtempTrip temp) s

/-- OVERTEMP_LATCH_RELEASE (R646). -/
def execOvertempLatchRelease (temp : Int) (s : State) : Host.Outcome State Fault Refusal := onPart (fun p => p.overtempRelease temp) s

/-- WATCHDOG_KICK (R656). -/
def execWatchdogKick (timeout : Option Nat) (s : State) : Host.Outcome State Fault Refusal := onPart (fun p => p.watchdogKick timeout) s

/-- WATCHDOG_RESET (R657). -/
def execWatchdogReset (t : Nat) (s : State) : Host.Outcome State Fault Refusal := onPart (fun p => p.watchdogExpires t) s

/-- JTAG_CORE_HALT (R656). -/
def execJtagCoreHalt (c : Nat) (s : State) : Host.Outcome State Fault Refusal := onPart (fun p => if c < 4 && p.core.rails then p.coreHalt c else p) s

/-- JTAG_CORE_RESUME (R656). -/
def execJtagCoreResume (c : Nat) (s : State) : Host.Outcome State Fault Refusal := onPart (fun p => if c < 4 && p.core.rails then p.coreResume c else p) s

/-- CORE_POWER_UP (R672, R674). -/
def execCorePowerUp (torn : Bool) (s : State) : Host.Outcome State Fault Refusal := onPart (fun p => p.corePowerUp torn) s

/-- LIFECYCLE_REDO (R673). -/
def execLifecycleRedo (s : State) : Host.Outcome State Fault Refusal := onDev (fun d => d.lifecycleRedo) s

/-- LIFECYCLE_COMMIT (R669). -/
def execLifecycleCommit (s : State) : Host.Outcome State Fault Refusal := onDev (fun d => d.lifecycleCommit) s

end Sys2Proof.Machine
end

