-- ==== Sys2Proof/Machine/MbxProto.lean ====
section
/-!
DEFINITION. Sys2Proof/Machine/MbxProto.lean: the mailbox protocol: doorbells, the checks that every command shares, waiting, and the end of a command (R395 to R415).
-/

namespace Sys2Proof.Machine

open Sys2Proof

/-- Whether a mailbox may issue a command (R414). -/
def CmdRow.caller (r : CmdRow) (m : Nat) : Bool :=
  match r.boxes with
  | 0 => m == 0
  | 1 => m ≤ 15
  | 2 => true
  | 3 => m == 0 || m == 16
  | _ => true

/-- Whether the service level and the life cycle offer a command on a mailbox (R327, R413, R414). -/
def Part.offers (p : Part) (r : CmdRow) (m : Nat) : Bool :=
  decide (r.moss ≤ p.service) && !(r.moss == 2 && p.fg LCH_LIFECYCLE_STATE == 5) && !(vfBox m && decide (p.service ≤ 1))

/-- Whether the header and the length of a request are legal (R16, R407, R409, R410). -/
def CmdRow.wellFormed (r : CmdRow) (m : Nat) (run : List Byte) : Bool :=
  let len := bytesAt run 4 2
  let args := (run.drop 16).take len
  let offs := fieldOffsets r.args
  let inField := fun i => offs.any fun f => decide (f.1 ≤ i ∧ i < f.1 + f.2)
  decide (len ≤ 4080) && bytesAt run 6 2 ≤ 1 && bytesAt run 9 7 == 0 && (vfBox m || decide (bytesAt run 8 1 < 16)) &&
    (args.zipIdx.all fun x => x.1 == 0 || inField x.2)

/-- Whether an enabled region belongs to another hedge than that of VF mailbox `m` (R248, R415). -/
def Part.regionForeign (p : Part) (m n k : Nat) : Bool := vfBox m && (p.region n k).enable && (p.region n k).hedge != m

/-- Whether a slot of hedge `h` holds a PASID. -/
def Part.pasidOwn (p : Part) (h ps : Nat) : Bool := (List.range 4).any fun i => p.flag (ATU_PASID_VALID h i) && p.fg (ATU_PASID_PASID h i) == ps

/-- Whether the running command of mailbox `m` names a resource of another hedge, or one that its hedge has no part in (R217, R415, R420, R459, R471, R573, R721, R762). -/
def Part.mbxForeign (p : Part) (m : Nat) : Bool :=
  let a := p.arg m 0 1
  match (p.mbx m).opcode with
  | 0x0502 => decide (1 ≤ a ∧ a ≤ 15 ∧ p.arg m 2 2 < 288) && p.plotOwner (p.arg m 2 2) != some a
  | 0x0601 => p.regionForeign m a (p.arg m 1 1)
  | 0x0603 => p.regionForeign m a (p.arg m 1 1)
  | 0x0703 => vfBox m && !p.pasidOwn m (p.arg m 0 4)
  | 0x0704 => vfBox m && decide (a ≤ 63) && !(p.fg (ATU_WIN_CFG_HEDGE_MASK a)).testBit m
  | 0x0803 => vfBox m && (p.arg m 4 4 &&& (p.hedge m).channels) != p.arg m 4 4
  | 0x0A02 => vfBox m && decide (a ≤ 8) && (a == 0 || p.portOwner (a - 1) != some m)
  | 0x0B06 => vfBox m && !p.tw.mirrored.testBit m
  | _ => false

/-- The checks that come before the command itself, in the order of R411; a LENGTH above 4,080 is a number out of its range (R410, R412). -/
def Part.mbxCheck (p : Part) (m : Nat) (run : List Byte) : Option Sts :=
  match cmdRow (bytesAt run 0 2) with
  | none => some stBadOpcode
  | some r =>
    if !r.caller m then some stCaller
    else if p.mbxForeign m then some stDenied
    else if !p.offers r m then some stMoss
    else if 4080 < bytesAt run 4 2 then some stRange
    else if !r.wellFormed m run then some stBadArg
    else none

/-- MBX_REQ as far as its LENGTH reaches: the header and at most 4,080 argument bytes (R407). -/
def Mbox.request (b : Mbox) : List Byte :=
  let byte := fun i => BitVec.ofNat 8 (Tab.get 0 i b.req)
  let head := (List.range 16).map byte
  head ++ (List.range (min 4080 (bytesAt head 4 2))).map fun i => byte (16 + i)

/-- A doorbell of mailbox `m` (R399, R400, R411). -/
def Part.mbxRing (p : Part) (m : Nat) : Part :=
  if 17 ≤ m then p
  else if p.fg (MBX_STATUS_STATE m) = 1 || p.fg (MBX_STATUS_STATE m) = 3 then p.fs ⟨MBX_STATUS m, 4, 1⟩ 1
  else
    let run := (p.mbx m).request
    let n := p.hs.rung
    let p := p.updMbx m fun b => { b with run := run, order := n, ended := false, step := 0 }
    let p := { p with hs := { p.hs with rung := n + 1 } }
    let p := (p.fs (MBX_STATUS_STATE m) 1).fs ⟨MBX_STATUS m, 16, 16⟩ (bytesAt run 2 2)
    match p.mbxCheck m run with
    | some e => p.mbxFail m e
    | none => p

/-- The end of a command (R400, R401, R403): DONE, the count, and the response vector. -/
def Part.mbxDone (p : Part) (m : Nat) : Part :=
  let b := p.mbx m
  if p.fg (MBX_STATUS_STATE m) ≠ 1 || !b.ended then p
  else
    let p := (p.updMbx m fun b => { b with ended := false, step := 0 }).fs (MBX_STATUS_STATE m) 2
    let p := p.addW ⟨MBX_DONE m, 0, 32⟩ 1
    if bytesAt b.run 6 2 % 2 = 0 || m = 16 then p else if m = 0 then p.sendMsi 0 3 else p.sendMsi m 2

/-! ### What every command row shares -/

/-- Whether mailbox `m` runs a command that has not ended. -/
def Part.mbxRuns (p : Part) (m : Nat) : Bool := p.fg (MBX_STATUS_STATE m) == 1 && !(p.mbx m).ended

/-- Whether the command of mailbox `m` acts on a hedge and so waits for others (R404). -/
def Part.mbxLocks (p : Part) (m : Nat) : Bool := (cmdRow (p.mbx m).opcode).any fun r => r.hedge == 1 || r.hedge == 3 || (r.hedge == 2 && vfBox m)

/-- Whether the command of mailbox `m` waits for an earlier one on the same hedge (R404). -/
def Part.mbxWaits (p : Part) (m : Nat) : Bool :=
  p.mbxLocks m && (List.range 17).any fun k =>
    k != m && p.mbxRuns k && p.mbxLocks k && p.mbxHedge k == p.mbxHedge m && decide ((p.mbx k).order < (p.mbx m).order)

/-- Whether mailbox `m` performs the command of an opcode now. -/
def Part.serves (p : Part) (m op : Nat) : Bool := decide (m ≤ 16) && p.mbxRuns m && (p.mbx m).opcode == op && !p.mbxWaits m

/-- The command of an opcode is performed on mailbox `m`. -/
def Part.serve (p : Part) (m op : Nat) (f : Part → Part) : Part := if p.serves m op then f p else p

/-- The same where the command touches the stacks. -/
def Dev.serve (d : Dev) (m op : Nat) (f : Dev → Dev) : Dev := if d.p.serves m op then f d else d

/-- The first error that applies, of a list in the order of R411. -/
def firstErr (l : List (Bool × Sts)) : Option Sts := (l.find? (·.1)).map (·.2)

/-- A command ends with the first error that applies, or has its effect and answers OK with its results. -/
def Part.answer (p : Part) (m : Nat) (errs : List (Bool × Sts)) (f : Part → List Byte × Part) : Part :=
  match firstErr errs with
  | some e => p.mbxEnd m e []
  | none => let (r, q) := f p; q.mbxEnd m stOk r

/-- The same for an effect on the stacks without results. -/
def Dev.answer (d : Dev) (m : Nat) (errs : List (Bool × Sts)) (f : Dev → Dev) : Dev :=
  match firstErr errs with
  | some e => d.onP fun p => p.mbxEnd m e []
  | none => (f d).onP fun p => p.mbxEnd m stOk []

/-- A command of several parts: its checks at its first part, and its end once its effect says so. -/
def Part.answerLater (p : Part) (m : Nat) (errs : List (Bool × Sts)) (f : Part → Bool × Part) : Part :=
  match if (p.mbx m).step = 0 then firstErr errs else none with
  | some e => p.mbxEnd m e []
  | none =>
    let (done, q) := f p
    if done then q.mbxEnd m stOk [] else q.updMbx m fun b => { b with step := 1 }

/-- The hedge of the command does not exist or is resetting (R406, R415). -/
def Part.hedgeBad (p : Part) (m : Nat) : Bool :=
  (vfBox m && !p.hedgeExists m) || (p.mbxLocks m && (p.hedge (p.mbxHedge m)).resetting)

/-- The same, for commands that need their target hedge to exist. -/
def Part.hedgeMissing (p : Part) (m : Nat) : Bool := p.hedgeBad m || !p.hedgeExists (p.mbxHedge m)

/-! ### Meanings -/

/-- MBX_DOORBELL (R395, R399, R400): PF0 rings mailboxes 0 and 16, and VF v rings mailbox v. -/
def execMbxDoorbell (m : Nat) (s : State) : Host.Outcome State Fault Refusal :=
  onPart (fun p =>
    let f := if vfBox m then m else 0
    if p.accessOpen f && p.finds f 3 then p.mbxRing m else p) s

/-- Whether the command that ends on mailbox `m` is a FIRMWARE_PUSH with BOOT 1 that succeeded: the part then restarts after the response (R423, R784). -/
def Part.pushEnds (p : Part) (m : Nat) : Bool :=
  let b := p.mbx m
  p.fg (MBX_STATUS_STATE m) == 1 && b.ended && b.opcode == 0x0F01 && p.arg m 1 1 == 1 && bytesAt b.rsp 6 1 == 0

/-- A push of mailbox `m` ends without a valid image. -/
def Part.pushEnd (p : Part) (m : Nat) : Part :=
  p.updBoot fun b => { b with push := b.push.filter fun w => w.mbx != some m }

/-- An inconsistency that the firmware finds in itself, at a location `loc`, ends the command in progress with INTERNAL (R394). -/
def Part.mbxInternal (p : Part) (m loc : Nat) : Part :=
  if p.fg (MBX_STATUS_STATE m) ≠ 1 then p
  else (((p.pushEnd m).mbxLeave m).mbxFail m stInternal).raiseOp 0x0600 0x0603 none ((p.mbx m).opcode + loc % 2 ^ 32 * 2 ^ 32)

/-- MBX_COMMAND_DONE (R394, R400, R401, R403, R784). -/
def execMbxCommandDone (e : MbxEnd) (s : State) : Host.Outcome State Fault Refusal :=
  onPart (fun p =>
    let m := e.mbx
    if 17 ≤ m then p
    else
      let p := match e.internal with
        | some loc => p.mbxInternal m loc
        | none => p
      let q := p.mbxDone m
      if p.pushEnds m then q.pushRestart (p.arg m 0 1) else q) s

end Sys2Proof.Machine
end

