-- ==== Sys2Proof/Machine/MbxManage.lean ====
section
/-!
DEFINITION. Sys2Proof/Machine/MbxManage.lean: the general, HEDGE, QUEUE, IMAGE, MEMORY, KVC and ATU commands (R202 to R209, R414 to R421, R438 to R443, R459, R517).
The BAD_ARG of a reserved encoding carries no reason, that of a number out of range RANGE (DEDUCED, notes/assumptions/32.md).
-/

namespace Sys2Proof.Machine

open Sys2Proof

/-! ### General commands -/

/-- IDENTIFY (R414): the identity record, the service level and the stage. -/
def Part.cmdIdentify (p : Part) (m : Nat) : Part :=
  p.answer m [] fun p =>
    (packFields [(128, leNat (p.ident.map (BitVec.ofNat 8 ·))), (1, p.service), (1, p.fg GBL_STATUS_STAGE)], p)

/-- STATUS (R414, R791). -/
def Part.cmdStatus (p : Part) (m : Nat) : Part :=
  p.answer m [] fun p =>
    (packFields [(1, p.service), (1, p.fg GBL_STATUS_STAGE), (1, p.fg LCH_LIFECYCLE_STATE), (1, p.fg GBL_RESET_CAUSE_CAUSE),
      (2, maskOf (upTo 16 p.hedgeExists)), (4, p.fg LCH_BOOT_ATTEMPTS_COUNT), (8, p.time)], p)

/-- OPCODES (R414, R428): the opcodes that this mailbox is served now. -/
def Part.cmdOpcodes (p : Part) (m : Nat) : Part :=
  p.answer m [] fun p =>
    let ops := cmdTable.filter fun r => r.caller m && p.offers r m
    (packFields [(480, maskOf (ops.map fun r => 256 * (r.op / 256 - 1) + r.op % 256))], p)

/-! ### HEDGE (R416, R417, R517) -/

/-- HEDGE_CREATE (R416, R517, R518). -/
def Part.cmdHedgeCreate (p : Part) (m : Nat) : Part :=
  let h := p.mbxHedge m
  p.answer m [(decide (1 < p.arg m 0 1), stBadArg), (p.hedgeExists h || p.hedgeBad m, stHedge)] fun p =>
    ([], p.createHedge h (p.arg m 0 1 == 1))

/-- HEDGE_DESTROY (R416, R443, R519): it ends once the requests that carry the hedge's PASIDs have completed. -/
def Dev.cmdHedgeDestroy (d : Dev) (m : Nat) : Dev :=
  let h := d.p.mbxHedge m
  match if (d.p.mbx m).step = 0 then firstErr [(h == 0, stRange), (d.p.hedgeMissing m, stHedge)] else none with
  | some e => d.onP fun p => p.mbxEnd m e []
  | none =>
    let d := if (d.p.mbx m).step = 0 then
        (d.destroyBegin h).onP fun p => p.updMbx m fun b => { b with step := 1, waits := d.p.pasidsOf h }
      else d
    let ps := (d.p.mbx m).waits
    if ps.any (d.p.pasidReads h) then d else (d.destroyEnd h ps).onP fun p => p.mbxEnd m stOk []

/-- HEDGE_ASSIGN (R417, R516, R790). -/
def Part.cmdHedgeAssign (p : Part) (m : Nat) : Part :=
  let h := p.mbxHedge m
  let op := p.arg m 0 1
  let r : Res := ⟨p.arg m 8 8, p.arg m 4 4, p.arg m 1 1, p.arg m 2 1 == 1⟩
  let u := p.imageUses h
  let mine : Res := ⟨maskOf (upTo 64 fun b => r.brks.testBit b && p.ownsBrk h b), r.chans &&& (p.hedge h).channels,
    r.ports &&& (p.hedge h).streamPorts, r.loop && (p.hedge h).loopPort⟩
  let failed := (List.range 64).any fun b => r.brks.testBit b && (p.brkOwner b).isNone && (p.fg GBL_BRK_FAIL_FAILED).testBit b
  p.answer m [(decide (1 < op) || decide (1 < p.arg m 2 1), stBadArg), (p.hedgeMissing m, stHedge),
      (op == 1 && u.meets mine, stInUse), (p.resForeign h r, stNotOwned), (op == 0 && failed, stNoResource)] fun p =>
    ([], if op = 0 then p.resAssign h r else p.resRelease h r)

/-- HEDGE_CADENCE (R63, R414). -/
def Part.cmdHedgeCadence (p : Part) (m : Nat) : Part :=
  p.answer m [(decide (1 < p.arg m 2 1), stBadArg), (p.hedgeMissing m, stHedge)] fun p =>
    ([], p.setCadence (p.mbxHedge m) (p.arg m 0 2) (p.arg m 2 1 == 1))

/-- HEDGE_QUERY (R414, R547): a hedge that does not exist has nothing; QUEUES has a bit for each queue pair. -/
def Part.cmdHedgeQuery (p : Part) (m : Nat) : Part :=
  let h := p.mbxHedge m
  let H := p.hedge h
  let b := fun (x : Bool) => if x then 1 else 0
  p.answer m [(p.hedgeBad m, stHedge)] fun p =>
    (packFields [(1, b (p.hedgeExists h)), (1, b H.pinned), (1, (p.fg DBG_OBSERVED_OBSERVED) / 2 ^ h % 2), (1, b H.image.isSome),
      (1, H.streamPorts), (1, b H.loopPort), (2, p.fg (TEL_CADENCE_FLOOR h)), (4, H.channels), (8, maskOf (p.brackensOf h)),
      (8, leNat ((List.range 8).map fun n => BitVec.ofNat 8 (p.plotsOf h n).length)), (32, maskOf (p.qpsOf h))], p)

/-! ### QUEUE (R343, R348, R369, R415, R418) -/

/-- QUEUE_ASSIGN (R323, R418). -/
def Part.cmdQueueAssign (p : Part) (m : Nat) : Part :=
  let h := p.mbxHedge m
  let op := p.arg m 0 1
  let q := p.arg m 2 2
  let own := (p.qp q).owner
  let full := op == 0 && own.isNone && h != 0 && decide (32 ≤ (p.qpsOf h).length)
  p.answer m [(decide (1 < op), stBadArg), (decide (255 < q), stRange), (p.hedgeMissing m, stHedge), ((p.qp q).exist, stInUse),
      (own.isSome && own != some h, stNotOwned), (full, stNoResource)] fun p =>
    ([], if op = 0 then (p.updQp q fun Q => { Q with owner := some h }).resourceChange h
      else if own = some h then (p.qpFree q).resourceChange h else p)

/-- The queue pair that the running command names: by its number on mailbox 0, by its rank on a VF mailbox (R415). -/
def Part.cmdQp (p : Part) (m off : Nat) : Option Nat :=
  let n := p.arg m off 2
  if vfBox m then (p.qpsOf m)[n]? else if n ≤ 255 then some n else none

/-- The errors of a command that names a queue pair, beyond its own: out of range, the hedge, and ownership. -/
def Part.qpErrs (p : Part) (m : Nat) (own : List (Bool × Sts)) : List (Bool × Sts) :=
  let n := p.arg m 0 2
  let h := p.mbxHedge m
  let o := (p.cmdQp m 0).bind fun q => (p.qp q).owner
  [(decide ((if vfBox m then 31 else 255) < n), stRange)] ++ own.filter (fun e => e.2.code == 3) ++ [(p.hedgeMissing m, stHedge)] ++
    own.filter (fun e => e.2.code != 3) ++ [(o.isSome && o != some h, stNotOwned), (o.isNone, stNoResource)]

/-- A ring size of a queue pair (R343). -/
def ringSizeOk (n : Nat) : Bool := decide (16 ≤ n ∧ n ≤ 65536) && n == 2 ^ n.log2

/-- QUEUE_CREATE (R343, R345, R369, R370, R418). -/
def Part.cmdQueueCreate (p : Part) (m : Nat) : Part :=
  let h := p.mbxHedge m
  let vec := p.arg m 2 2
  let badVec := if h = 0 then decide (vec < 4 ∨ 511 < vec) else decide (vec < 3 ∨ 31 < vec)
  let bad := !ringSizeOk (p.arg m 4 4) || !ringSizeOk (p.arg m 24 4) || decide (p.arg m 8 8 % 4096 ≠ 0 ∨ p.arg m 16 8 % 4096 ≠ 0)
  let q := (p.cmdQp m 0).getD 0
  p.answer m (p.qpErrs m [(bad || badVec, stRange), ((p.cmdQp m 0).isSome && (p.qp q).exist, stInUse)]) fun p =>
    let p := p.updQp q fun Q =>
      { owner := Q.owner, exist := true, vector := vec, sqSize := p.arg m 4 4, sqBase := p.arg m 8 8
        cqBase := p.arg m 16 8, cqSize := p.arg m 24 4 }
    let p := { p with hs := { p.hs with noDest := p.hs.noDest.filter fun k => Tab.get HubDest.none k p.fab.hub != HubDest.queue q } }
    let p := (((p.qpFresh q).fs (DB_STATE_STATE q) 1).setFlag (DB_STATE_ARMED q) true).fs (DB_STATE_HEDGE q) h
    (packFields [(2, ((p.qpsOf h).takeWhile (· != q)).length)], p)

/-- QUEUE_DESTROY (R348, R418). -/
def Part.cmdQueueDestroy (p : Part) (m : Nat) : Part :=
  let q := (p.cmdQp m 0).getD 0
  p.answer m (p.qpErrs m [((p.cmdQp m 0).isSome && !(p.qp q).exist && (p.qp q).owner.isSome, stState)]) fun p => ([], p.destroyQp q)

/-- QUEUE_QUERY (R414): OWNER of a queue pair without one is a free value (DEDUCED, notes/assumptions/43.md). -/
def Part.cmdQueueQuery (p : Part) (m : Nat) : Part :=
  let q := (p.cmdQp m 0).getD 0
  p.answer m [(decide ((if vfBox m then 31 else 255) < p.arg m 0 2), stRange), (p.hedgeBad m, stHedge),
      ((p.cmdQp m 0).isNone, stNoResource)] fun p =>
    let Q := p.qp q
    let (own, p) := match Q.owner with
      | some h => (h, p)
      | none => p.draw 256
    (packFields [(2, p.arg m 0 2), (2, Q.vector), (4, Q.sqSize), (8, Q.sqBase), (8, Q.cqBase), (4, Q.cqSize),
      (1, own), (1, p.fg (DB_STATE_STATE q))], p)

/-! ### IMAGE (R202 to R209, R419) -/

/-- The status of a bind failure by its reason (R203). -/
def bindStatus (reason : Nat) : Nat := [12, 5, 6, 7, 3, 3, 3, 3, 4, 4, 4, 4, 3, 3, 3, 3, 6].getD reason 12

/-- The bind of mailbox `m`. -/
def Part.bindOf (p : Part) (m : Nat) : Option Bind := Tab.get none m p.hs.binds

/-- The bind of mailbox `m` set. -/
def Part.setBind (p : Part) (m : Nat) (b : Option Bind) : Part := { p with hs := { p.hs with binds := Tab.put none m b p.hs.binds } }

/-- A bind fails (R203, R205, R326, R419): for CHANGED and FETCH the hedge is stopped and cleared, and the plots written are stale. -/
def Dev.bindFails (d : Dev) (m : Nat) (b : Bind) (f : BindFail) (plots : List Nat) : Dev :=
  let d := if f.reason = 0x0E ∨ f.reason = 0x0F then
      forIn' plots (fun j d => d.plotStale j) (d.onP fun p => p.stopWork b.hedge false)
    else d
  d.onP fun p =>
    ((p.setBind m none).setVfIrq b.hedge 2).mbxEnd m ⟨bindStatus f.reason, f.reason⟩
      (packFields [(1, f.rule), (1, f.check), (2, f.frond), (4, f.wher)])

/-- The plots that a bind has written when its fetch fails (R202, R205): those that its second fetch has reached. -/
def Part.bindPlots (p : Part) (b : Bind) : List Nat :=
  if b.stage = 0 then []
  else match parseImage b.size b.first with
    | .ok g => p.loadedPlots g b.hedge b.row b.got.length
    | .error _ => []

/-- The next read of the image (R419, R433), as an outbound request of hedge 0. -/
def Dev.bindRead (d : Dev) (m : Nat) (b : Bind) : Dev :=
  let a := b.addr + b.got.length
  let n := min (b.size - b.got.length) (4096 - a % 4096)
  match d.hostRead (.mp m) 0 a (min n d.p.maxRead) with
  | (.wait, d) => d.onP fun p => p.setBind m (some b)
  | (.fail _, d) => d.bindFails m b { reason := 0x0F } (d.p.bindPlots b)
  | (.tag t, d) => d.onP fun p => p.setBind m (some { b with tag := some t })

/-- Steps 2 to 4: the checks on the first fetch (R202, R206, R243). -/
def Dev.bindChecks (d : Dev) (b : Bind) : Option BindFail :=
  match parseImage b.size b.got with
  | .error e => some e
  | .ok g =>
    if d.p.service ≤ 1 && !g.mossOk b.row b.col then some { reason := 0x03 }
    else match d.p.checkResources g b.hedge b.row b.col (d.p.qpsOf b.hedge).length with
      | some e => some e
      | none => g.checkPlacement b.row b.col (d.p.ownsBrk b.hedge)

/-- Steps 5 to 7 on the second fetch (R202, R204, R205, R326). -/
def Dev.bindLoad (d : Dev) (m : Nat) (b : Bind) : Dev :=
  match parseImage b.size b.first with
  | .error e => d.bindFails m b e []
  | .ok g =>
    if imageDigest b.got != g.digest then d.bindFails m b { reason := 0x0E } (d.p.loadedPlots g b.hedge b.row b.size)
    else if d.p.service ≤ 1 && !g.mossOk b.row b.col then d.bindFails m b { reason := 0x03 } []
    else
      let d := d.loadImage g b.hedge b.row b.col
      d.onP fun p =>
        let p := (p.startImage g b.hedge b.row b.col).enableImage g b.hedge b.row b.col (p.qpsOf b.hedge)
        let p := ((p.setBind m none).setVfIrq b.hedge 2).vlSettle
        p.mbxEnd m stOk (packFields [(32, leNat g.digest), (2, g.floor)])

/-- A fetch of the image is complete. -/
def Dev.bindFetched (d : Dev) (m : Nat) (b : Bind) : Dev :=
  if b.stage = 0 then
    match d.bindChecks b with
    | some e => d.bindFails m b e []
    | none =>
      let b := { b with stage := 1, first := b.got, got := [], tag := none }
      if b.size = 0 then d.bindLoad m b else d.bindRead m b
  else d.bindLoad m b

/-- A read of the image has come back, or one that waited for its translation is tried again. -/
def Dev.imageFetchDone (d : Dev) (m : Nat) : Dev :=
  match d.p.bindOf m with
  | none => d
  | some b =>
    match b.tag with
    | none => if b.got.length < b.size then d.bindRead m b else d
    | some t =>
      match d.p.npTake t with
      | (none, _) => d
      | (some (data, bad), p) =>
        let d := { d with p := p }
        if bad.any (·.1 != 0) then d.bindFails m b { reason := 0x0F } (d.p.bindPlots b)
        else
          let b := { b with got := b.got ++ data, tag := none }
          if b.got.length < b.size then d.bindRead m b else d.bindFetched m b

/-- IMAGE_BIND: step 1 of R202, and the first read. -/
def Dev.cmdImageBind (d : Dev) (m : Nat) : Dev :=
  let p := d.p
  let h := p.mbxHedge m
  if (p.bindOf m).isSome then d
  else if p.hedgeMissing m || (p.hedge h).image.isSome then
    d.onP fun p => p.mbxFail m stHedge
  else if p.service ≤ 1 && (p.arg m 0 1 != 0 || p.arg m 1 1 != 0) then d.onP fun p => p.mbxFail m stMoss
  else
    let b : Bind := { mbx := m, hedge := h, row := p.arg m 0 1, col := p.arg m 1 1, addr := p.arg m 8 8, size := p.arg m 16 8, stage := 0 }
    if b.size = 0 then d.bindFetched m b else d.bindRead m b

/-- IMAGE_UNBIND (R209). -/
def Part.cmdImageUnbind (p : Part) (m : Nat) : Part :=
  let h := p.mbxHedge m
  p.answer m [(p.hedgeMissing m, stHedge), ((p.hedge h).image.isNone, stState)] fun p => ([], p.unbindImage h)

/-- IMAGE_QUERY (R414): zeros while nothing is bound. -/
def Part.cmdImageQuery (p : Part) (m : Nat) : Part :=
  p.answer m [(p.hedgeBad m, stHedge)] fun p =>
    let im := (p.hedge (p.mbxHedge m)).image
    let i := im.getD {}
    (packFields [(1, if im.isSome then 1 else 0), (1, i.row), (1, i.col), (1, i.rows), (1, i.cols), (32, leNat i.digest)], p)

/-! ### MEMORY (R214, R215, R217, R312, R420) -/

/-- MEMORY_PLOTS (R214, R215, R420): OP 0 assigns and OP 1 releases, as in HEDGE_ASSIGN. -/
def Dev.cmdMemoryPlots (d : Dev) (m : Nat) : Dev :=
  let p := d.p
  let h := p.mbxHedge m
  let op := p.arg m 0 1
  let n := p.arg m 1 1
  let js := (upTo 36 ((p.arg m 8 8).testBit ·)).map (36 * n + ·)
  let foreign := js.any fun j => (p.plotOwner j).any (· != h)
  d.answer m [(decide (1 < op), stBadArg), (decide (7 < n ∨ 2 ^ 36 ≤ p.arg m 8 8), stRange), (p.hedgeMissing m, stHedge), (foreign, stNotOwned)] fun d =>
    if op = 0 then d.onP fun p =>
      (forIn' js (fun j p => (p.fs (SLC_PLOT_OWNED j) 1).fs (SLC_PLOT_HEDGE j) h) p).resourceChange h
    else (d.plotsLeave (js.filter fun j => d.p.plotOwner j == some h)).onP fun p => p.resourceChange h

/-- MEMORY_MAP (R216, R217, R420). -/
def Part.cmdMemoryMap (p : Part) (m : Nat) : Part :=
  let f := p.arg m 0 1
  let e := p.arg m 1 1
  let plot := p.arg m 2 2
  p.answer m [(p.mbxForeign m, stDenied), (decide (15 < f) || decide (1 ≤ f ∧ 15 < e), stRange),
      (decide (288 ≤ plot ∨ 1 < p.arg m 4 1), stBadArg), (p.hedgeBad m, stHedge)] fun p =>
    ([], if f = 0 then (p.fs (SLC_PMAP_PF_PLOT e) plot).fs (SLC_PMAP_PF_VALID e) (p.arg m 4 1) else p.pmapVfWrite f e plot (p.arg m 4 1 == 1))

/-- Whether a life-cycle transition uses Lichen NVM (R405, R675). -/
def Part.nvmBusy (p : Part) : Bool := p.core.run.isSome

/-- MEMORY_BAR2_SIZE (R312, R420): code 3 and above are reserved. -/
def Part.cmdBar2Size (p : Part) (m : Nat) : Part :=
  p.answer m [(decide (2 < p.arg m 0 1), stBadArg), (p.nvmBusy, stBusy)] fun p =>
    ([], { p with ep := { p.ep with bar2Nvm := p.arg m 0 1 } }.nvmWrite)

/-- MEMORY_QUERY (R414): the hedge's plots of a slice, and which of them are stale. -/
def Part.cmdMemoryQuery (p : Part) (m : Nat) : Part :=
  let n := p.arg m 0 1
  p.answer m [(decide (7 < n), stRange), (p.hedgeMissing m, stHedge)] fun p =>
    let own := p.plotsOf (p.mbxHedge m) n
    let stale := own.filter fun j => p.flag (SLC_PLOT_STALE j)
    (packFields [(1, p.fg (SLC_STATUS_STATE n)), (8, maskOf (own.map (· % 36))), (8, maskOf (stale.map (· % 36)))], p)

/-! ### KVC (R247 to R249, R421) -/

/-- The region that the running command configures, as its arguments give it. -/
def Part.argRegion (p : Part) (m : Nat) : Region :=
  { enable := true, hedge := p.mbxHedge m, fmt := p.arg m 3 1, code := p.arg m 4 1, first := p.arg m 5 1, plots := p.arg m 6 1
    index := p.arg m 16 8, count := p.arg m 8 4, data := p.arg m 24 8, wptr := p.arg m 32 8 }

/-- The fields of a region as the running command gives them; ENABLE stays as it is. -/
def Part.regionPut (p : Part) (n k : Nat) (r : Region) : Part :=
  let p := (p.fs (KVC_RGN_INDEX_INDEX_BASE n k) r.index).fs (KVC_RGN_INDEX_COUNT n k) r.count
  let p := (p.fs (KVC_RGN_DATA_DATA_BASE n k) r.data).fs (KVC_RGN_WPTR_WPTR n k) r.wptr
  let p := ((p.fs (KVC_RGN_CFG_HEDGE n k) r.hedge).fs (KVC_RGN_CFG_RAW_FMT n k) r.fmt).fs (KVC_RGN_CFG_RAW_CODE n k) r.code
  (p.fs (KVC_RGN_CFG_FIRST_PLOT n k) r.first).fs (KVC_RGN_CFG_PLOTS n k) r.plots

/-- KVC_REGION (R247, R248, R421): with ENABLE 1 it writes the fields, and R247 then lets it set ENABLE or not; a number that no field of the region holds writes nothing (DEDUCED, notes/assumptions/99.md). -/
def Part.cmdKvcRegion (p : Part) (m : Nat) : Part :=
  let n := p.arg m 0 1
  let k := p.arg m 1 1
  let en := p.arg m 2 1
  let r := p.argRegion m
  let fits := decide (r.fmt < 4 ∧ r.code < 16 ∧ r.count < 2 ^ 24 ∧ r.index < 2 ^ 34 ∧ r.data < 2 ^ 34 ∧ r.wptr < 2 ^ 34)
  match firstErr [(p.mbxForeign m, stDenied), (decide (7 < n ∨ 15 < k), stRange), (decide (1 < en) || (en == 1 && !fits), stBadArg)] with
  | some e => p.mbxEnd m e []
  | none =>
    if p.hedgeMissing m then p.mbxEnd m (if en = 1 ∧ !p.regionLegal n k r then stBadArg else stHedge) []
    else if en = 0 then (p.fs (KVC_RGN_CFG_ENABLE n k) 0).mbxEnd m stOk []
    else if (p.region n k).enable then p.mbxEnd m (if p.regionLegal n k r then stInUse else stBadArg) []
    else if p.regionLegal n k r then ((p.regionPut n k r).fs (KVC_RGN_CFG_ENABLE n k) 1).mbxEnd m stOk []
    else (p.regionPut n k r).mbxEnd m stBadArg []

/-- KVC_CLAIM (R249, R414). -/
def Part.cmdKvcClaim (p : Part) (m : Nat) : Part :=
  let n := p.arg m 0 1
  let h := p.mbxHedge m
  p.answer m [(decide (7 < n), stRange), (p.hedgeMissing m, stHedge)] fun p =>
    ([], forN 8 (fun w p => p.setReg (KVC_SMAP n (8 * h + w)) (BitVec.ofNat 64 (p.arg m (8 + 4 * w) 4))) p)

/-- KVC_QUERY (R414): the arguments of KVC_REGION, with the present WPTR. -/
def Part.cmdKvcQuery (p : Part) (m : Nat) : Part :=
  let n := p.arg m 0 1
  let k := p.arg m 1 1
  p.answer m [(p.mbxForeign m, stDenied), (decide (7 < n ∨ 15 < k), stRange), (p.hedgeBad m, stHedge)] fun p =>
    let r := p.region n k
    (packFields [(1, n), (1, k), (1, if r.enable then 1 else 0), (1, r.fmt), (1, r.code), (1, r.first), (1, r.plots), (4, r.count),
      (8, r.index), (8, r.data), (8, r.wptr)], p)

/-! ### ATU (R438 to R443, R459, R471) -/

/-- The windows of type COHERENT that are enabled. -/
def Part.cohWindows (p : Part) : Nat := (upTo 64 fun k => p.flag (ATU_WIN_CFG_ENABLE k) && p.fg (ATU_WIN_CFG_TYPE k) == 3).length

/-- Whether ATU_WINDOW's arguments may be enabled (R438): base, limit, target, mask, type, PSLOT and priority. -/
def windowOk (b l t mask ty ps prio : Nat) : Bool :=
  decide (b % 4096 = 0 ∧ t % 4096 = 0 ∧ (l + 1) % 4096 = 0 ∧ b ≤ l ∧ t + (l - b) < 2 ^ 64) && mask != 0 &&
  decide (ty ≤ 4 ∧ prio ≤ 7) && (ps == 0 || ty == 0) && !(ty == 4 && decide (288 * 2 ^ 30 ≤ t + (l - b)))

/-- Window `k` is disabled (R440); the lines of a COHERENT window's range are written back and dropped (R464). -/
def Part.windowOff (p : Part) (k : Nat) : Part :=
  let p' := p.fs (ATU_WIN_CFG_ENABLE k) 0
  if p.flag (ATU_WIN_CFG_ENABLE k) && p.fg (ATU_WIN_CFG_TYPE k) == 3 then
    p'.cohDrop (p.fg (ATU_WIN_TARGET_ADDR k)) (p.fg (ATU_WIN_LIMIT_ADDR k) - p.fg (ATU_WIN_BASE_ADDR k) + 1)
  else p'

/-- ATU_WINDOW (R438 to R440, R464). -/
def Part.cmdAtuWindow (p : Part) (m : Nat) : Part :=
  let k := p.arg m 0 1
  let en := p.arg m 1 1
  let tb := p.arg m 2 1
  let ty := tb % 8
  let ps := tb / 16 % 4
  let ok := windowOk (p.arg m 8 8) (p.arg m 16 8) (p.arg m 24 8) (p.arg m 4 2) ty ps (p.arg m 3 1)
  p.answer m [(decide (63 < k), stRange), (decide (1 < en), stBadArg), (tb &&& 0xC8 != 0, stBadArg), (en == 1 && !ok, stRange),
      (en == 1 && p.flag (ATU_WIN_CFG_ENABLE k), stInUse), (en == 1 && ty == 3 && !p.ep.cxl, stState),
      (en == 1 && ty == 3 && decide (16 ≤ p.cohWindows), stNoResource)] fun p =>
    let p := if en = 0 then p.windowOff k
      else
        let p := ((p.fs (ATU_WIN_BASE_ADDR k) (p.arg m 8 8)).fs (ATU_WIN_LIMIT_ADDR k) (p.arg m 16 8)).fs (ATU_WIN_TARGET_ADDR k) (p.arg m 24 8)
        let p := ((p.fs (ATU_WIN_CFG_TYPE k) ty).fs (ATU_WIN_CFG_PSLOT k) ps).fs (ATU_WIN_CFG_PRIORITY k) (p.arg m 3 1)
        (p.fs (ATU_WIN_CFG_HEDGE_MASK k) (p.arg m 4 2)).fs (ATU_WIN_CFG_ENABLE k) 1
    ([], p.fs ATU_STATUS_COH_WINDOWS p.cohWindows)

/-- Whether a slot of some hedge holds a PASID. -/
def Part.pasidHeld (p : Part) (ps : Nat) : Bool :=
  (List.range 16).any fun h => (List.range 4).any fun i => p.flag (ATU_PASID_VALID h i) && p.fg (ATU_PASID_PASID h i) == ps

/-- ATU_PASID (R442, R443): emptying a slot waits for the reads that carry its PASID. -/
def Part.cmdAtuPasid (p : Part) (m : Nat) : Part :=
  let h := p.mbxHedge m
  let op := p.arg m 0 1
  let i := op % 16
  let ps := p.arg m 4 4
  let set := decide (op ≤ 3)
  p.answerLater m [(!set && !decide (0x10 ≤ op ∧ op ≤ 0x13), stBadArg), (set && decide (0xFFFFF < ps), stRange), (p.hedgeMissing m, stHedge),
      (set && p.flag (ATU_PASID_VALID h i), stInUse), (set && p.pasidHeld ps, stNotOwned)] fun p =>
    if set then (true, ((p.fs (ATU_PASID_PASID h i) ps).fs (ATU_PASID_VALID h i) 1).resourceChange h)
    else if !p.flag (ATU_PASID_VALID h i) && (p.mbx m).step = 0 then (true, p)
    else
      let was := p.fg (ATU_PASID_PASID h i)
      let p := p.pasidOff h i
      if p.pasidReads h was then (false, p)
      else (true, ((p.pasidGone h was).setReg (ATU_PASID h i) 0).resourceChange h)

/-- ATU_INVALIDATE (R459): the entries go at once, and the command waits for what used them (R458). -/
def Part.cmdAtuInvalidate (p : Part) (m : Nat) : Part :=
  let h := p.mbxHedge m
  let ps := p.arg m 0 4
  let a := p.arg m 8 8
  let n := p.arg m 16 8
  p.answerLater m [(p.mbxForeign m, stDenied), (decide (a % 4096 ≠ 0 ∨ n % 4096 ≠ 0 ∨ 0xFFFFF < ps), stRange), (p.hedgeMissing m, stHedge)] fun p =>
    let p := if (p.mbx m).step = 0 then
        let (ents, p) := p.atcRemove fun fn e page len => fn == h && e == ps && (n == 0 || overlaps a n page len)
        p.updMbx m fun b => { b with waits := ents }
      else p
    (!p.entsBusy (p.mbx m).waits, p)

/-- ATU_QUERY (R414, R471): the arguments of ATU_WINDOW as they stand, and the windows that window k lost to. -/
def Part.cmdAtuQuery (p : Part) (m : Nat) : Part :=
  let k := p.arg m 0 1
  p.answer m [(p.mbxForeign m, stDenied), (decide (63 < k), stRange), (p.hedgeBad m, stHedge)] fun p =>
    (packFields [(1, k), (1, p.fg (ATU_WIN_CFG_ENABLE k)), (1, p.fg (ATU_WIN_CFG_TYPE k) + 16 * p.fg (ATU_WIN_CFG_PSLOT k)),
      (1, p.fg (ATU_WIN_CFG_PRIORITY k)), (2, p.fg (ATU_WIN_CFG_HEDGE_MASK k)), (8, (p.reg (ATU_WIN_BASE k)).toNat),
      (8, (p.reg (ATU_WIN_LIMIT k)).toNat), (8, (p.reg (ATU_WIN_TARGET k)).toNat), (8, (p.reg (ATU_WIN_LOST k)).toNat)], p)

/-! ### Meanings -/

/-- IDENTIFY (R414) on mailbox `m`. -/
def execIdentify (m : Nat) (s : State) : Host.Outcome State Fault Refusal := onPart (fun p => p.serve m 0x0101 (·.cmdIdentify m)) s

/-- STATUS (R414, R791) on mailbox `m`. -/
def execStatus (m : Nat) (s : State) : Host.Outcome State Fault Refusal := onPart (fun p => p.serve m 0x0102 (·.cmdStatus m)) s

/-- OPCODES (R414, R428) on mailbox `m`. -/
def execOpcodes (m : Nat) (s : State) : Host.Outcome State Fault Refusal := onPart (fun p => p.serve m 0x0103 (·.cmdOpcodes m)) s

/-- HEDGE_CREATE (R416, R517) on mailbox `m`. -/
def execHedgeCreate (m : Nat) (s : State) : Host.Outcome State Fault Refusal := onPart (fun p => p.serve m 0x0201 (·.cmdHedgeCreate m)) s

/-- HEDGE_DESTROY (R416, R519) on mailbox `m`. -/
def execHedgeDestroy (m : Nat) (s : State) : Host.Outcome State Fault Refusal := onDev (fun d => d.serve m 0x0202 (·.cmdHedgeDestroy m)) s

/-- HEDGE_ASSIGN (R417, R516) on mailbox `m`. -/
def execHedgeAssign (m : Nat) (s : State) : Host.Outcome State Fault Refusal := onPart (fun p => p.serve m 0x0203 (·.cmdHedgeAssign m)) s

/-- HEDGE_CADENCE (R63) on mailbox `m`. -/
def execHedgeCadence (m : Nat) (s : State) : Host.Outcome State Fault Refusal := onPart (fun p => p.serve m 0x0204 (·.cmdHedgeCadence m)) s

/-- HEDGE_QUERY (R414, R547) on mailbox `m`. -/
def execHedgeQuery (m : Nat) (s : State) : Host.Outcome State Fault Refusal := onPart (fun p => p.serve m 0x0205 (·.cmdHedgeQuery m)) s

/-- QUEUE_ASSIGN (R418) on mailbox `m`. -/
def execQueueAssign (m : Nat) (s : State) : Host.Outcome State Fault Refusal := onPart (fun p => p.serve m 0x0301 (·.cmdQueueAssign m)) s

/-- QUEUE_CREATE (R343, R418) on mailbox `m`. -/
def execQueueCreate (m : Nat) (s : State) : Host.Outcome State Fault Refusal := onPart (fun p => p.serve m 0x0302 (·.cmdQueueCreate m)) s

/-- QUEUE_DESTROY (R348) on mailbox `m`. -/
def execQueueDestroy (m : Nat) (s : State) : Host.Outcome State Fault Refusal := onPart (fun p => p.serve m 0x0303 (·.cmdQueueDestroy m)) s

/-- QUEUE_QUERY (R414) on mailbox `m`. -/
def execQueueQuery (m : Nat) (s : State) : Host.Outcome State Fault Refusal := onPart (fun p => p.serve m 0x0304 (·.cmdQueueQuery m)) s

/-- IMAGE_BIND (R202, R419) on mailbox `m`. -/
def execImageBind (m : Nat) (s : State) : Host.Outcome State Fault Refusal := onDev (fun d => d.serve m 0x0401 (·.cmdImageBind m)) s

/-- IMAGE_UNBIND (R209) on mailbox `m`. -/
def execImageUnbind (m : Nat) (s : State) : Host.Outcome State Fault Refusal := onPart (fun p => p.serve m 0x0402 (·.cmdImageUnbind m)) s

/-- IMAGE_QUERY (R414) on mailbox `m`. -/
def execImageQuery (m : Nat) (s : State) : Host.Outcome State Fault Refusal := onPart (fun p => p.serve m 0x0403 (·.cmdImageQuery m)) s

/-- MEMORY_PLOTS (R214, R420) on mailbox `m`. -/
def execMemoryPlots (m : Nat) (s : State) : Host.Outcome State Fault Refusal := onDev (fun d => d.serve m 0x0501 (·.cmdMemoryPlots m)) s

/-- MEMORY_MAP (R216, R420) on mailbox `m`. -/
def execMemoryMap (m : Nat) (s : State) : Host.Outcome State Fault Refusal := onPart (fun p => p.serve m 0x0502 (·.cmdMemoryMap m)) s

/-- MEMORY_BAR2_SIZE (R312, R420) on mailbox `m`. -/
def execMemoryBar2Size (m : Nat) (s : State) : Host.Outcome State Fault Refusal := onPart (fun p => p.serve m 0x0503 (·.cmdBar2Size m)) s

/-- MEMORY_QUERY (R414) on mailbox `m`. -/
def execMemoryQuery (m : Nat) (s : State) : Host.Outcome State Fault Refusal := onPart (fun p => p.serve m 0x0504 (·.cmdMemoryQuery m)) s

/-- KVC_REGION (R247, R421) on mailbox `m`. -/
def execKvcRegion (m : Nat) (s : State) : Host.Outcome State Fault Refusal := onPart (fun p => p.serve m 0x0601 (·.cmdKvcRegion m)) s

/-- KVC_CLAIM (R249) on mailbox `m`. -/
def execKvcClaim (m : Nat) (s : State) : Host.Outcome State Fault Refusal := onPart (fun p => p.serve m 0x0602 (·.cmdKvcClaim m)) s

/-- KVC_QUERY (R414) on mailbox `m`. -/
def execKvcQuery (m : Nat) (s : State) : Host.Outcome State Fault Refusal := onPart (fun p => p.serve m 0x0603 (·.cmdKvcQuery m)) s

/-- ATU_WINDOW (R438 to R440) on mailbox `m`. -/
def execAtuWindow (m : Nat) (s : State) : Host.Outcome State Fault Refusal := onPart (fun p => p.serve m 0x0701 (·.cmdAtuWindow m)) s

/-- ATU_PASID (R442, R443) on mailbox `m`. -/
def execAtuPasid (m : Nat) (s : State) : Host.Outcome State Fault Refusal := onPart (fun p => p.serve m 0x0702 (·.cmdAtuPasid m)) s

/-- ATU_INVALIDATE (R459) on mailbox `m`. -/
def execAtuInvalidate (m : Nat) (s : State) : Host.Outcome State Fault Refusal := onPart (fun p => p.serve m 0x0703 (·.cmdAtuInvalidate m)) s

/-- ATU_QUERY (R471) on mailbox `m`. -/
def execAtuQuery (m : Nat) (s : State) : Host.Outcome State Fault Refusal := onPart (fun p => p.serve m 0x0704 (·.cmdAtuQuery m)) s

/-- IMAGE_FETCH_DONE (R202): the read of the bind that runs on mailbox `m` has come back. -/
def execImageFetchDone (m : Nat) (s : State) : Host.Outcome State Fault Refusal := onDev (fun d => d.serve m 0x0401 (·.imageFetchDone m)) s

end Sys2Proof.Machine
end

