-- ==== Sys2Proof/Machine/MbxRig.lean ====
section
/-!
DEFINITION. Sys2Proof/Machine/MbxRig.lean: the SORUS, LICHEN and TELEMETRY commands (R414, R422, R559 to R587, R622 to R653).
What the environment brings to a command (voltages on pins, measured trims, a power estimate) is an operand of its row.
-/

namespace Sys2Proof.Machine

open Sys2Proof

/-! ### SORUS (R559, R577 to R587) -/

/-- A SORUS command whose other checks leave it to be done, with the die absent (R507, R805): the firmware's access fails, and the command returns TIMEOUT (DEDUCED, notes/assumptions/104.md). -/
def Part.sorusGone (p : Part) (m : Nat) : Part :=
  let (o, p) := p.draw (2 ^ 18)
  (p.sorusAbsent true (0x480000 + o) 4 false).mbxEnd m stTimeout []

/-- The end of a SORUS command in one step: its errors, then its access to the die. -/
def Part.sorusAnswer (p : Part) (m : Nat) (errs : List (Bool × Sts)) (f : Part → List Byte × Part) : Part :=
  if p.sor.rails || (firstErr errs).isSome then p.answer m errs f else p.sorusGone m

/-- SORUS_CONFIG (R587): SETTINGS are the 64 bits of SOR_CH_c, of which bits 63:8 and direction 3 are reserved. -/
def Part.cmdSorusConfig (p : Part) (m : Nat) : Part :=
  let c := p.arg m 0 1
  let v := p.arg m 8 8
  p.sorusAnswer m [(decide (31 < c), stRange), (decide (256 ≤ v ∨ v / 16 % 4 = 3 ∨ v / 64 % 4 = 3), stBadArg)] fun p =>
    ([], p.sorWrite (SOR_CH c) (c / 4) (BitVec.ofNat 64 v))

/-- SORUS_TRIGGER (R559 to R561): PERIOD_NS counts for the two sources that have one. -/
def Part.cmdSorusTrigger (p : Part) (m : Nat) : Part :=
  let src := p.arg m 0 1
  let en := p.arg m 1 1
  let per := p.arg m 4 4
  let timed := src == 3 || src == 4
  p.sorusAnswer m [(decide (5 < src ∨ 1 < en), stBadArg), (timed && !(p.periodOk per && decide (p.fg SOR_TRIG_PHASE_PHASE < per)), stRange)] fun p =>
    let p := if timed then p.fs SOR_TRIG_PERIOD_PERIOD per else p
    ([], p.trigWrite src (en == 1) (p.flag SOR_TRIG_PAIR_HOLD))

/-- The channels of a mask, in increasing order. -/
def channelsOf (mask : Nat) : List Nat := upTo 32 fun c => mask.testBit c

/-- The sample words of SORUS_SLOW_READ: round i converts with the voltages of item i (R585). -/
def Part.slowWords (p : Part) (chans : List Nat) (pins : List (List (Int × Int))) : Nat → Nat → List Byte × Part
  | 0, _ => ([], p)
  | n + 1, i =>
    let c := chans.getD (i % max 1 chans.length) 0
    let (w, p) := p.sampleWord c 0 (pins.getD (i / max 1 chans.length) [])
    let (rest, p) := (p.overRange c w).slowWords chans pins n (i + 1)
    (natLe 4 w ++ rest, p)

/-- SORUS_SLOW_READ (R585, R586, R805). -/
def Part.cmdSlowRead (p : Part) (m : Nat) (pins : List (List (Int × Int))) : Part :=
  let n := p.arg m 0 2
  let mask := p.arg m 4 4
  p.sorusAnswer m [(p.mbxForeign m, stDenied), (decide (n = 0 ∨ 900 < n ∨ mask = 0), stRange), (p.hedgeBad m, stHedge),
      (p.fg SOR_TRIG_SOURCE != 0, stInUse), (convsOf mask &&& p.sor.busy != 0, stBusy)] fun p =>
    let (ws, p) := p.slowWords (channelsOf mask) pins n 0
    (natLe 2 n ++ [0, 0] ++ ws, p)

/-- The sum of the 16 conversions of a phase of the test, and whether any was OVER (R577, R578). -/
def Part.owPhase (p : Part) (c : Nat) (pins : List (Int × Int)) : (Int × Bool) × Part :=
  (List.range 16).foldl (fun (acc : (Int × Bool) × Part) i =>
    let ((code, past), q) := acc.2.sampleCode (p.sorF (SOR_CH_RANGE c)) (pins.getD i (0, 0))
    ((acc.1.1 + code, acc.1.2 || past), q)) ((0, false), p)

/-- The test of one channel, from the voltages of its 48 conversions (R578 to R580). The rounding of an average difference in the detail is a free choice. -/
def Part.owChannel (p : Part) (c : Nat) (pins : List (Int × Int)) : Nat × Part :=
  let ((s0, o0), p) := p.owPhase c (pins.take 16)
  let ((s1, o1), p) := p.owPhase c ((pins.drop 16).take 16)
  let ((s2, o2), p) := p.owPhase c ((pins.drop 32).take 16)
  let lim : Int := 16 * (p.fg SOR_OW_CTRL_TH * 131072 / 100 : Nat)
  let openP := o1 || decide (lim < s1 - s0)
  let openN := o2 || decide (lim < s2 - s0)
  let byte := 1 + (if openP then 2 else 0) + (if openN then 4 else 0) + (if o0 then 8 else 0)
  if !(openP || openN) then (byte, p)
  else
    let d := max (s1 - s0) (s2 - s0)
    let (x, p) := p.choose 0 (if d % 16 = 0 then [d / 16] else [d / 16, d / 16 + 1])
    (byte, p.raise 0x0A00 0x0A02 (p.channelOwner c) (c + byte * 2 ^ 8 + (BitVec.ofInt 32 x).toNat * 2 ^ 32) (p.channelRings c))

/-- The channels of a test, each converter's in increasing order. -/
def Part.owTest (p : Part) (mask : Nat) (pins : List (List (Int × Int))) : List Byte × Part :=
  (List.range 32).foldl (fun (acc : List Byte × Part) c =>
    if mask.testBit c then
      let (b, p) := acc.2.owChannel c (pins.getD c [])
      (acc.1 ++ [BitVec.ofNat 8 b], p)
    else (acc.1 ++ [0], acc.2)) ([], p)

/-- A command that takes converters: its first part checks and takes them, its second measures and ends (R568, R577, R581, R584). One that writes trims needs a life-cycle state that allows it (R15, R663). -/
def Part.sorLong (p : Part) (m : Nat) (trims : Bool) (f : Part → List Byte × Part) : Part :=
  let convs := convsOf (p.arg m 0 4)
  if (p.mbx m).step = 0 then
    match firstErr [(p.arg m 0 4 == 0, stBadArg), (trims && p.lifeCycle != 2 && p.lifeCycle != 4, stLife),
        (!p.flag SOR_STATUS_REF_SETTLED, stState), (convs &&& p.sor.busy != 0, stBusy)] with
    | some e => p.mbxEnd m e []
    | none => if !p.sor.rails then p.sorusGone m else ((p.sorTake convs).updSor fun x => { x with user := some m }).updMbx m fun b => { b with step := 1 }
  else if !p.sor.rails then p.sorFree.sorusGone m
  else
    let (r, p) := f p
    p.sorFree.mbxEnd m stOk r

/-- SORUS_OPEN_WIRE_TEST (R577 to R581): `pins` gives, for each channel, the voltages of the 16 conversions of each phase in turn. -/
def Part.cmdOpenWire (p : Part) (m : Nat) (pins : List (List (Int × Int))) : Part :=
  p.sorLong m false fun p => p.owTest (p.arg m 0 4) pins

/-- SORUS_CALIBRATE (R584): `trims` gives, for each converter and range, the offset and gain that it measures. -/
def Part.cmdSorusCalibrate (p : Part) (m : Nat) (trims : List (List (Nat × Nat))) : Part :=
  p.sorLong m true fun p =>
    ([], forN 8 (fun k p =>
      if (convsOf (p.arg m 0 4)).testBit k then
        forN 4 (fun g p => let t := (trims.getD k []).getD g (0, 0); p.setTrim k g t.1 t.2) p
      else p) p)

/-- SORUS_STATUS (R587). -/
def Part.cmdSorusStatus (p : Part) (m : Nat) : Part :=
  p.sorusAnswer m [(p.hedgeBad m, stHedge)] fun p =>
    let trig := p.fg SOR_TRIG_SOURCE + 8 * p.fg SOR_TRIG_ENABLE + (if p.pairAligned then 16 else 0) + 32 * p.fg SOR_STATUS_BUSY
    (packFields [(1, p.fg SOR_CTRL_REF_SEL + 128 * p.fg SOR_STATUS_REF_SETTLED), (1, trig), (4, (p.hedge (p.mbxHedge m)).channels)], p)

/-! ### LICHEN (R422, R622 to R653, R675) -/

/-- Whether the loop domain is present to the host (R630). -/
def Part.loopHere (p : Part) : Bool := p.loop.running && p.flag LCH_LOOP_STATUS_LOOP_PRESENT

/-- LICHEN_LOOP_STATUS (R629). -/
def Part.cmdLoopStatus (p : Part) (m : Nat) : Part :=
  p.answer m [(vfBox m && !p.hedgeExists m, stHedge)] fun p =>
    let bit (b : Bool) (n : Nat) := if b then 2 ^ n else 0
    let accel := p.loopSource == 0
    if !p.loopHere then (packFields [(1, 0), (1, 32), (2, 0), (4, 0), (4, 0)], p)
    else
      let faults := bit p.loop.openLoop 0 + bit p.loop.noCompliance 1 + bit (accel && p.loop.stale) 2 + bit (accel && p.loop.absent) 3 +
        bit p.sensorFault 4
      (packFields [(1, p.loopSource + bit p.loopStandby 7), (1, faults), (2, p.fg LCH_LOOP_AUX_HEADROOM_MV), (4, p.loop.setUa),
        (4, p.fg LCH_LOOP_CURRENT_READ_UA)], p)

/-- A configuration command: its checks, and the write of loop NVM that ends it (R621, R624). -/
def Part.loopWriteCmd (p : Part) (m : Nat) (ok : Bool) (cfg : LoopCfg) : Part :=
  if (p.mbx m).step ≠ 0 then p
  else match firstErr [(!ok, stRange), (!p.loopHere, stTimeout)] with
    | some e => p.mbxEnd m e []
    | none => (p.queueWrite ⟨cfg, none, some m, false⟩).updMbx m fun b => { b with step := 1 }

/-- The 64 bytes of CONFIG; those beyond LENGTH are zero (R410). -/
def Part.argConfig (p : Part) (m : Nat) : List Byte := ((p.mbx m).args ++ List.replicate 64 0).take 64

/-- LICHEN_LOOP_CONFIG (R622, R624). -/
def Part.cmdLoopConfig (p : Part) (m : Nat) : Part :=
  p.loopWriteCmd m (loopCfgOk (p.argConfig m)) { p.lastCfg with loop := p.argConfig m }

/-- LICHEN_HART_CONFIG (R623, R624). -/
def Part.cmdHartConfig (p : Part) (m : Nat) : Part :=
  p.loopWriteCmd m (hartCfgOk (p.argConfig m)) { p.lastCfg with hart := p.argConfig m }

/-- A point of a calibration, in order (R626): the calibration that follows it, or none where it is out of order. -/
def Part.calPoint (p : Part) (pt v : Nat) : Option (Option LoopCal) :=
  match pt, p.loop.cal with
  | 0, _ => if p.loop.level < 3 then none else some (some { point := 4000, last := p.clock })
  | 1, some c => if c.point = 4000 then some (some { c with four := some v, last := p.clock }) else none
  | 2, some c => some (some { c with point := 20000, last := p.clock })
  | 3, some c => if c.point = 20000 then some (some { c with twenty := some v, last := p.clock }) else none
  | 4, some c => if c.four.isSome && c.twenty.isSome then some none else none
  | 5, some _ => some none
  | _, _ => none

/-- LICHEN_LOOP_CALIBRATE (R422, R626): COMMIT ends once the trims are in loop NVM. -/
def Part.cmdLoopCalibrate (p : Part) (m : Nat) : Part :=
  let pt := p.arg m 0 1
  let v := p.arg m 4 4
  let bad := (pt == 1 && decide (v < 3900 ∨ 4100 < v)) || (pt == 3 && decide (v < 19900 ∨ 20100 < v))
  if (p.mbx m).step ≠ 0 then p
  else match firstErr [(decide (5 < pt), stBadArg), (bad, stRange), (p.fg LCH_LIFECYCLE_STATE != 4, stLife),
      (p.loopHere && (p.calPoint pt v).isNone, stState), (!p.loopHere, stTimeout)] with
    | some e => p.mbxEnd m e []
    | none =>
      let old := p.loop.cal
      let p := (p.updLoop fun l => { l with cal := (p.calPoint pt v).getD none }).loopSettle
      if pt = 4 then
        let t := old.bind fun c => c.four.bind fun a => c.twenty.map fun b => (a, b)
        (p.queueWrite ⟨p.lastCfg, t, some m, false⟩).updMbx m fun b => { b with step := 1 }
      else p.mbxEnd m stOk []

/-- LICHEN_ALARM_CONFIG (R642, R643). -/
def Part.cmdAlarmConfig (p : Part) (m : Nat) : Part :=
  let a := p.arg m 0 1
  let act := p.arg m 1 1
  let pol := p.arg m 2 1
  p.answer m [(decide (4 < a ∨ 2 < act ∨ 1 < pol) || (a == 4 && pol == 1), stBadArg), (p.nvmBusy, stBusy)] fun p =>
    ([], (((p.fs ⟨LCH_ALARM_CFG, 4 * a, 2⟩ act).fs ⟨LCH_ALARM_CFG, 4 * a + 2, 1⟩ pol).nvmWrite).loopSettle)

/-- LICHEN_RTC (R638). -/
def Part.cmdRtc (p : Part) (m : Nat) : Part :=
  let op := p.arg m 0 1
  p.answer m [(decide (1 < op), stBadArg)] fun p =>
    let p := if op = 1 then (p.rtcSet (p.arg m 8 8)).setFlag LCH_CORE_STATUS_RTC_VALID true else p
    (natLe 8 p.rtcNow, p)

/-- A record in the rising list of those that a log read returns. -/
def insRec (first : Nat) (r : CoreRec) : List CoreRec → List CoreRec
  | [] => [r]
  | x :: t => if (r.seq + 2 ^ 32 - first) % 2 ^ 32 ≤ (x.seq + 2 ^ 32 - first) % 2 ^ 32 then r :: x :: t else x :: insRec first r t

/-- LICHEN_LOG_READ (R653, R675): the records at or above FIRST, of the NVM log and of retention RAM. -/
def Part.cmdLogRead (p : Part) (m : Nat) : Part :=
  let n := p.arg m 0 2
  let first := p.arg m 4 4
  p.answer m [(decide (n = 0 ∨ 127 < n), stRange), (p.nvmBusy, stBusy)] fun p =>
    let rs := (p.core.log ++ p.core.ret).filter fun r => r.seq == first || seqAbove r.seq first
    let rs := (rs.foldr (insRec first) []).take n
    (natLe 2 rs.length ++ List.replicate 6 0 ++ rs.flatMap CoreRec.encode, p)

/-! ### TELEMETRY (R414) -/

/-- TELEMETRY_READ (R414): the power estimate in mW comes with the command. -/
def Part.cmdTelemetry (p : Part) (m mw : Nat) : Part :=
  p.answer m [] fun p =>
    (packFields [(1, p.active), (1, p.fg TEL_VL_STATUS_BAND), (1, p.fg TEL_VL_STATUS_TJ_MAX), (4, mw), (2, p.vl.vdd % 2 ^ 16),
      (8, leNat ((List.range 8).map fun n => BitVec.ofNat 8 (p.fg (SLC_STATUS_TEMP n))))], p)

/-- TELEMETRY_HEDGE (R414): MIN_RATE is the lowest valid MIN_RATE of the hedge's brackens, 0xFFFF where none is valid (DEDUCED, notes/assumptions/44.md). -/
def Part.cmdTelemetryHedge (p : Part) (m : Nat) : Part :=
  let h := p.mbxHedge m
  p.answer m [(vfBox m && !p.hedgeExists m, stHedge)] fun p =>
    let rate := ((p.brackensOf h).filter fun b => p.flag (TEL_TEMPO_MIN_VALID b)).foldl (fun n b => min n (p.fg (TEL_TEMPO_MIN_MIN_RATE b))) 0xFFFF
    (packFields [(1, p.fg (TEL_CADENCE_DEFICIT h)), (2, rate), (2, p.fg (TEL_CADENCE_FLOOR h))], p)

/-! ### Meanings -/

/-- SORUS_CONFIG (R587) on mailbox `m`. -/
def execSorusConfig (m : Nat) (s : State) : Host.Outcome State Fault Refusal := onPart (fun p => p.serve m 0x0801 (·.cmdSorusConfig m)) s

/-- SORUS_TRIGGER (R559) on mailbox `m`. -/
def execSorusTrigger (m : Nat) (s : State) : Host.Outcome State Fault Refusal := onPart (fun p => p.serve m 0x0802 (·.cmdSorusTrigger m)) s

/-- SORUS_SLOW_READ (R585) on mailbox `m`: `pins` gives the voltages of each round. -/
def execSorusSlowRead (m : Nat) (pins : List (List (Int × Int))) (s : State) : Host.Outcome State Fault Refusal :=
  onPart (fun p => p.serve m 0x0803 (·.cmdSlowRead m pins)) s

/-- SORUS_OPEN_WIRE_TEST (R577) on mailbox `m`. -/
def execSorusOpenWireTest (m : Nat) (pins : List (List (Int × Int))) (s : State) : Host.Outcome State Fault Refusal :=
  onPart (fun p => p.serve m 0x0804 (·.cmdOpenWire m pins)) s

/-- SORUS_CALIBRATE (R584) on mailbox `m`. -/
def execSorusCalibrate (m : Nat) (trims : List (List (Nat × Nat))) (s : State) : Host.Outcome State Fault Refusal :=
  onPart (fun p => p.serve m 0x0805 (·.cmdSorusCalibrate m trims)) s

/-- SORUS_STATUS (R587) on mailbox `m`. -/
def execSorusStatus (m : Nat) (s : State) : Host.Outcome State Fault Refusal := onPart (fun p => p.serve m 0x0806 (·.cmdSorusStatus m)) s

/-- LICHEN_LOOP_STATUS (R629) on mailbox `m`. -/
def execLichenLoopStatus (m : Nat) (s : State) : Host.Outcome State Fault Refusal := onPart (fun p => p.serve m 0x0901 (·.cmdLoopStatus m)) s

/-- LICHEN_LOOP_CONFIG (R622) on mailbox `m`. -/
def execLichenLoopConfig (m : Nat) (s : State) : Host.Outcome State Fault Refusal := onPart (fun p => p.serve m 0x0902 (·.cmdLoopConfig m)) s

/-- LICHEN_LOOP_CALIBRATE (R626) on mailbox `m`. -/
def execLichenLoopCalibrate (m : Nat) (s : State) : Host.Outcome State Fault Refusal := onPart (fun p => p.serve m 0x0903 (·.cmdLoopCalibrate m)) s

/-- LICHEN_ALARM_CONFIG (R642) on mailbox `m`. -/
def execLichenAlarmConfig (m : Nat) (s : State) : Host.Outcome State Fault Refusal := onPart (fun p => p.serve m 0x0904 (·.cmdAlarmConfig m)) s

/-- LICHEN_RTC (R638) on mailbox `m`. -/
def execLichenRtc (m : Nat) (s : State) : Host.Outcome State Fault Refusal := onPart (fun p => p.serve m 0x0905 (·.cmdRtc m)) s

/-- LICHEN_LOG_READ (R653) on mailbox `m`. -/
def execLichenLogRead (m : Nat) (s : State) : Host.Outcome State Fault Refusal := onPart (fun p => p.serve m 0x0906 (·.cmdLogRead m)) s

/-- LICHEN_HART_CONFIG (R623) on mailbox `m`. -/
def execLichenHartConfig (m : Nat) (s : State) : Host.Outcome State Fault Refusal := onPart (fun p => p.serve m 0x0907 (·.cmdHartConfig m)) s

/-- TELEMETRY_READ (R414) on mailbox `m`. -/
def execTelemetryRead (m mw : Nat) (s : State) : Host.Outcome State Fault Refusal := onPart (fun p => p.serve m 0x0C01 (·.cmdTelemetry m mw)) s

/-- TELEMETRY_HEDGE (R414) on mailbox `m`. -/
def execTelemetryHedge (m : Nat) (s : State) : Host.Outcome State Fault Refusal := onPart (fun p => p.serve m 0x0C02 (·.cmdTelemetryHedge m)) s

end Sys2Proof.Machine
end

