-- ==== Sys2Proof/Machine/MbxLink.lean ====
section
/-!
DEFINITION. Sys2Proof/Machine/MbxLink.lean: the DENBEN and TWIN commands (R709, R719 to R721, R728 to R730, R736, R758 to R762).
-/

namespace Sys2Proof.Machine

open Sys2Proof

/-! ### DENBEN (R709, R715, R719 to R721) -/

/-- The width code of a width in lanes. -/
def widthCode (lanes : Nat) : Option Nat := (upTo 4 fun w => 2 ^ w == lanes).head?

/-- Whether the numbers FAW_TOL, FAW_N and FAW_M of SETTINGS lie in their ranges (R689). -/
def fawOk (b : List Byte) : Bool :=
  let f := fun i => bytesAt b i 1
  decide (f 2 ≤ 3 ∧ 2 ≤ f 3 ∧ f 3 ≤ 8 ∧ 2 ≤ f 4 ∧ f 4 ≤ 15)

/-- Whether the other SETTINGS of DENBEN_PORT_CONFIG are legal for a port (R720, R723). -/
def settingsOk (k : Nat) (b : List Byte) : Bool :=
  let f := fun i => bytesAt b i 1
  decide (f 0 ≤ 1 ∧ f 5 ≤ 1 ∧ f 6 ≤ 1) && (widthCode (f 1)).isSome && (k == 0 || f 1 == 1) &&
    bytesAt b 8 8 == 0

/-- DENBEN_PORT_CONFIG (R720). -/
def Part.cmdPortConfig (p : Part) (m : Nat) : Part :=
  let k := p.arg m 0 1
  let b := ((p.mbx m).args.drop 8 ++ List.replicate 16 0).take 16
  p.answer m [(decide (8 < k), stRange), (!fawOk b, stRange), (!settingsOk k b, stBadArg)] fun p =>
    let f := fun i => bytesAt b i 1
    let p := ((p.fs (FRM_CTRL_ENABLE k) (f 0)).fs (FRM_CTRL_MAX_WIDTH k) ((widthCode (f 1)).getD 0)).fs (FRM_CTRL_FAW_TOL k) (f 2)
    let p := ((p.fs (FRM_CTRL_FAW_N k) (f 3)).fs (FRM_CTRL_FAW_M k) (f 4)).fs (FRM_CTRL_AUTO_WIDTH k) (f 5)
    let p := (p.fs (FRM_CTRL_FORCE_AIS k) (f 6)).fs (FRM_CTRL_SLIP_STREAM k) (f 7)
    ([], p.maxWidthCheck k)

/-- DENBEN_PORT_STATUS (R721): stream port k has framer k, and framer 0 is the twin port. -/
def Part.cmdPortStatus (p : Part) (m : Nat) : Part :=
  let k := p.arg m 0 1
  p.answer m [(p.mbxForeign m, stDenied), (decide (8 < k), stRange), (p.hedgeBad m, stHedge)] fun p =>
    (packFields ([(1, p.fg (FRM_STATUS_DEFECTS k)), (1, 2 ^ p.fg (FRM_STATUS_WIDTH k))] ++
      (List.range 8).map fun i => (4, (p.reg (FRM_LAT k i)).toNat)), p)

/-- DENBEN_DCC_MAP (R709, R710): a change takes effect at the next multiframe of its port. -/
def Part.cmdDccMap (p : Part) (m : Nat) : Part :=
  let d := p.arg m 0 1
  let k := p.arg m 1 1
  let ch := p.arg m 2 1
  let en := p.arg m 3 1
  let taken := (upTo 4 fun e => e != d && p.flag (FRM_DCC_ENABLE e) && p.fg (FRM_DCC_PORT e) == k && p.fg (FRM_DCC_CHANNEL e) == ch)
  p.answer m [(decide (3 < d ∨ 8 < k), stRange), (decide (1 < ch ∨ 1 < en), stBadArg), (en == 1 && (!taken.isEmpty || (k == 0 && ch == 1 && (p.role == 1 || p.role == 2))), stInUse)] fun p =>
    let p := if en = 0 then p.fs (FRM_DCC_ENABLE d) 0
      else ((p.fs (FRM_DCC_PORT d) k).fs (FRM_DCC_CHANNEL d) ch).fs (FRM_DCC_ENABLE d) 1
    ([], p.dccSuspend)

/-- DENBEN_RETRAIN (R714, R719): a width request waits while a width change or a retrain runs. -/
def Part.cmdRetrain (p : Part) (m : Nat) : Part :=
  let k := p.arg m 0 1
  let n := p.arg m 1 1
  let w := widthCode n
  p.answerLater m [(decide (8 < k), stRange), (n != 0 && w.isNone, stBadArg),
      ((k != 0 && decide (1 < n)) || (k == 0 && n != 0 && decide (p.fg (FRM_CTRL_MAX_WIDTH 0) < w.getD 0)), stRange)] fun p =>
    if n = 0 then (true, p.startRetrain k 0)
    else if k ≠ 0 then (true, p)
    else if p.widthBusy 0 then (false, p)
    else (true, p.widthRequest (w.getD 0) (p.lanesFor n) 2)

/-! ### TWIN (R728 to R730, R736, R758, R760, R762) -/

/-- Whether the role is PRIMARY or STANDBY. -/
def Part.paired (p : Part) : Bool := p.role == 1 || p.role == 2

/-- TWIN_CONFIG (R728, R730). -/
def Part.cmdTwinConfig (p : Part) (m : Nat) : Part :=
  let mode := p.arg m 0 1
  let delay := p.arg m 4 4
  let epoch := p.arg m 8 4
  let limit := p.arg m 12 4
  let ok := decide (mode ≤ 2 ∧ 200 ≤ delay ∧ delay ≤ 1000000 ∧ 50 ≤ epoch ∧ epoch ≤ 100000 ∧ 50 ≤ limit ∧ limit ≤ 1000000)
  p.answer m [(!ok, stRange), (p.paired, stInUse)] fun p =>
    let was := p.twinMode
    let p := (p.updTwin fun t => { t with delay := delay, epochUs := epoch, limitNs := limit }).fs TWN_STATUS_MODE mode
    let p :=
      if mode = 0 then
        let p := (p.promoteDrop.unpair.updTwin fun t => { t with partner := none, beat := none, beatAt := none, missing := false, fenceAbsent := false, versionRaised := false }).fs TWN_STATUS_REQUEST 0
        ((p.setFlag TWN_STATUS_LINK_DOWN false).setFlag TWN_STATUS_FENCE_FAULT false).setRole 0 0
      else
        let p := if was = 0 then p.updTwin fun t => { t with since := p.time } else p
        if p.role = 0 then p.setRole 3 0 else p
    (p.pairDigest, p)

/-- Whether the partner's last STATUS shows a role. -/
def Part.partnerRole (p : Part) (r : Nat) : Bool := p.tw.partner.any fun q => q.role == r

/-- TWIN_ROLE (R726, R736, R738): PRIMARY is taken once the core domain has written its term; a part that yielded after SPLIT_BRAIN may take it beside a partner that shows PRIMARY (R755; DEDUCED, notes/assumptions/107.md). -/
def Part.cmdTwinRole (p : Part) (m : Nat) : Part :=
  let r := p.arg m 0 1
  if (p.mbx m).step ≠ 0 then p
  else match firstErr [(decide (r < 1 ∨ 3 < r), stBadArg), (p.role == 0, stState), (r == 1 && p.role == 2 && !p.partnerRole 1, stState),
      (r == 1 && p.role != 1 && p.partnerRole 1 && !(p.role == 3 && p.tw.split), stPartner)] with
    | some e => p.mbxEnd m e []
    | none =>
      let done := fun (p : Part) => p.mbxEnd m stOk (natLe 4 p.term)
      match r with
      | 1 => if p.role = 1 then done p
             else if p.tw.promote.isSome then p
             else (p.promote 0 (some m)).updMbx m fun b => { b with step := 1 }
      | 2 => if p.role = 2 then done p
             else done ((if p.role = 1 then p.becomeUnpaired 0 else p).fs TWN_STATUS_REQUEST 2)
      | _ => done (p.becomeUnpaired 0)

/-- Whether a mirror region may be set (R729). -/
def Part.mirOk (p : Part) (h r plot off size : Nat) : Bool :=
  let others := (upTo 64 (· != r)).filterMap p.mirRegion
  decide (plot < 288 ∧ off % 4096 = 0 ∧ size % 4096 = 0 ∧ 0 < size ∧ off + size ≤ 2 ^ 30) && p.plotOwner plot == some h &&
    others.all (fun o => o.1 != plot || decide (off + size ≤ o.2.1 ∨ o.2.1 + o.2.2.1 ≤ off)) &&
    decide ((others.map fun o => o.2.2.1).sum + size ≤ 2 ^ 36)

/-- TWIN_MIRROR (R729, R730). -/
def Part.cmdTwinMirror (p : Part) (m : Nat) : Part :=
  let h := p.mbxHedge m
  let r := p.arg m 0 1
  let op := p.arg m 1 1
  let plot := p.arg m 2 2
  let off := p.arg m 8 8
  let size := p.arg m 16 8
  p.answer m [(decide (3 < op), stBadArg), (decide (op ≤ 1 ∧ 63 < r), stRange), (op == 1 && !p.mirOk h r plot off size, stRange),
      (p.hedgeMissing m, stHedge), (p.paired, stInUse)] fun p =>
    match op with
    | 0 => ([], (p.setReg (TWN_MIR r) 0).setReg (TWN_MIR_HI r) 0)
    | 1 =>
      let p := ((p.fs (TWN_MIR_PLOT r) plot).fs (TWN_MIR_HEDGE r) h).fs (TWN_MIR_OFFSET r) off
      ([], (p.fs (TWN_MIR_HI_SIZE r) size).fs (TWN_MIR_VALID r) 1)
    | 2 => ([], p.updTwin fun t => { t with mirrored := t.mirrored ||| 2 ^ h })
    | _ => ([], p.updTwin fun t => { t with mirrored := t.mirrored - (t.mirrored &&& 2 ^ h) })

/-- TWIN_VETO (R758). -/
def Part.cmdTwinVeto (p : Part) (m : Nat) : Part :=
  p.answer m [(!p.flag TWN_STATUS_HOLD, stState)] fun p => ([], p.becomeUnpaired 4)

/-- TWIN_RESYNC (R760): a copy from this part starts at the next close; one from the partner is asked for through SYNCED; where the source is the STANDBY, REQUEST asks for the exchange of roles first (DEDUCED, notes/assumptions/27.md, 28.md). -/
def Part.cmdTwinResync (p : Part) (m : Nat) : Part :=
  let src := p.arg m 0 1
  if (p.mbx m).step ≠ 0 then p
  else match firstErr [(decide (1 < src), stBadArg), (!(p.paired && p.tw.formed), stState)] with
    | some e => p.mbxEnd m e []
    | none =>
      let p := (p.updTwin fun t => { t with resync := some m }).updMbx m fun b => { b with step := 1 }
      if p.role = 1 then
        if src = 0 then p.updTwin fun t => { t with copy := true } else p.fs TWN_STATUS_REQUEST 2
      else if src = 1 then p.setFlag TWN_STATUS_SYNCED false else p.fs TWN_STATUS_REQUEST 1

/-- TWIN_STATUS (R762). DISCORD.RESULT says whether TWN_RESULT_DISCORDS has counted (DEDUCED, notes/assumptions/46.md). -/
def Part.cmdTwinStatus (p : Part) (m : Nat) : Part :=
  p.answer m [(p.mbxForeign m, stDenied), (p.hedgeBad m, stHedge)] fun p =>
    let bit (b : Bool) (n : Nat) := if b then 2 ^ n else 0
    let d := bit (p.tw.partner.any fun q => q.digest != p.pairDigest) 0 + bit (p.tw.partner.any fun q => q.major != 2) 1 +
      bit (p.flag TWN_STATUS_TIME_DISCORD) 2 + bit p.tw.split 3 + bit (p.fg TWN_RESULT_DISCORDS_COUNT != 0) 4 +
      bit (p.flag TWN_STATUS_LINK_DOWN) 5 + bit (p.flag TWN_STATUS_FENCE_FAULT) 6 + bit (p.flag TWN_STATUS_SYNCED) 7
    (packFields [(1, p.role + 4 * p.fg TWN_STATUS_REQUEST), (2, d), (4, p.term), (4, p.fg TWN_EPOCH_ACKED_EPOCH)], p)

/-! ### Meanings -/

/-- DENBEN_PORT_CONFIG (R720) on mailbox `m`. -/
def execDenbenPortConfig (m : Nat) (s : State) : Host.Outcome State Fault Refusal := onPart (fun p => p.serve m 0x0A01 (·.cmdPortConfig m)) s

/-- DENBEN_PORT_STATUS (R721) on mailbox `m`. -/
def execDenbenPortStatus (m : Nat) (s : State) : Host.Outcome State Fault Refusal := onPart (fun p => p.serve m 0x0A02 (·.cmdPortStatus m)) s

/-- DENBEN_DCC_MAP (R709) on mailbox `m`. -/
def execDenbenDccMap (m : Nat) (s : State) : Host.Outcome State Fault Refusal := onPart (fun p => p.serve m 0x0A03 (·.cmdDccMap m)) s

/-- DENBEN_RETRAIN (R719) on mailbox `m`. -/
def execDenbenRetrain (m : Nat) (s : State) : Host.Outcome State Fault Refusal := onPart (fun p => p.serve m 0x0A04 (·.cmdRetrain m)) s

/-- TWIN_CONFIG (R728) on mailbox `m`. -/
def execTwinConfig (m : Nat) (s : State) : Host.Outcome State Fault Refusal := onPart (fun p => p.serve m 0x0B01 (·.cmdTwinConfig m)) s

/-- TWIN_ROLE (R736) on mailbox `m`. -/
def execTwinRole (m : Nat) (s : State) : Host.Outcome State Fault Refusal := onPart (fun p => p.serve m 0x0B02 (·.cmdTwinRole m)) s

/-- TWIN_MIRROR (R729) on mailbox `m`. -/
def execTwinMirror (m : Nat) (s : State) : Host.Outcome State Fault Refusal := onPart (fun p => p.serve m 0x0B03 (·.cmdTwinMirror m)) s

/-- TWIN_VETO (R758) on mailbox `m`. -/
def execTwinVeto (m : Nat) (s : State) : Host.Outcome State Fault Refusal := onPart (fun p => p.serve m 0x0B04 (·.cmdTwinVeto m)) s

/-- TWIN_RESYNC (R760) on mailbox `m`. -/
def execTwinResync (m : Nat) (s : State) : Host.Outcome State Fault Refusal := onPart (fun p => p.serve m 0x0B05 (·.cmdTwinResync m)) s

/-- TWIN_STATUS (R762) on mailbox `m`. -/
def execTwinStatus (m : Nat) (s : State) : Host.Outcome State Fault Refusal := onPart (fun p => p.serve m 0x0B06 (·.cmdTwinStatus m)) s

end Sys2Proof.Machine
end

