-- ==== Sys2Proof/Machine/Access.lean ====
section
/-!
DEFINITION. Sys2Proof/Machine/Access.lean: reads and writes of registers, and the time unit (R11 to R26, R313 to R326, R387 to R390, R395 to R399, R534 to R537).
An offset is a byte offset of BAR0 of the function, or, with `bar` 4, of PF0's MSI-X BAR; the management processor and JTAG use PF0's offsets.
-/

namespace Sys2Proof.Machine

open Sys2Proof

/-! ### Where an offset leads -/

/-- What an offset reaches: a directory, a mailbox buffer, a register of the file, an MSI-X table or its pending bits, or nothing. -/
inductive Loc where
  | nowhere
  | dir (f off : Nat)
  | box (m off : Nat)
  | reg (k : Nat)
  | vec (f off : Nat)
  | pba (f off : Nat)
  deriving DecidableEq, Repr

/-- BAR0 of PF0 (R316, R395): the windows of mailboxes 1 to 15 show only their status and count. -/
def pfLoc (off : Nat) : Loc :=
  if 0x2000000 ≤ off then .nowhere
  else if off < 0x1000 then .dir 0 off
  else if 0x200000 ≤ off ∧ off < 0x244000 then
    (let m := (off - 0x200000) / 0x4000
     let o := (off - 0x200000) % 0x4000
     if vfBox m then (if o = 0x2004 ∨ o = 0x2008 then .reg off else .nowhere)
     else if o < 0x2000 then .box m o else .reg off)
  else .reg off

/-- BAR0 of VF `v` (R324). -/
def Part.vfLoc (p : Part) (v off : Nat) : Loc :=
  if off < 0x1000 then .dir v off
  else if off < 0x2000 then .reg (0x10000000 * v + off)
  else if 0x10000 ≤ off ∧ off < 0x30000 then
    (match (p.qpsOf v)[(off - 0x10000) / 0x1000]? with
     | some q => .reg (0x100000 + 0x1000 * q + off % 0x1000)
     | none => .nowhere)
  else if 0x30000 ≤ off ∧ off < 0x32000 then .box v (off - 0x30000)
  else if 0x32000 ≤ off ∧ off < 0x34000 then .reg (0x200000 + 0x4000 * v + (off - 0x30000))
  else if 0x34000 ≤ off ∧ off < 0x34020 then .reg (0x380000 + 0x100 * v + (off - 0x34000))
  else if 0x38000 ≤ off ∧ off < 0x38200 then .vec v (off - 0x38000)
  else if 0x39000 ≤ off ∧ off < 0x39008 then .pba v (off - 0x39000)
  else .nowhere

/-- PF0's MSI-X BAR (R307): 512 vectors, and their pending bits. -/
def pfVecLoc (off : Nat) : Loc :=
  if off < 0x2000 then .vec 0 off else if 0x80000 ≤ off ∧ off < 0x80040 then .pba 0 (off - 0x80000) else .nowhere

/-- What an access path reaches at an offset; JTAG reaches the debug region alone (R534). -/
def Part.locate (p : Part) (a : Path) (bar off : Nat) : Loc :=
  match a with
  | .fn f =>
    if !p.accessOpen f then .nowhere
    else if f = 0 then (if bar = 4 then pfVecLoc off else if bar = 0 then pfLoc off else .nowhere)
    else if bar = 0 then p.vfLoc f off else .nowhere
  | .mp => if bar = 0 then pfLoc off else .nowhere
  | .jtag => if bar = 0 ∧ 0x1000000 ≤ off ∧ off < 0x1100000 then .reg off else .nowhere

/-- The feature of PF0's directory that a register lies in (R316); the VF status block is feature 1. -/
def featureOf (k : Nat) : Nat :=
  if 0x10000000 ≤ k then 1
  else match features.findIdx? fun f => decide (f.1 ≤ k ∧ k < f.1 + f.2) with
    | some i => i + 1
    | none => 0

/-- Whether a path finds feature `id` available (R316, R317, R327); JTAG needs none and answers while the rails stand (R534; DEDUCED, notes/assumptions/108.md). -/
def Part.reaches (p : Part) (a : Path) (id : Nat) : Bool :=
  match a with
  | .jtag => p.core.rails
  | .mp => p.available id
  | .fn f => p.finds f id

/-- Whether the block at a place answers on a path (R317). -/
def Part.locOpen (p : Part) (a : Path) (l : Loc) : Bool :=
  match l with
  | .nowhere => false
  | .reg k => p.reaches a (featureOf k)
  | .box _ _ => p.reaches a 3
  | _ => true

/-! ### Reading -/

/-- A little-endian 32-bit word of a list of byte values. -/
def wordAt (bs : List Nat) (i : Nat) : Nat :=
  bs.getD i 0 + bs.getD (i + 1) 0 * 2 ^ 8 + bs.getD (i + 2) 0 * 2 ^ 16 + bs.getD (i + 3) 0 * 2 ^ 24

/-- The features of function `f`'s directory: ID, offset and size (R316, R324). -/
def dirEntries (f : Nat) : List (Nat × Nat × Nat) :=
  if f = 0 then features.zipIdx.map fun e => (e.2 + 1, e.1.1, e.1.2)
  else [(1, 0x1000, 0x1000), (2, 0x10000, 0x20000), (3, 0x30000, 0x4000), (6, 0x34000, 0x4000)]

/-- A word of a directory (R313 to R316). -/
def Part.dirWord (p : Part) (f off : Nat) : Nat :=
  let es := dirEntries f
  if off = 0 then (p.reg DIR_MAGIC).toNat
  else if off = 4 then (p.reg DIR_VERSION).toNat
  else if off = 8 then es.length
  else if off = 0xC then (if f = 0 then (p.reg DIR_GEN).toNat else Tab.get 0 f p.ep.vfGen)
  else if 0x100 ≤ off ∧ off < 0x180 then wordAt p.ident (off - 0x100)
  else if 0x200 ≤ off ∧ off < 0x600 then
    (match es[(off - 0x200) / 16]? with
     | none => 0
     | some (id, o, size) =>
       match off % 16 with
       | 0 => id + 2 ^ 16 + if p.reaches (.fn f) id then 2 ^ 24 else 0
       | 4 => o
       | 8 => size
       | _ => 0)
  else 0

/-- The value of a register that shows what is held elsewhere, for the keys that do. -/
def Part.viewOf (p : Part) (a : Path) (k : Nat) (x : Dword) : Dword :=
  let n := fun (v : Nat) => BitVec.ofNat 64 v
  if k = TIM_NOW then n p.time
  else if k = GBL_IRQ_STATUS then n p.gblIrq
  else if k = LCH_RTC then n p.rtcNow
  else if k = TWN_PAIR_TIME then n p.pairTime
  else if k = ATU_STATUS then setBits x 8 1 (if p.ep.cxl then 1 else 0)
  else if k = SOR_STATUS then setBits x 2 1 (if p.pairAligned then 1 else 0)
  else if k = DBG_STATUS then setBits (setBits x 2 1 p.dbg.trace.isSome.toNat) 3 1 p.dbg.profile.isSome.toNat
  else if k = 0x1000008 then n (p.selFrond a)
  else if 0x380000 ≤ k ∧ k < 0x381100 ∧ k % 256 = 0x1C then
    (let r := (k - 0x380000) / 256
     setBits x 8 7 (min 64 (p.ring r).held.length))
  else if 0x100000 ≤ k ∧ k < 0x200000 then (if (p.qp ((k - 0x100000) / 0x1000)).exist then x else 0)
  else if 0x10000000 ≤ k then
    (let v := k / 0x10000000
     let H := p.hedge v
     if k % 0x10000000 = 0x1000 then
       n (p.service + H.exist.toNat * 4 + H.image.isSome.toNat * 8 + H.pinned.toNat * 16 + p.fg ⟨DBG_OBSERVED, v, 1⟩ * 32)
     else if k % 0x10000000 = 0x1010 then n p.time
     else x)
  else x

/-- A register's word without its write-only fields, which read zero (R11), and without reserved bits (R16). -/
def RegDesc.shown (d : RegDesc) (x : Dword) : Dword :=
  d.fields.foldl (fun y f => if f.acc = .wo then y else setBits y f.lo f.w (getBits x f.lo f.w)) 0

/-- What the register at key `k` reads over a path, as a whole. -/
def Part.regRead (p : Part) (a : Path) (k : Nat) (d : RegDesc) : Dword := p.viewOf a k (d.shown (p.reg k))

/-- A counter wider than 32 bits, or another value that the tables have read low word first (R24). -/
def isWide (d : RegDesc) : Bool :=
  d.width == 64 && [DB_DONE 0, DB_BYTES_SENT 0, DB_BYTES_RECEIVED 0, ATU_ATC_HITS, ATU_ATC_MISSES, ATU_PRI_REQS, ATU_INVALS,
    HBR_ATOMICS, HBR_STX_FAILS, TWN_PAIR_TIME, LCH_RTC, TIM_NOW, TIM_SNAP, KVC_DEC_BLOCKS 0, KVC_DEC_BYTES 0, KVC_ENC_BLOCKS 0,
    GBL_VF_TIME 1].contains d.base

/-- A 32-bit word of a register: low, or high where the word before it begins a 64-bit register.
The high word of a wide counter is the held one, where the path holds one (R24 to R26). -/
def Part.regWord (p : Part) (a : Path) (k : Nat) : Nat :=
  if k = 0x1000008 then p.selFrond a
  else match findDesc k with
  | some d => (p.regRead a k d).toNat % 2 ^ 32
  | none =>
    match findDesc (k - 4) with
    | some d =>
      if d.width = 64 then
        (let hi := (p.regRead a (k - 4) d).toNat / 2 ^ 32
         if isWide d then (Tab.get none (pathKey a) p.hold).getD hi else hi)
      else 0
    | none => 0

/-- A word of an MSI-X table. -/
def Part.vecWord (p : Part) (f off : Nat) : Nat :=
  let m := Tab.get {} (off / 16) (p.func f).vecs
  match off % 16 with
  | 0 => m.addr % 2 ^ 32
  | 4 => m.addr / 2 ^ 32
  | 8 => m.data
  | _ => m.masked.toNat

/-- A word of the pending bits. -/
def Part.pbaWord (p : Part) (f off : Nat) : Nat :=
  (List.range 32).foldl (fun x i => if (Tab.get {} (8 * off + i) (p.func f).vecs).pend then x + 2 ^ i else x) 0

/-- A word of a mailbox: MBX_REQ, then MBX_RSP (R395). -/
def Part.boxWord (p : Part) (m off : Nat) : Nat :=
  let b := p.mbx m
  if off < 0x1000 then wordAt ((List.range 4).map fun i => Tab.get 0 (off + i) b.req) 0
  else wordAt ((List.range 4).map fun i => (b.rsp.getD (off - 0x1000 + i) 0).toNat) 0

/-- The 32-bit word at a place, without any effect of the read. -/
def Part.locWord (p : Part) (a : Path) (l : Loc) : Nat :=
  if !p.locOpen a l then 0
  else match l with
  | .nowhere => 0
  | .dir f off => p.dirWord f off
  | .box m off => p.boxWord m off
  | .reg k => p.regWord a k
  | .vec f off => p.vecWord f off
  | .pba f off => p.pbaWord f off

/-- Whether an access of `width` bits at an offset is one that registers take: 32 or 64 bits, aligned. -/
def regAccess (off width : Nat) : Bool := (width == 32 && off % 4 == 0) || (width == 64 && off % 8 == 0)

/-- Whether a place is a register of the Sorus die, which is absent (R805). -/
def Part.locAbsent (p : Part) (a : Path) (l : Loc) : Bool :=
  match l with
  | .reg k => !p.sor.rails && featureOf k == 8 && p.locOpen a l
  | _ => false

/-- The value of an access, without any effect of the read: all ones where it fails beyond the peripheral bridge (R507). -/
def Part.peek (p : Part) (a : Path) (bar off width : Nat) : Nat :=
  if p.locAbsent a (p.locate a bar off) then 2 ^ width - 1 else
  let lo := p.locWord a (p.locate a bar off)
  if width = 64 then
    match p.locate a bar off with
    | .reg k =>
      (match findDesc k with
       | some d => if d.width = 64 ∧ p.locOpen a (.reg k) then (p.regRead a k d).toNat else lo + p.locWord a (p.locate a bar (off + 4)) * 2 ^ 32
       | none => lo + p.locWord a (p.locate a bar (off + 4)) * 2 ^ 32)
    | _ => lo + p.locWord a (p.locate a bar (off + 4)) * 2 ^ 32
  else lo

/-- A read of the low word of a wide counter copies its high word into the path's holding register (R24, R25). -/
def Part.freeze (p : Part) (a : Path) (l : Loc) : Part :=
  match l with
  | .reg k =>
    (match findDesc k with
     | some d =>
       if isWide d && p.locOpen a l then { p with hold := Tab.put none (pathKey a) (some ((p.regRead a k d).toNat / 2 ^ 32)) p.hold } else p
     | none => p)
  | _ => p

/-- The RC fields of a register clear when it is read at its own address; what the part sets in the same access stays for the next read (R11, R13). -/
def Part.clearRc (p : Part) (a : Path) (l : Loc) (coincident : Nat) : Part :=
  match l with
  | .reg k =>
    (match findDesc k with
     | some d => if p.locOpen a l then (d.fields.filter (·.acc = .rc)).foldl (fun p f => p.fs ⟨k, f.lo, f.w⟩ (coincident >>> f.lo)) p else p
     | none => p)
  | _ => p

/-- Whether a function turns an access away: it is in D3hot, its FLR runs, or its memory space is not enabled (R329, R340). -/
def Part.turnedAway (p : Part) (a : Path) : Bool :=
  match a with
  | .fn f => !p.accessOpen f
  | _ => false

/-- A read of a register at its own address (R11, R13, R24). A function that turns it away completes it with Unsupported Request. -/
def Part.ownRead (p : Part) (a : Path) (bar off width coincident : Nat) : Part :=
  if p.turnedAway a then (if p.ep.perst then p else p.emit (.completion (pathKey a) cplUr []))
  else
  let l := p.locate a bar off
  if p.locAbsent a l && a == .fn 0 then p.sorusAbsent false off (width / 8) false
  else
  let p := if p.locAbsent a l then p.sorusAbsent true off (width / 8) false else p
  let v := p.peek a bar off width
  ((p.freeze a l).clearRc a l coincident).emit (.value (pathKey a) off v)

/-! ### Writing -/

/-- Whether a value is one of a field's legal encodings (R17). -/
def FieldDesc.takes (f : FieldDesc) (v : Nat) : Bool := f.legal.isEmpty || f.legal.any fun r => decide (r.1 ≤ v ∧ v ≤ r.2)

/-- What a register's own rules add to the access code of a field: whether the value `v` is taken now.
EVT_BASE (R386), SOR_TRIG_PERIOD and SOR_TRIG_PHASE (R560), SOR_RING_OFS (R570), the fields of a codec region (R248), MAX_WIDTH of a stream port (R723), BAR4 of a VF (R511). -/
def Part.fieldOpen (p : Part) (k lo v : Nat) : Bool :=
  if 0x380000 ≤ k ∧ k < 0x381100 then !p.flag (EVT_CFG_ENABLE ((k - 0x380000) / 256))
  else if k = SOR_TRIG_PERIOD then p.periodOk v
  else if k = SOR_TRIG_PHASE then decide (v < p.fg SOR_TRIG_PERIOD_PERIOD)
  else if 0x480400 ≤ k ∧ k < 0x480480 then !p.flag (SOR_RING_CFG_ENABLE ((k - 0x480400) / 32))
  else if 0x710000 ≤ k ∧ k < 0x718000 ∧ 0x100 ≤ k % 0x1000 ∧ k % 0x1000 < 0x300 then
    !p.flag (KVC_RGN_CFG_ENABLE ((k - 0x710000) / 0x1000) ((k % 0x1000 - 0x100) / 32))
  else if 0x401000 ≤ k ∧ k < 0x409000 ∧ k % 0x1000 = 0 ∧ lo = 2 then v == 0
  else if HBR_RDERR 1 ≤ k ∧ k < HBR_RDERR 16 ∧ lo = 2 then v == 0
  else true

/-- What a field becomes when the word `v` is written to the bits of `mask`, while the part sets the W1C bits of `coin` (R11, R12, R15, R17). -/
def Part.fieldNew (p : Part) (k : Nat) (f : FieldDesc) (old v mask coin : Dword) : Nat :=
  let cur := getBits old f.lo f.w
  let new := getBits ((old &&& ~~~mask) ||| (v &&& mask)) f.lo f.w
  let ones := getBits (v &&& mask) f.lo f.w
  if getBits mask f.lo f.w = 0 then cur
  else match f.acc with
    | .rw | .wo => if f.takes new && p.fieldOpen k f.lo new then new else cur
    | .w1c => w1cNew cur ones (getBits coin f.lo f.w)
    | .w1s => cur ||| ones
    | .rwm => if (p.lifeCycle = 2 ∨ p.lifeCycle = 4) ∧ f.takes new then new else cur
    | .ro | .rc => cur

/-- A write of the bits of `mask` in the register at key `k` (R11): its fields that have no command of their own; a SOR_CONV register is held while its converter is in use (R581), and MAX_WIDTH of the twin port may ask for a width (R715). -/
def Part.regWrite (p : Part) (k : Nat) (d : RegDesc) (v mask coin : Dword) : Part :=
  let old := p.reg k
  let x := d.fields.foldl (fun y f => if f.own then y else setBits y f.lo f.w (p.fieldNew k f old v mask coin)) old
  if 0x480100 ≤ k ∧ k < 0x480120 then p.sorWrite k ((k - 0x480100) / 4) x
  else
    let p := p.setReg k x
    if 0x400000 ≤ k ∧ k < 0x409000 ∧ k % 0x1000 = 0 then p.maxWidthCheck ((k - 0x400000) / 0x1000) else p

/-- A write of `width` bits at a key: the register that begins there, the high word of the one before it, or two registers in turn.
`coin` holds the bits of the access whose W1C fields the part sets meanwhile (R12; DESIGN CHOICE, notes/assumptions/76.md). -/
def Part.keyWrite (p : Part) (a : Path) (k width : Nat) (v coin : Dword) : Part :=
  let low : Dword := 0xFFFFFFFF
  let word := fun (p : Part) (k : Nat) (v coin : Dword) =>
    if k = 0x1000008 then p.setSel a (v.toNat % 4096)
    else match findDesc k with
    | some d => p.regWrite k d v low coin
    | none =>
      match findDesc (k - 4) with
      | some d => if d.width = 64 then p.regWrite (k - 4) d (v <<< 32) (low <<< 32) (coin <<< 32) else p
      | none => p
  if width = 64 then
    match findDesc k with
    | some d => if d.width = 64 then p.regWrite k d v (BitVec.allOnes 64) coin else word (word p k (v &&& low) coin) (k + 4) (v >>> 32) (coin >>> 32)
    | none => word (word p k (v &&& low) coin) (k + 4) (v >>> 32) (coin >>> 32)
  else word p k (v &&& low) coin

/-- A write to an MSI-X table entry; unmasking sends what is pending. -/
def Part.vecWrite (p : Part) (f off : Nat) (v : Nat) : Part :=
  (p.updFunc f fun F => { F with vecs := Tab.upd {} (off / 16) (fun m =>
    match off % 16 with
    | 0 => { m with addr := m.addr / 2 ^ 32 * 2 ^ 32 + v / 4 * 4 }
    | 4 => { m with addr := m.addr % 2 ^ 32 + v * 2 ^ 32 }
    | 8 => { m with data := v }
    | _ => { m with masked := v.testBit 0 }) F.vecs }).flushMsi f

/-- A write to MBX_REQ, discarded while the mailbox is RUNNING; MBX_RSP takes none (R398, R399). -/
def Part.boxWrite (p : Part) (m off width : Nat) (v : Dword) : Part :=
  if p.fg (MBX_STATUS_STATE m) = 1 ∨ 0x1000 < off + width / 8 then p
  else p.updMbx m fun b => { b with
    req := forN (width / 8) (fun i r => Tab.put 0 (off + i) (getBits v (8 * i) 8) r) b.req }

/-- A register write of `width` bits over a path. -/
def Part.accessWrite (p : Part) (a : Path) (bar off width : Nat) (v coin : Dword) : Part :=
  let l := p.locate a bar off
  if !p.locOpen a l then p
  else match l with
  | .box m o => if width ∈ [8, 16, 32, 64] then p.boxWrite m o width v else p
  | .reg k =>
    if !regAccess off width then p
    else if p.locAbsent a l then p.sorusAbsent (a != .fn 0) off (width / 8) true
    else p.keyWrite a k width v coin
  | .vec f o =>
    if !regAccess off width then p
    else
      let p := p.vecWrite f o (v.toNat % 2 ^ 32)
      if width = 64 then p.vecWrite f (o + 4) (v.toNat / 2 ^ 32) else p
  | _ => p

/-! ### The time unit (R387 to R390) -/

/-- The per-second tick: device time reaches the next multiple of a second (R389). -/
def Part.secondTick (p : Part) : Part := if p.boot.stage = 0 then p else p.at ((p.time / secondNs + 1) * secondNs)

/-- A snapshot of device time (R390). -/
def Part.snap (p : Part) : Part := (p.fs TIM_SNAP_TIME p.time).addW TIM_SNAP_SEQ_COUNT 1

/-- With no command waiting, what is under way goes on and a nanosecond of device time passes, with the tick that falls in it (DESIGN CHOICE, notes/assumptions/2.md). -/
def Dev.idle (d : Dev) : Dev :=
  d.settle.onP fun p => p.at (p.time + 1)

/-! ### The debug region (R534 to R537, R545) -/

/-- The hedge whose queue pairs, doorbell pages, ring or KV regions the register at key `k` belongs to (R545). -/
def Part.regHedge (p : Part) (k : Nat) : Option Nat :=
  if 0x100000 ≤ k ∧ k < 0x200000 then (p.qp ((k - 0x100000) / 0x1000)).owner
  else if 0x380000 ≤ k ∧ k < 0x381000 then some ((k - 0x380000) / 256)
  else if 0x710000 ≤ k ∧ k < 0x718000 ∧ 0x100 ≤ k % 0x1000 ∧ k % 0x1000 < 0x300 then
    some (p.fg (KVC_RGN_CFG_HEDGE ((k - 0x710000) / 0x1000) ((k % 0x1000 - 0x100) / 32)))
  else none

/-- A read through the register mirror (R537, R545): OBSERVED first, and no effect of the read on the register. -/
def Part.mirrorRead (p : Part) (a : Path) (off width : Nat) : Part :=
  let p := match p.regHedge off with
    | some h => p.observe h
    | none => p
  let a' : Path := match a with
    | .jtag => .mp
    | a => a
  let v := match a with
    | .jtag => ({ p with hold := Tab.put none 16 (Tab.get none 17 p.hold) p.hold }).peek a' 0 off width
    | _ => p.peek a' 0 off width
  p.emit (.value (pathKey a) (0x1800000 + off) v)

/-- The debug registers that a DBG_ACCESS write reaches: CLR_VIOL and CLR_LOST of DBG_CLEAR, and the others under their access codes (R548).
In a write of DBG_CLEAR, bit h of `coin` says that DBG_VIOL_h counts in the same access, and bit 16 that DBG_TRACE_LOST does (R21). -/
def Part.debugWrite (p : Part) (k width : Nat) (v coin : Dword) : Part :=
  let clr := if k = DBG_CLEAR then v.toNat else if k + 4 = DBG_CLEAR ∧ width = 64 then v.toNat / 2 ^ 32 else 0
  let p := if clr.testBit 0 then forN 16 (fun h p => p.clrHit (DBG_VIOL h) (coin.getLsbD h)) p else p
  let p := if clr.testBit 1 then p.clrHit DBG_TRACE_LOST (coin.getLsbD 16) else p
  p.keyWrite .jtag k width v coin

/-- The store aperture of an offset of the debug region, and the offset in it (R535). -/
def apertureAt (off : Nat) : Option (Nat × Nat) :=
  if 0x100000 ≤ off ∧ off < 0x160000 then some (0, off - 0x100000)
  else if 0x160000 ≤ off ∧ off < 0x170000 then some (1, off - 0x160000)
  else if 0x170000 ≤ off ∧ off < 0x174000 then some (2, off - 0x170000)
  else none

/-- A read over JTAG at an offset of the debug region (R534, R535). -/
def Part.jtagRead (p : Part) (off width : Nat) : Part :=
  match apertureAt off with
  | some (s, o) =>
    let (v, p) := p.apertureRead .jtag s o width
    p.emit (.value 17 (0x1000000 + off) v)
  | none =>
    if 0x800000 ≤ off then p.mirrorRead .jtag (off - 0x800000) width
    else p.emit (.value 17 (0x1000000 + off) (p.peek .jtag 0 (0x1000000 + off) width))

/-- A write over JTAG at an offset of the debug region; writes to the mirror are ignored (R534, R537). -/
def Part.jtagWrite (p : Part) (off width : Nat) (v coin : Dword) : Part :=
  match apertureAt off with
  | some (s, o) => p.apertureWrite .jtag s o width v
  | none => if off < 0x100000 then p.debugWrite (0x1000000 + off) width v coin else p

/-! ### Meanings -/

/-- REGISTER_WRITE (R11, R12, R15 to R17, R317): a write of `width` bits over a path; a field that has a command of its own is written by that command. -/
def execRegisterWrite (path : Path) (bar off width : Nat) (v coin : Dword) (s : State) : Host.Outcome State Fault Refusal :=
  onPart (fun p => p.accessWrite path bar off width v coin) s

/-- RC_FIELD_READ (R13): a read at the register's own address; `coincident` holds what the part sets in RC fields during it (DEDUCED, notes/assumptions/49.md). -/
def execRcFieldRead (path : Path) (bar off width coincident : Nat) (s : State) : Host.Outcome State Fault Refusal :=
  onPartIf (regAccess off width) (fun p => p.ownRead path bar off width coincident) s

/-- WIDE_COUNTER_LOW_READ (R24, R25): a 32-bit read of the low word of a wide counter. -/
def execWideCounterLowRead (path : Path) (off : Nat) (s : State) : Host.Outcome State Fault Refusal :=
  onPartIf (off % 4 = 0) (fun p => p.ownRead path 0 off 32 0) s

/-- PER_SECOND_TICK (R389). -/
def execPerSecondTick (s : State) : Host.Outcome State Fault Refusal := onPart (fun p => p.secondTick) s

/-- TIM_SNAP (R390): the write arrives at device time `t`. -/
def execTimSnap (t : Nat) (s : State) : Host.Outcome State Fault Refusal :=
  blockPart 10 (True) (fun p => (p.at t).snap) s

/-- REGISTER_MIRROR_READ (R537, R545): `off` is the mirrored PF0 BAR0 offset; PF0 and the management processor read it through the block, JTAG while the rails stand. -/
def execRegisterMirrorRead (path : Path) (off width : Nat) (s : State) : Host.Outcome State Fault Refusal :=
  onPart (fun p =>
    if p.debugOpen path && decide (off < 0x800000) && regAccess off width then p.mirrorRead path off width else p) s

/-- JTAG_DBG_ACCESS (R534): a read, or a write of a value, at an offset of the debug region. -/
def execJtagDbgAccess (off width : Nat) (wr : Option Dword) (coin : Dword) (s : State) : Host.Outcome State Fault Refusal :=
  onPartIf (off < 0x1000000 ∧ regAccess off width) (fun p => if !p.core.rails then p else match wr with
    | none => p.jtagRead off width
    | some v => p.jtagWrite off width v coin) s

end Sys2Proof.Machine
end

