-- ==== Sys2Proof/Machine/Hart.lean ====
section
/-!
DEFINITION. Sys2Proof/Machine/Hart.lean: the HART commands of the loop domain (R614 to R621).
The layouts of the universal commands are those of HART 7 (PRESUMED, notes/assumptions/23.md). An answer is its command, response code, device status and data.
-/

namespace Sys2Proof.Machine

open Sys2Proof

/-! ### Answers -/

/-- The flag "loop current fixed" (R617, R618). -/
def Part.loopFixed (p : Part) : Bool := p.loop.level == 1 || p.loop.level == 3 || p.loop.level == 4 || p.loop.fixed.isSome

/-- The device status byte (R597, R613, R618; HART 7). -/
def Part.hartStatus (p : Part) : Nat :=
  let bit (b : Bool) (n : Nat) := if b then 2 ^ n else 0
  let lv := p.loop.level
  let bad := lv == 2 || lv == 6 || lv == 7 || (lv == 5 && p.sensorFault) || p.loop.openLoop || p.loop.noCompliance
  bit p.loop.saturated 2 + bit p.loopFixed 3 + bit (p.loopFaults != 0) 4 + bit p.loop.cold 5 +
    bit p.loop.changed 6 + bit bad 7

/-- An answer waits for CSTORE (R594); the cold-start flag shows once. -/
def Part.hartReply (p : Part) (cmd rc : Nat) (data : List Byte) : Part :=
  if !p.loop.running then p
  else p.updLoop fun l => { l with
    replies := l.replies ++ [[BitVec.ofNat 8 cmd, BitVec.ofNat 8 rc, BitVec.ofNat 8 p.hartStatus] ++ data], cold := false }

/-- One byte. -/
def u8 (n : Nat) : List Byte := [BitVec.ofNat 8 n]

/-- The FP32 pattern that HART gives where there is no value. -/
def hartNone : Nat := 0x7FA00000

/-- Manufacturer bytes from index `i`. -/
def hartBytes (i n : Nat) : List Byte := (List.range n).map fun k => Config.hartByte (i + k)

/-- The process value of R615. -/
def Part.hartPv (p : Part) : Nat :=
  let v := if p.loopSource = 1 then Tab.get none (p.lcfg 0x20 1) p.loop.sens else p.loop.pv
  (v.map BitVec.toNat).getD hartNone

/-- The value of sensor input `i`. -/
def Part.hartSens (p : Part) (i : Nat) : Nat := ((Tab.get none i p.loop.sens).map BitVec.toNat).getD hartNone

/-- The HART units code of a sensor input's TYPE: Ω, mV, none, or not used. -/
def Part.sensUnits (p : Part) (i : Nat) : Nat :=
  match p.lcfg (0x18 + 4 * i) 1 with
  | 0 => 250
  | 1 => 37
  | 2 => 37
  | 4 => 251
  | _ => 36

/-- The set current in mA as FP32. -/
def Part.hartMa (p : Part) : Nat := nearF32 ⟨p.loop.setUa, 1000⟩

/-- Percent of range as FP32. -/
def Part.hartPercent (p : Part) : Nat :=
  let lrv := f32Int (p.lcfg 8 4)
  let den := f32Int (p.lcfg 12 4) - lrv
  let num := 100 * (f32Int p.hartPv - lrv)
  if !finite32 p.hartPv then hartNone
  else if den < 0 then nearF32 ⟨-num, (-den).toNat⟩ else nearF32 ⟨num, den.toNat⟩

/-- The identity that commands 0, 11 and 21 return (R615). -/
def Part.hartIdentity (p : Part) : List Byte :=
  u8 254 ++ natBe 2 p.loop.devType ++ hartBytes 0 1 ++ u8 7 ++ hartBytes 1 4 ++ natBe 3 (p.ep.serialNvm % 2 ^ 24) ++
    u8 (p.hcfg 4 1) ++ hartBytes 5 1 ++ natBe 2 p.loop.counter ++ hartBytes 6 1 ++ natBe 2 p.loop.maker ++ hartBytes 7 3

/-- A device variable as command 9 gives it: units and value. -/
def Part.hartVar (p : Part) (code : Nat) (qv : Word) : Nat × Nat :=
  match code with
  | 0 => (p.lcfg 0x16 1, p.hartPv)
  | 246 => (p.lcfg 0x16 1, p.hartPv)
  | 1 => (p.sensUnits 0, p.hartSens 0)
  | 247 => (p.sensUnits 0, p.hartSens 0)
  | 2 => (p.sensUnits 1, p.hartSens 1)
  | 248 => (p.sensUnits 1, p.hartSens 1)
  | 3 => (32, qv.toNat)
  | 249 => (32, qv.toNat)
  | 244 => (57, p.hartPercent)
  | 245 => (39, p.hartMa)
  | _ => (250, hartNone)

/-! ### Writes (R616, R619, R621) -/

/-- A HART write: refused under write protect, busy during a host configuration write, refused where it breaks a range, and otherwise stored, flagged and reported. -/
def Part.hartWrite (p : Part) (cmd : Nat) (mk : LoopCfg → Option LoopCfg) (data : List Byte) : Part :=
  if !p.loop.running then p
  else if p.writeProtect then p.hartReply cmd 7 []
  else if p.loop.writes.any (·.mbx.isSome) then p.hartReply cmd 32 []
  else match mk p.lastCfg with
    | none => p.hartReply cmd 2 []
    | some c =>
      let p := (p.queueWrite ⟨c, none, none, false⟩).updLoop fun l => { l with changed := true, counter := (l.counter + 1) % 2 ^ 16 }
      (p.record 0x0B05 (cmd % 256)).hartReply cmd 0 data

/-- A write of one field of the HART configuration. -/
def hartField (off n : Nat) (bs : List Byte) (c : LoopCfg) : Option LoopCfg :=
  let h := putBytes c.hart off (bs.take n)
  if n ≤ bs.length && hartCfgOk h then some { c with hart := h } else none

/-- A write of fields of the loop configuration. -/
def loopFields (parts : List (Nat × List Byte)) (c : LoopCfg) : Option LoopCfg :=
  let l := parts.foldl (fun bs x => putBytes bs x.1 x.2) c.loop
  if loopCfgOk l then some { c with loop := l } else none

/-- Command 130 (R617): it is not stored; it sets configuration changed and is reported. -/
def Part.hartFixed (p : Part) (ua : Nat) : Part :=
  if !p.loop.running then p
  else if p.writeProtect then p.hartReply 130 7 []
  else if p.loop.writes.any (·.mbx.isSome) then p.hartReply 130 32 []
  else if ua ≠ 0 ∧ (ua < 3500 ∨ 23000 < ua) then p.hartReply 130 2 []
  else
    let p := (p.updLoop fun l => { l with fixed := if ua = 0 then none else some ua, changed := true, counter := (l.counter + 1) % 2 ^ 16 }).loopSettle
    (p.record 0x0B05 130).hartReply 130 0 (natBe 2 ua)

/-! ### Meanings -/

/-- HART_CMD_0 (R615). -/
def execHartCmd0 (s : State) : Host.Outcome State Fault Refusal := onPart (fun p => p.hartReply 0 0 p.hartIdentity) s

/-- HART_CMD_1: the primary variable. -/
def execHartCmd1 (s : State) : Host.Outcome State Fault Refusal :=
  onPart (fun p => p.hartReply 1 0 (u8 (p.lcfg 0x16 1) ++ natBe 4 p.hartPv)) s

/-- HART_CMD_2: loop current and percent of range. -/
def execHartCmd2 (s : State) : Host.Outcome State Fault Refusal :=
  onPart (fun p => p.hartReply 2 0 (natBe 4 p.hartMa ++ natBe 4 p.hartPercent)) s

/-- HART_CMD_3 (R615): loop current and the four dynamic variables; `qv` is the loop-domain temperature. -/
def execHartCmd3 (qv : Word) (s : State) : Host.Outcome State Fault Refusal :=
  onPart (fun p => p.hartReply 3 0 (natBe 4 p.hartMa ++ u8 (p.lcfg 0x16 1) ++ natBe 4 p.hartPv ++ u8 (p.sensUnits 0) ++ natBe 4 (p.hartSens 0) ++
    u8 (p.sensUnits 1) ++ natBe 4 (p.hartSens 1) ++ u8 32 ++ natBe 4 qv.toNat)) s

/-- HART_CMD_6 (R620): the polling address and the loop current mode. -/
def execHartCmd6 (addr mode : Nat) (s : State) : Host.Outcome State Fault Refusal :=
  onPart (fun p => p.hartWrite 6 (hartField 0 2 (u8 addr ++ u8 mode)) (u8 addr ++ u8 mode)) s

/-- HART_CMD_7: loop configuration. -/
def execHartCmd7 (s : State) : Host.Outcome State Fault Refusal :=
  onPart (fun p => p.hartReply 7 0 (u8 (p.hcfg 0 1) ++ u8 (p.hcfg 1 1))) s

/-- HART_CMD_8: dynamic variable classifications. -/
def execHartCmd8 (s : State) : Host.Outcome State Fault Refusal := onPart (fun p => p.hartReply 8 0 (hartBytes 16 4)) s

/-- HART_CMD_9: device variables by code, at most eight, with their status and a time stamp. -/
def execHartCmd9 (codes : List Byte) (qv : Word) (s : State) : Host.Outcome State Fault Refusal :=
  onPart (fun p =>
    let vars := (codes.take 8).flatMap fun c =>
      let (u, v) := p.hartVar c.toNat qv
      [c, Config.hartByte (256 + c.toNat)] ++ u8 u ++ natBe 4 v ++ [Config.hartByte (512 + c.toNat)]
    let (stamp, p) := p.draw (2 ^ 32)
    p.hartReply 9 0 (hartBytes 6 1 ++ vars ++ natBe 4 stamp)) s

/-- HART_CMD_11: answers as command 0 where the tag matches. -/
def execHartCmd11 (tag : List Byte) (s : State) : Host.Outcome State Fault Refusal :=
  onPart (fun p => if tag = (p.loop.cfg.hart.drop 8).take 6 then p.hartReply 11 0 p.hartIdentity else p) s

/-- HART_CMD_12: the message. -/
def execHartCmd12 (s : State) : Host.Outcome State Fault Refusal := onPart (fun p => p.hartReply 12 0 p.loop.cfg.message) s

/-- HART_CMD_13: tag, descriptor and date. -/
def execHartCmd13 (s : State) : Host.Outcome State Fault Refusal :=
  onPart (fun p => p.hartReply 13 0 ((p.loop.cfg.hart.drop 8).take 6 ++ (p.loop.cfg.hart.drop 0x30).take 15)) s

/-- HART_CMD_14: transducer information. -/
def execHartCmd14 (s : State) : Host.Outcome State Fault Refusal :=
  onPart (fun p => p.hartReply 14 0 (hartBytes 32 3 ++ u8 (p.lcfg 0x16 1) ++ hartBytes 36 12)) s

/-- HART_CMD_15 (R614, R619): alarm selection, transfer function, units, range values, damping 0 and the write protect in force. -/
def execHartCmd15 (s : State) : Host.Outcome State Fault Refusal :=
  onPart (fun p => p.hartReply 15 0 (u8 ([239, 1, 0].getD (p.lcfg 1 1) 250) ++ u8 0 ++ u8 (p.lcfg 0x16 1) ++ natBe 4 (p.lcfg 12 4) ++
    natBe 4 (p.lcfg 8 4) ++ natBe 4 0 ++ u8 (if p.writeProtect then 1 else 0) ++ u8 250 ++ u8 0)) s

/-- HART_CMD_16: the final assembly number. -/
def execHartCmd16 (s : State) : Host.Outcome State Fault Refusal := onPart (fun p => p.hartReply 16 0 (natBe 3 p.loop.cfg.assembly)) s

/-- HART_CMD_17 (R621): writes the message. -/
def execHartCmd17 (data : List Byte) (s : State) : Host.Outcome State Fault Refusal :=
  onPart (fun p => p.hartWrite 17 (fun c => if 24 ≤ data.length then some { c with message := data.take 24 } else none) (data.take 24)) s

/-- HART_CMD_18 (R621): writes tag, descriptor and date. -/
def execHartCmd18 (data : List Byte) (s : State) : Host.Outcome State Fault Refusal :=
  onPart (fun p => p.hartWrite 18 (fun c => (hartField 8 6 data c).bind (hartField 0x30 15 (data.drop 6))) (data.take 21)) s

/-- HART_CMD_19 (R621): writes the final assembly number. -/
def execHartCmd19 (data : List Byte) (s : State) : Host.Outcome State Fault Refusal :=
  onPart (fun p => p.hartWrite 19 (fun c => if 3 ≤ data.length then some { c with assembly := beNat (data.take 3) } else none) (data.take 3)) s

/-- HART_CMD_20: the long tag. -/
def execHartCmd20 (s : State) : Host.Outcome State Fault Refusal := onPart (fun p => p.hartReply 20 0 ((p.loop.cfg.hart.drop 0x10).take 32)) s

/-- HART_CMD_21: answers as command 0 where the long tag matches. -/
def execHartCmd21 (tag : List Byte) (s : State) : Host.Outcome State Fault Refusal :=
  onPart (fun p => if tag = (p.loop.cfg.hart.drop 0x10).take 32 then p.hartReply 21 0 p.hartIdentity else p) s

/-- HART_CMD_22 (R621): writes the long tag. -/
def execHartCmd22 (data : List Byte) (s : State) : Host.Outcome State Fault Refusal :=
  onPart (fun p => p.hartWrite 22 (hartField 0x10 32 data) (data.take 32)) s

/-- HART_CMD_38 (R619): clears the configuration-changed flag unless write-protected. -/
def execHartCmd38 (s : State) : Host.Outcome State Fault Refusal :=
  onPart (fun p => if !p.loop.running then p else if p.writeProtect then p.hartReply 38 7 []
    else (p.updLoop fun l => { l with changed := false }).hartReply 38 0 (natBe 2 p.loop.counter)) s

/-- HART_CMD_48 (R613, R618): the additional device status. -/
def execHartCmd48 (s : State) : Host.Outcome State Fault Refusal :=
  onPart (fun p =>
    p.hartReply 48 0 (u8 p.loopFaults ++ List.replicate 5 0 ++ hartBytes 6 1 ++ List.replicate 3 0 ++ u8 (if p.loop.saturated then 1 else 0) ++
      List.replicate 2 0 ++ u8 (if p.loopFixed then 1 else 0))) s

/-- HART_READ_LOOP_CONFIGURATION (R616, command 128). -/
def execHartReadLoopConfiguration (s : State) : Host.Outcome State Fault Refusal :=
  onPart (fun p => p.hartReply 128 0 (u8 p.loopSource ++ u8 (p.lcfg 1 1) ++ u8 (p.lcfg 2 1) ++ natBe 4 (p.lcfg 4 4) ++ natBe 2 (p.lcfg 0x10 2) ++
    natBe 2 (p.lcfg 0x12 2) ++ natBe 2 (p.lcfg 0x14 2))) s

/-- HART_WRITE_FAILURE_CONFIG (R616, command 129). -/
def execHartWriteFailureConfig (fail absent staleMs down up : Nat) (s : State) : Host.Outcome State Fault Refusal :=
  onPart (fun p => p.hartWrite 129 (loopFields [(1, u8 fail), (2, u8 absent), (4, natLe 4 staleMs), (0x10, natLe 2 down), (0x12, natLe 2 up)])
    (u8 fail ++ u8 absent ++ natBe 4 staleMs ++ natBe 2 down ++ natBe 2 up)) s

/-- HART_SET_FIXED_CURRENT (R616, R617, command 130). -/
def execHartSetFixedCurrent (ua : Nat) (s : State) : Host.Outcome State Fault Refusal := onPart (fun p => p.hartFixed ua) s

/-- HART_READ_LOOP_DIAGNOSTICS (R616, command 131). -/
def execHartReadLoopDiagnostics (s : State) : Host.Outcome State Fault Refusal :=
  onPart (fun p => p.hartReply 131 0 (natBe 2 p.loop.setUa ++ natBe 2 (p.fg LCH_LOOP_CURRENT_READ_UA) ++ natBe 2 (p.fg LCH_LOOP_AUX_HEADROOM_MV) ++
    natBe 2 (p.fg LCH_LOOP_AUX_CSTORE_MV) ++ u8 p.loopFaults ++ natBe 3 (p.fg LCH_LOOP_RESTARTS_COUNT))) s

/-- HART_READ_ACCELERATOR_LINK (R616, command 132). -/
def execHartReadAcceleratorLink (s : State) : Host.Outcome State Fault Refusal :=
  onPart (fun p =>
    let ms := (p.loop.accepted.map fun a => (p.clock - a) / 1000000).getD (2 ^ 32 - 1)
    p.hartReply 132 0 (u8 p.loop.level ++ u8 (if p.loop.absent then 1 else 0) ++ u8 (if p.loop.stale then 1 else 0) ++
      u8 (p.fg TWN_STATUS_ROLE) ++ natBe 4 p.hartPv ++ natBe 4 ms)) s

/-- HART_READ_SENSOR_CONFIGURATION (R616, command 133). -/
def execHartReadSensorConfiguration (s : State) : Host.Outcome State Fault Refusal :=
  onPart (fun p => p.hartReply 133 0 ((p.loop.cfg.loop.drop 0x18).take 9)) s

/-- HART_WRITE_SENSOR_CONFIGURATION (R616, command 134): TYPE, EXC, OW and RATE of each input, and MEASURE_INPUT. -/
def execHartWriteSensorConfiguration (sens0 sens1 : Word) (input : Nat) (s : State) : Host.Outcome State Fault Refusal :=
  onPart (fun p => p.hartWrite 134 (loopFields [(0x18, natLe 4 sens0.toNat), (0x1C, natLe 4 sens1.toNat), (0x20, u8 input)])
    (natLe 4 sens0.toNat ++ natLe 4 sens1.toNat ++ u8 input)) s

/-- HART_WRITE_RANGE_VALUES (R616, command 135). -/
def execHartWriteRangeValues (lrv urv : Word) (units : Nat) (s : State) : Host.Outcome State Fault Refusal :=
  onPart (fun p => p.hartWrite 135 (loopFields [(8, natLe 4 lrv.toNat), (12, natLe 4 urv.toNat), (0x16, u8 units)])
    (natBe 4 lrv.toNat ++ natBe 4 urv.toNat ++ u8 units)) s

/-- HART_READ_ALARM_INPUTS (R616, command 136). -/
def execHartReadAlarmInputs (s : State) : Host.Outcome State Fault Refusal :=
  onPart (fun p => p.hartReply 136 0 ((List.range 4).flatMap fun i =>
    u8 (if (p.fg LCH_CORE_STATUS_ALARM).testBit i then 1 else 0) ++ u8 (p.fg ⟨LCH_ALARM_CFG, 4 * i, 2⟩))) s

/-- The commands that R614 and R616 implement. -/
def hartKnown : List Nat :=
  [0, 1, 2, 3, 6, 7, 8, 9, 11, 12, 13, 14, 15, 16, 17, 18, 19, 20, 21, 22, 38, 48, 128, 129, 130, 131, 132, 133, 134, 135, 136]

/-- HART_UNIMPLEMENTED_COMMAND (R614): response code 64. -/
def execHartUnimplementedCommand (cmd : Nat) (s : State) : Host.Outcome State Fault Refusal :=
  onPart (fun p => if hartKnown.contains cmd then p else p.hartReply cmd 64 []) s

end Sys2Proof.Machine
end

