-- ==== Sys2Proof/Machine/MbxDebug.lean ====
section
/-!
DEFINITION. Sys2Proof/Machine/MbxDebug.lean: the DEBUG, LIFECYCLE and FIRMWARE commands (R422 to R424, R527 to R545, R660 to R673, R779 to R784).
-/

namespace Sys2Proof.Machine

open Sys2Proof

/-! ### Reads of host memory by the management processor (R423, R431, R469, R488) -/

/-- How a read of host memory for a command goes on: it waits, it failed, or all its bytes are there. -/
inductive Fetch where
  | wait
  | fail
  | done (bytes : List Byte)
  deriving DecidableEq, Repr

/-- The next read of a command, as an outbound request of hedge 0. -/
def Dev.mpIssue (d : Dev) (m : Nat) (b : Bind) : Fetch × Dev :=
  let a := b.addr + b.got.length
  match d.hostRead (.mp m) 0 a (min (min (b.size - b.got.length) (4096 - a % 4096)) d.p.maxRead) with
  | (.wait, d) => (.wait, d.onP fun p => p.setBind m (some b))
  | (.fail _, d) => (.fail, d.onP fun p => p.setBind m none)
  | (.tag t, d) => (.wait, d.onP fun p => p.setBind m (some { b with tag := some t }))

/-- The read of `size` bytes at `addr` for the command of mailbox `m`: what came back is taken, and the next read goes out. -/
def Dev.mpFetch (d : Dev) (m addr size : Nat) : Fetch × Dev :=
  let b := (d.p.bindOf m).getD { mbx := m, hedge := 0, row := 0, col := 0, addr := addr, size := size, stage := 0 }
  let go := fun (b : Bind) (d : Dev) =>
    if b.size ≤ b.got.length then (Fetch.done b.got, d.onP fun p => p.setBind m none) else d.mpIssue m b
  match b.tag with
  | none => go b d
  | some t =>
    match d.p.npTake t with
    | (none, _) => (.wait, d)
    | (some (data, bad), p) =>
      let d := { d with p := p }
      if bad.any (·.1 != 0) then (.fail, d.onP fun p => p.setBind m none) else go { b with got := b.got ++ data, tag := none } d

/-! ### DEBUG (R538 to R545) -/

/-- Bytes of a frond's store, as the debug paths read them (R538). -/
def Part.storeBytes (p : Part) (f store off n : Nat) : List Byte × Part :=
  (List.range n).foldl (fun (acc : List Byte × Part) i =>
    let (x, p) := acc.2.debugWord f store ((off + i) / 8)
    (acc.1 ++ [BitVec.ofNat 8 (wordPart x (off + i) 8)], p)) ([], p)

/-- Bytes written into a frond's store. -/
def Part.storePut (p : Part) (f store off : Nat) (bs : List Byte) : Part :=
  bs.zipIdx.foldl (fun p x => p.debugPut f store (off + x.2) 8 (x.1.setWidth 64)) p

/-- The errors of the arguments that a DEBUG_STORE command has. -/
def Part.storeErrs (p : Part) (m : Nat) : List (Bool × Sts) :=
  let f := p.arg m 0 2
  let store := p.arg m 2 1
  [(decide (4096 ≤ f ∨ 48 ≤ f % 64), stRange), (decide (2 < store), stBadArg),
    (decide (storeWords store * 8 < p.arg m 4 4 + p.arg m 8 4), stRange)]

/-- A store range goes to host memory, 4 KiB pieces in turn: what became of it, and how far it came. -/
def Dev.storeOut (m f store off len addr : Nat) : Nat → Nat → Dev → WRes × Nat × Dev
  | 0, done, d => (.wait, done, d)
  | n + 1, done, d =>
    if len ≤ done then (.done, done, d)
    else
      let a := addr + done
      let k := min (len - done) (4096 - a % 4096)
      let (bs, p) := d.p.storeBytes f store (off + done) k
      match ({ d with p := p } : Dev).hostWrite (.mp m) 0 a bs with
      | (.done, d) => Dev.storeOut m f store off len addr n (done + k) d
      | (r, d) => (r, done, d)

/-- DEBUG_STORE_READ (R424, R538, R545, R469): its part that waits for a translation goes on with the row's next execution. -/
def Dev.cmdStoreRead (d : Dev) (m : Nat) : Dev :=
  let p := d.p
  let f := p.arg m 0 2
  match if (p.mbx m).step = 0 then firstErr (p.storeErrs m) else none with
  | some e => d.onP fun p => p.mbxEnd m e []
  | none =>
    let d := d.onP fun p => p.observeBrk (f / 64)
    match Dev.storeOut m f (p.arg m 2 1) (p.arg m 4 4) (p.arg m 8 4) (p.arg m 16 8) 128 ((p.mbx m).step - 1) d with
    | (.done, _, d) => d.onP fun p => p.mbxEnd m stOk []
    | (.wait, done, d) => d.onP fun p => p.updMbx m fun b => { b with step := done + 1 }
    | (_, _, d) => d.onP fun p => p.mbxEnd m stRange []

/-- DEBUG_STORE_WRITE (R424, R469, R539, R545): host memory is read first; a program store that is not open then refuses the write. -/
def Dev.cmdStoreWrite (d : Dev) (m : Nat) : Dev :=
  let p := d.p
  let f := p.arg m 0 2
  let store := p.arg m 2 1
  match if (p.mbx m).step = 0 then firstErr (p.storeErrs m) else none with
  | some e => d.onP fun p => p.mbxEnd m e []
  | none =>
    let d := d.onP fun p => p.observeBrk (f / 64)
    match d.mpFetch m (p.arg m 16 8) (p.arg m 8 4) with
    | (.wait, d) => d.onP fun p => p.updMbx m fun b => { b with step := 1 }
    | (.fail, d) => d.onP fun p => p.mbxEnd m stRange []
    | (.done bs, d) => d.onP fun p =>
      if store = 2 && !bs.isEmpty && !p.progOpen f then (p.fs DBG_STATUS_REJECTED 1).mbxEnd m stState []
      else
        let p := p.storePut f store (p.arg m 4 4) bs
        (if store = 2 then p.updFrond f fun F => { F with needLoad := false } else p).mbxEnd m stOk []

/-- The status of a frond in the layout of R155. -/
def Part.frondStatus (p : Part) (f : Nat) : Nat :=
  let F := p.frond f
  (if F.poison.isSome then 1 else 0) + (if F.seen then 2 else 0) + f * 2 ^ 16

/-- DEBUG_FROND (R540, R541). -/
def Part.cmdDebugFrond (p : Part) (m : Nat) : Part :=
  let f := p.arg m 0 2
  let op := p.arg m 2 1
  let n := p.arg m 4 4
  let bad := decide (4096 ≤ f ∨ 48 ≤ f % 64)
  let p := if bad || decide (2 < op) then p else p.observeBrk (f / 64)
  p.answer m [(bad, stRange), (decide (2 < op), stBadArg), (op == 2 && decide (n = 0 ∨ 65535 < n), stRange),
      (op != 0 && !(p.frond f).halted, stState)] fun p =>
    let p := match op with
      | 0 => p.updFrond f Frond.halt
      | 1 => p.updFrond f fun F => { F with halted := false }
      | _ => p.debugStep f n
    (packFields [(2, (p.frond f).pc), (4, p.frondStatus f)], p)

/-- DEBUG_TRACE (R542, R544, R545). -/
def Part.cmdDebugTrace (p : Part) (m : Nat) : Part :=
  let op := p.arg m 0 1
  let size := p.arg m 16 8
  p.answer m [(decide (1 < op), stBadArg), (op == 1 && decide (size = 0 ∨ size % 4096 ≠ 0 ∨ 2 ^ 30 < size), stRange),
      (op == 1 && p.dbg.trace.isSome, stInUse)] fun p =>
    let t : Option Trace := if op = 1 then some { mask := p.arg m 2 2, addr := p.arg m 8 8, size := size } else none
    ([], { p with dbg := { p.dbg with trace := t } }.observeCaptures)

/-- DEBUG_PROFILE (R543 to R545). -/
def Part.cmdDebugProfile (p : Part) (m : Nat) : Part :=
  let op := p.arg m 0 1
  p.answer m [(decide (1 < op), stBadArg), (op == 1 && p.dbg.profile.isSome, stInUse)] fun p =>
    let c : Option Profile := if op = 1 then some { brackens := p.arg m 8 8, addr := p.arg m 16 8 } else none
    ([], { p with dbg := { p.dbg with profile := c } }.observeCaptures)

/-! ### LIFECYCLE (R422, R527, R528, R660 to R673) -/

/-- LIFECYCLE_READ (R414, R673). -/
def Part.cmdLifeRead (p : Part) (m : Nat) : Part :=
  p.answer m [] fun p =>
    (packFields [(1, p.fg LCH_LIFECYCLE_STATE), (1, p.fg LCH_LIFECYCLE_PENDING), (4, (p.core.governing.map fun g => g.2.seq).getD 0)], p)

/-- The transitions that LIFECYCLE_TRANSITION accepts (R661). -/
def lifeAllowed (old new : Nat) : Bool :=
  match old with
  | 1 => new == 2 || new == 5
  | 2 => new == 3 || new == 5
  | 3 => new == 4 || new == 5
  | 4 => new == 3 || new == 5
  | 6 => new == 5
  | _ => false

/-- LIFECYCLE_TRANSITION (R661, R662, R669, R670): `fails` says how many verifications of the written record fail. The commit is the row LIFECYCLE_COMMIT. -/
def Part.cmdLifeTransition (p : Part) (m fails : Nat) : Part :=
  let old := p.fg LCH_LIFECYCLE_STATE
  let new := p.arg m 0 1
  let ready := p.vstby && p.flag LCH_CORE_STATUS_HOLD_OK && p.core.run.isNone && !p.flag LCH_LIFECYCLE_PENDING
  if (p.mbx m).step ≠ 0 then p
  else match firstErr [(!lifeAllowed old new, stLife), (!ready, stState)] with
    | some e => p.mbxEnd m e []
    | none =>
      let g := p.core.governing
      let slot := match g with
        | some (0, _) => 1
        | _ => 0
      let rec_ : LcSlot := ⟨new, (g.map fun x => (x.2.seq + 1) % 2 ^ 32).getD 1, old, false⟩
      if 2 ≤ fails then ((p.updCore fun c => c.setSlot slot none).nvmWrite.nvmWrite.nvmWrite).mbxEnd m stInternal []
      else
        let p := (p.updCore fun c => { c.setSlot slot (some rec_) with run := some (slot, some m) }).nvmWrite
        let p := if fails = 1 then p.nvmWrite else p
        (p.setFlag LCH_LIFECYCLE_BUSY true).updMbx m fun b => { b with step := 1 }

/-- LIFECYCLE_KEY_WRITE (R422, R527, R528): KEY begins at offset 8 (R409). -/
def Part.cmdKeyWrite (p : Part) (m : Nat) : Part :=
  let slot := p.arg m 0 1
  let x := p.arg m 9 48
  let y := p.arg m 57 48
  p.answer m [(p.arg m 8 1 != 4 || !onCurve x y, stBadArg), ((slot != 2 && slot != 3) || p.fg LCH_LIFECYCLE_STATE != 2, stLife),
      (p.nvmBusy, stBusy)] fun p =>
    ([], (p.updCore fun c => { c with keys := Tab.put [] slot (natLe 48 x ++ natLe 48 y) c.keys }).nvmWrite)

/-! ### FIRMWARE (R423, R529, R779 to R784) -/

/-- A push ends without a valid image: slots A and B are left invalid. Its mailbox, where it still has one, gets the status. -/
def Part.pushFails (p : Part) (m : Option Nat) (st : Sts) : Part :=
  let p := p.updBoot fun b => { b with push := none }
  match m with
  | some m => p.mbxEnd m st []
  | none => p

/-- The header of slot A or B is erased (R779). -/
def Part.slotErase (p : Part) (slot : Nat) : Part :=
  if slot = 2 then p
  else p.updBoot fun b => { b with slots := Tab.put 0 slot 0 b.slots, versions := Tab.put 0 slot 0 b.versions, images := Tab.ins slot [0xFF] (Tab.del slot b.images) }

/-- Window bytes of the ROM area. -/
def Part.romPut (p : Part) (off : Nat) (bs : List Byte) : Part :=
  { p with ep := { p.ep with rom := bs.zipIdx.foldl (fun t x => Tab.put none (off + x.2) (some x.1.toNat) t) p.ep.rom } }

/-- The image of a push is read: it is checked, and its write begins (R530, R779, R781). -/
def Part.pushRead (p : Part) (w : Push) (img : List Byte) : Part :=
  match p.imageCheck w.slot w.size img with
  | 0 =>
    let p := p.updBoot fun b => { b with push := some { w with img := some img } }
    if w.slot = 2 then p.romPut 0 (List.replicate 4096 0xFF) else p
  | c => p.pushFails w.mbx (if c ≤ 3 then stBadArg else stAuth)

/-- The write of an authenticated image is complete (R423, R779, R781, R782). -/
def Part.pushWritten (p : Part) (slot : Nat) (boot : Bool) (img : List Byte) : Part :=
  let p := p.updBoot fun b => { b with push := none, images := Tab.ins slot img (Tab.del slot b.images) }
  if slot = 2 then
    let pay := img.drop 256
    (p.romPut 0 (pay ++ List.replicate (983040 - pay.length) 0xFF)).romPut 0xFE000 (img.take 256 ++ List.replicate 3840 0xFF)
  else
    let p := p.updBoot fun b => { b with slots := Tab.put 0 slot 1 b.slots, versions := Tab.put 0 slot (imageIdent img).1 b.versions }
    if boot then (p.fs GBL_BOOT_NEXT slot).nvmWrite else p

/-- A push that waits for nothing more, or that goes on without its mailbox after a function-level reset (R334). -/
def Part.pushFinish (p : Part) : Part :=
  match p.boot.push with
  | none => p
  | some w =>
    match w.img with
    | none => p
    | some img =>
      let p := p.pushWritten w.slot w.boot img
      match w.mbx with
      | some m => p.mbxEnd m stOk (natLe 4 (imageIdent img).1)
      | none => if w.boot then p.pushRestart w.slot else p

/-- The first part of FIRMWARE_PUSH (R423, R779, R780, R782): nothing is written where it is refused. A SIZE that no image has is not read (DEDUCED, notes/assumptions/37.md). -/
def Dev.pushBegin (d : Dev) (m : Nat) : Dev :=
  let p := d.p
  let slot := p.arg m 0 1
  let boot := p.arg m 1 1
  let size := p.arg m 16 8
  match firstErr [(decide (2 < slot), stRange), (decide (1 < boot), stBadArg), (slot == 2 && boot == 1, stRange),
      (decide (size ≤ 256 ∨ 256 + slotLimit slot < size), stRange),
      (decide (slot < 2) && p.fg GBL_STATUS_RUNNING == slot + 1, stInUse), (boot == 1 && decide (2 ≤ p.service), ⟨6, 3⟩),
      (p.boot.push.isSome, stBusy)] with
  | some e => d.onP fun p => p.mbxEnd m e []
  | none => d.onP fun p =>
    ((p.slotErase slot).updMbx m fun b => { b with step := 1 }).updBoot fun b =>
      { b with push := some { slot := slot, boot := boot == 1, addr := p.arg m 8 8, size := size, mbx := some m } }

/-- The part of a push that comes next: reading the image, or the end of its write. -/
def Dev.pushStep (d : Dev) (w : Push) : Dev :=
  if w.img.isSome then d.onP fun p => p.pushFinish
  else if (d.p.func 0).resetting then d
  else match d.mpFetch (w.mbx.getD pushBox) w.addr w.size with
    | (.wait, d) => d
    | (.fail, d) => d.onP fun p => p.pushFails w.mbx stRange
    | (.done img, d) => d.onP fun p => p.pushRead w img

/-- FIRMWARE_PUSH: refused, reading the image, or writing it. -/
def Dev.cmdPush (d : Dev) (m : Nat) : Dev :=
  if (d.p.mbx m).step = 0 then d.pushBegin m
  else match d.p.boot.push with
    | none => d
    | some w => if w.mbx = some m then d.pushStep w else d

/-- FIRMWARE_STATUS (R783). -/
def Part.cmdFwStatus (p : Part) (m : Nat) : Part :=
  p.answer m [] fun p =>
    let v := fun k => Tab.get 0 k p.boot.slots
    (packFields [(1, v 0), (1, v 1), (1, p.fg GBL_BOOT_NEXT), (1, p.fg GBL_STATUS_RUNNING), (4, Tab.get 0 0 p.boot.versions),
      (4, Tab.get 0 1 p.boot.versions)], p)

/-- FIRMWARE_SELECT (R783): SLOT above 1 is out of range. -/
def Part.cmdFwSelect (p : Part) (m : Nat) : Part :=
  let k := p.arg m 0 1
  p.answer m [(decide (1 < k), stRange), (Tab.get 0 k p.boot.slots == 0, stState), (p.nvmBusy, stBusy)] fun p =>
    ([], (p.fs GBL_BOOT_NEXT k).nvmWrite)

/-! ### Meanings -/

/-- LIFECYCLE_TRANSITION (R661, R669) on mailbox `m`, with the verifications of step 4 that fail (R670). -/
def execLifecycleTransition (m fails : Nat) (s : State) : Host.Outcome State Fault Refusal :=
  onPart (fun p => p.serve m 0x0E02 (·.cmdLifeTransition m fails)) s

/-- FIRMWARE_PUSH (R423, R779) on mailbox `m`; a push that a function-level reset left without its mailbox goes on while the mailbox runs none. -/
def execFirmwarePush (m : Nat) (s : State) : Host.Outcome State Fault Refusal :=
  onDev (fun d =>
    match d.p.boot.push with
    | some w => if w.mbx.isNone && !d.p.serves m 0x0F01 then d.pushStep w else d.serve m 0x0F01 (·.cmdPush m)
    | none => d.serve m 0x0F01 (·.cmdPush m)) s

/-- DEBUG_STORE_READ (R424) on mailbox `m`. -/
def execDebugStoreRead (m : Nat) (s : State) : Host.Outcome State Fault Refusal := onDev (fun d => d.serve m 0x0D01 (·.cmdStoreRead m)) s

/-- DEBUG_STORE_WRITE (R539) on mailbox `m`. -/
def execDebugStoreWrite (m : Nat) (s : State) : Host.Outcome State Fault Refusal := onDev (fun d => d.serve m 0x0D02 (·.cmdStoreWrite m)) s

/-- DEBUG_FROND (R540) on mailbox `m`. -/
def execDebugFrond (m : Nat) (s : State) : Host.Outcome State Fault Refusal := onPart (fun p => p.serve m 0x0D03 (·.cmdDebugFrond m)) s

/-- DEBUG_TRACE (R542) on mailbox `m`. -/
def execDebugTrace (m : Nat) (s : State) : Host.Outcome State Fault Refusal := onPart (fun p => p.serve m 0x0D04 (·.cmdDebugTrace m)) s

/-- DEBUG_PROFILE (R543) on mailbox `m`. -/
def execDebugProfile (m : Nat) (s : State) : Host.Outcome State Fault Refusal := onPart (fun p => p.serve m 0x0D05 (·.cmdDebugProfile m)) s

/-- LIFECYCLE_READ (R673) on mailbox `m`. -/
def execLifecycleRead (m : Nat) (s : State) : Host.Outcome State Fault Refusal := onPart (fun p => p.serve m 0x0E01 (·.cmdLifeRead m)) s

/-- LIFECYCLE_KEY_WRITE (R422, R528) on mailbox `m`. -/
def execLifecycleKeyWrite (m : Nat) (s : State) : Host.Outcome State Fault Refusal := onPart (fun p => p.serve m 0x0E03 (·.cmdKeyWrite m)) s

/-- FIRMWARE_STATUS (R783) on mailbox `m`. -/
def execFirmwareStatus (m : Nat) (s : State) : Host.Outcome State Fault Refusal := onPart (fun p => p.serve m 0x0F02 (·.cmdFwStatus m)) s

/-- FIRMWARE_SELECT (R783) on mailbox `m`. -/
def execFirmwareSelect (m : Nat) (s : State) : Host.Outcome State Fault Refusal := onPart (fun p => p.serve m 0x0F03 (·.cmdFwSelect m)) s

end Sys2Proof.Machine
end

