-- ==== Sys2Proof/Machine/Smbus.lean ====
section
/-!
DEFINITION. Sys2Proof/Machine/Smbus.lean: the SMBus target (R814).
-/

namespace Sys2Proof.Machine

open Sys2Proof

/-- The access path number of the SMBus target. -/
def smbusPath : Nat := 32

/-- Whether the part answers its address: the Quickset die is out of reset and S2 has ended. -/
def Part.smbusOpen (p : Part) : Bool := decide (2 ≤ p.boot.stage) && !p.qsDown

/-- A read of a command that the target knows answers its value; before S2 the address is not acknowledged. -/
def Part.smbusRead (p : Part) (cmd v : Nat) : Part :=
  if p.smbusOpen then p.emit (.value smbusPath cmd v) else p.emit (.completion smbusPath 1 [])

/-- The highest stack temperature, as a signed byte. -/
def Part.stackMax (p : Part) : Nat :=
  (BitVec.ofInt 8 ((List.range 8).foldl (fun m n => max m (BitVec.ofNat 8 (p.fg (SLC_STATUS_TEMP n))).toInt) (-128))).toNat

/-- The fault flags of command 0x08. -/
def Part.smbusFlags (p : Part) : Nat :=
  p.fg TEL_VL_STATUS_VOUT_FAULT + (if p.fg GBL_STATUS_SLICES_DOWN = 0 then 0 else 2) +
  4 * p.fg LCH_LOOP_STATUS_LOOP_PRESENT + 8 * p.fg LCH_CORE_STATUS_CELL_LOW

/-! ### Meanings -/

/-- SMBUS_IDENTITY (R814). -/
def execSmbusIdentity (s : State) : Host.Outcome State Fault Refusal := onPart (fun p => p.smbusRead 0 0x72) s

/-- SMBUS_SERVICE (R814). -/
def execSmbusService (s : State) : Host.Outcome State Fault Refusal :=
  onPart (fun p => p.smbusRead 1 (p.service + p.fg GBL_STATUS_STAGE * 16)) s

/-- SMBUS_TJ_MAX (R814). -/
def execSmbusTjMax (s : State) : Host.Outcome State Fault Refusal := onPart (fun p => p.smbusRead 2 (p.fg TEL_VL_STATUS_TJ_MAX)) s

/-- SMBUS_STACK_TEMPERATURE (R814). -/
def execSmbusStackTemperature (s : State) : Host.Outcome State Fault Refusal := onPart (fun p => p.smbusRead 3 p.stackMax) s

/-- SMBUS_POWER (R814): the estimate in W is the command's operand. -/
def execSmbusPower (watts : Nat) (s : State) : Host.Outcome State Fault Refusal :=
  onPart (fun p => p.smbusRead 4 (watts % 2 ^ 16)) s

/-- SMBUS_VDD_FAB (R814): the voltage last read by READ_VOUT. -/
def execSmbusVddFab (s : State) : Host.Outcome State Fault Refusal := onPart (fun p => p.smbusRead 5 (p.vl.vdd % 2 ^ 16)) s

/-- SMBUS_ACTIVE_POINT (R814). -/
def execSmbusActivePoint (s : State) : Host.Outcome State Fault Refusal := onPart (fun p => p.smbusRead 6 p.active) s

/-- SMBUS_LIFE_CYCLE (R660, R814). -/
def execSmbusLifeCycle (s : State) : Host.Outcome State Fault Refusal :=
  onPart (fun p => p.smbusRead 7 (p.fg LCH_LIFECYCLE_STATE)) s

/-- SMBUS_FLAGS (R814). -/
def execSmbusFlags (s : State) : Host.Outcome State Fault Refusal := onPart (fun p => p.smbusRead 8 p.smbusFlags) s

/-- SMBUS_OTHER (R814): a command beyond 0x08, or the data byte of a write, is not acknowledged. -/
def execSmbusOther (s : State) : Host.Outcome State Fault Refusal :=
  onPart (fun p => p.emit (.completion smbusPath 1 [])) s

end Sys2Proof.Machine
end

