-- ==== Sys2Proof/Machine/Dispatch.lean ====
section
/-!
DEFINITION. Sys2Proof/Machine/Dispatch.lean: one arm per command.
Every arm is one direct call of that command's meaning, or rejects it by name.
-/

namespace Sys2Proof.Machine

open Sys2Proof

def exec (i : Instr) (s : State) : Host.Outcome State Fault Refusal :=
  match i with
  | .registerWrite path bar off width v coin => Sys2Proof.Machine.execRegisterWrite path bar off width v coin s
  | .rcFieldRead path bar off width coincident => Sys2Proof.Machine.execRcFieldRead path bar off width coincident s
  | .wideCounterLowRead path off => Sys2Proof.Machine.execWideCounterLowRead path off s
  | .perSecondTick => Sys2Proof.Machine.execPerSecondTick s
  | .timSnap t => Sys2Proof.Machine.execTimSnap t s
  | .fabBrownout => Sys2Proof.Machine.execFabBrownout s
  | .telVlCtrlWrite base ceil => Sys2Proof.Machine.execTelVlCtrlWrite base ceil s
  | .glideReadVout read => Sys2Proof.Machine.execGlideReadVout read s
  | .glideRetry ack => Sys2Proof.Machine.execGlideRetry ack s
  | .tempoGateEnd counts => Sys2Proof.Machine.execTempoGateEnd counts s
  | .cadenceLower h => Sys2Proof.Machine.execCadenceLower h s
  | .tempoRestored h => Sys2Proof.Machine.execTempoRestored h s
  | .tempoGateWrite gate => Sys2Proof.Machine.execTempoGateWrite gate s
  | .clearMin => Sys2Proof.Machine.execClearMin s
  | .clearFaults coin => Sys2Proof.Machine.execClearFaults coin s
  | .cadenceFloorWrite h floor enable => Sys2Proof.Machine.execCadenceFloorWrite h floor enable s
  | .bandChange b t => Sys2Proof.Machine.execBandChange b t s
  | .startToken f => Sys2Proof.Machine.execStartToken f s
  | .stopToken f => Sys2Proof.Machine.execStopToken f s
  | .programStoreWrite f word v => Sys2Proof.Machine.execProgramStoreWrite f word v s
  | .routerToken b port ch tok => Sys2Proof.Machine.execRouterToken b port ch tok s
  | .creditReturn h stream dest => Sys2Proof.Machine.execCreditReturn h stream dest s
  | .hubToken col tok => Sys2Proof.Machine.execHubToken col tok s
  | .fabHedgeStall h t => Sys2Proof.Machine.execFabHedgeStall h t s
  | .fabClrCe coin => Sys2Proof.Machine.execFabClrCe coin s
  | .fabClrUe coin => Sys2Proof.Machine.execFabClrUe coin s
  | .fabClrDrop coin => Sys2Proof.Machine.execFabClrDrop coin s
  | .fabClrGw coin => Sys2Proof.Machine.execFabClrGw coin s
  | .gwRouteWrite k v => Sys2Proof.Machine.execGwRouteWrite k v s
  | .gwConflictClear bits coin => Sys2Proof.Machine.execGwConflictClear bits coin s
  | .fNop f => Sys2Proof.Machine.execFNop f s
  | .fBr f target => Sys2Proof.Machine.execFBr f target s
  | .fBeq f a b target => Sys2Proof.Machine.execFBeq f a b target s
  | .fBne f a b target => Sys2Proof.Machine.execFBne f a b target s
  | .fBlt f a b target => Sys2Proof.Machine.execFBlt f a b target s
  | .fLoop f useReg a count last => Sys2Proof.Machine.execFLoop f useReg a count last s
  | .fHalt f => Sys2Proof.Machine.execFHalt f s
  | .fLi f d imm => Sys2Proof.Machine.execFLi f d imm s
  | .fAdd f d a b => Sys2Proof.Machine.execFAdd f d a b s
  | .fSub f d a b => Sys2Proof.Machine.execFSub f d a b s
  | .fAddi f d a imm => Sys2Proof.Machine.execFAddi f d a imm s
  | .fMul f d a b => Sys2Proof.Machine.execFMul f d a b s
  | .fAnd f d a b => Sys2Proof.Machine.execFAnd f d a b s
  | .fOr f d a b => Sys2Proof.Machine.execFOr f d a b s
  | .fXor f d a b => Sys2Proof.Machine.execFXor f d a b s
  | .fShl f d a n => Sys2Proof.Machine.execFShl f d a n s
  | .fShr f d a n => Sys2Proof.Machine.execFShr f d a n s
  | .fSra f d a n => Sys2Proof.Machine.execFSra f d a n s
  | .fLd f d a imm => Sys2Proof.Machine.execFLd f d a imm s
  | .fSt f a b imm => Sys2Proof.Machine.execFSt f a b imm s
  | .fGetst f d => Sys2Proof.Machine.execFGetst f d s
  | .fTget f d a k => Sys2Proof.Machine.execFTget f d a k s
  | .fTset f d a k => Sys2Proof.Machine.execFTset f d a k s
  | .fVget f d a k => Sys2Proof.Machine.execFVget f d a k s
  | .fVset f d a k => Sys2Proof.Machine.execFVset f d a k s
  | .fLdt f d a imm => Sys2Proof.Machine.execFLdt f d a imm s
  | .fStt f a b imm => Sys2Proof.Machine.execFStt f a b imm s
  | .fRecv f d b q => Sys2Proof.Machine.execFRecv f d b q s
  | .fRecvp f d b q => Sys2Proof.Machine.execFRecvp f d b q s
  | .fTest f d q => Sys2Proof.Machine.execFTest f d q s
  | .fWaitany f d mask => Sys2Proof.Machine.execFWaitany f d mask s
  | .fSend f a q => Sys2Proof.Machine.execFSend f a q s
  | .fSendeos f q => Sys2Proof.Machine.execFSendeos f q s
  | .fSendpsn f a b q => Sys2Proof.Machine.execFSendpsn f a b q s
  | .fFwd f d q slot => Sys2Proof.Machine.execFFwd f d q slot s
  | .fStreamWaitResume f => Sys2Proof.Machine.execFStreamWaitResume f s
  | .fMcfg f wfmt afmt => Sys2Proof.Machine.execFMcfg f wfmt afmt s
  | .fMac f a b acc z inc => Sys2Proof.Machine.execFMac f a b acc z inc s
  | .fAccrd f d acc clr => Sys2Proof.Machine.execFAccrd f d acc clr s
  | .fAccwr f a acc => Sys2Proof.Machine.execFAccwr f a acc s
  | .fVadd f d a b => Sys2Proof.Machine.execFVadd f d a b s
  | .fVsub f d a b => Sys2Proof.Machine.execFVsub f d a b s
  | .fVmul f d a b => Sys2Proof.Machine.execFVmul f d a b s
  | .fVfma f d a b => Sys2Proof.Machine.execFVfma f d a b s
  | .fVmax f d a b => Sys2Proof.Machine.execFVmax f d a b s
  | .fVmin f d a b => Sys2Proof.Machine.execFVmin f d a b s
  | .fVscl f d a b => Sys2Proof.Machine.execFVscl f d a b s
  | .fVofs f d a b => Sys2Proof.Machine.execFVofs f d a b s
  | .fVexp f d a => Sys2Proof.Machine.execFVexp f d a s
  | .fVlog f d a => Sys2Proof.Machine.execFVlog f d a s
  | .fVtanh f d a => Sys2Proof.Machine.execFVtanh f d a s
  | .fVsigm f d a => Sys2Proof.Machine.execFVsigm f d a s
  | .fVrcp f d a => Sys2Proof.Machine.execFVrcp f d a s
  | .fVrsqrt f d a => Sys2Proof.Machine.execFVrsqrt f d a s
  | .fVsilu f d a => Sys2Proof.Machine.execFVsilu f d a s
  | .fVrsum f d a => Sys2Proof.Machine.execFVrsum f d a s
  | .fVrmax f d a => Sys2Proof.Machine.execFVrmax f d a s
  | .fVunpk f d a fmt part => Sys2Proof.Machine.execFVunpk f d a fmt part s
  | .fVpack f d a fmt part => Sys2Proof.Machine.execFVpack f d a fmt part s
  | .fVld f d a imm => Sys2Proof.Machine.execFVld f d a imm s
  | .fVst f a b imm => Sys2Proof.Machine.execFVst f a b imm s
  | .fVbcast f d a => Sys2Proof.Machine.execFVbcast f d a s
  | .fVmov f d a => Sys2Proof.Machine.execFVmov f d a s
  | .fEvt f a b q code => Sys2Proof.Machine.execFEvt f a b q code s
  | .imageFetchDone m => Sys2Proof.Machine.execImageFetchDone m s
  | .scheduleEntryStart n h e => Sys2Proof.Machine.execScheduleEntryStart n h e s
  | .scheduleDataToken n h e => Sys2Proof.Machine.execScheduleDataToken n h e s
  | .scheduleEntryDone n h e => Sys2Proof.Machine.execScheduleEntryDone n h e s
  | .bufferRelease n h stream => Sys2Proof.Machine.execBufferRelease n h stream s
  | .memoryStreamRead n h stream => Sys2Proof.Machine.execMemoryStreamRead n h stream s
  | .memoryStreamWrite n h stream => Sys2Proof.Machine.execMemoryStreamWrite n h stream s
  | .scrubRead n g => Sys2Proof.Machine.execScrubRead n g s
  | .stalePageFill plot page => Sys2Proof.Machine.execStalePageFill plot page s
  | .bar2Read f off len rid => Sys2Proof.Machine.execBar2Read f off len rid s
  | .bar2Write f off bs poisoned rid => Sys2Proof.Machine.execBar2Write f off bs poisoned rid s
  | .memHot n t => Sys2Proof.Machine.execMemHot n t s
  | .sliceRetrain t n ok => Sys2Proof.Machine.execSliceRetrain t n ok s
  | .memSliceDown n => Sys2Proof.Machine.execMemSliceDown n s
  | .slcClrCe n coin => Sys2Proof.Machine.execSlcClrCe n coin s
  | .slcClrUe n coin => Sys2Proof.Machine.execSlcClrUe n coin s
  | .pmapVfWrite v e plot valid => Sys2Proof.Machine.execPmapVfWrite v e plot valid s
  | .kvcDecode n h stream => Sys2Proof.Machine.execKvcDecode n h stream s
  | .kvcEncode n h stream => Sys2Proof.Machine.execKvcEncode n h stream s
  | .kvcRegionEnableWrite n r v => Sys2Proof.Machine.execKvcRegionEnableWrite n r v s
  | .kvcSmapWrite n h w v => Sys2Proof.Machine.execKvcSmapWrite n h w v s
  | .clrCorrupt n coin => Sys2Proof.Machine.execClrCorrupt n coin s
  | .clrFallback n coin => Sys2Proof.Machine.execClrFallback n coin s
  | .kvcClrFaults n coin => Sys2Proof.Machine.execKvcClrFaults n coin s
  | .perstNAssert => Sys2Proof.Machine.execPerstNAssert s
  | .perstNDeassert => Sys2Proof.Machine.execPerstNDeassert s
  | .hotReset => Sys2Proof.Machine.execHotReset s
  | .linkDisable => Sys2Proof.Machine.execLinkDisable s
  | .linkDown => Sys2Proof.Machine.execLinkDown s
  | .vfFlr v => Sys2Proof.Machine.execVfFlr v s
  | .pf0Flr => Sys2Proof.Machine.execPf0Flr s
  | .epFlrDone f => Sys2Proof.Machine.execEpFlrDone f s
  | .vfEnableSet => Sys2Proof.Machine.execVfEnableSet s
  | .vfEnableClear => Sys2Proof.Machine.execVfEnableClear s
  | .d3hotEntry f => Sys2Proof.Machine.execD3hotEntry f s
  | .d0Return f => Sys2Proof.Machine.execD0Return f s
  | .linkTraining speed width flit alt => Sys2Proof.Machine.execLinkTraining speed width flit alt s
  | .epLinkDegraded speed width => Sys2Proof.Machine.execEpLinkDegraded speed width s
  | .hostDirectedRetrain speed width => Sys2Proof.Machine.execHostDirectedRetrain speed width s
  | .mrdlk f => Sys2Proof.Machine.execMrdlk f s
  | .configurationRequest f off wr => Sys2Proof.Machine.execConfigurationRequest f off wr s
  | .aspmL1Entry => Sys2Proof.Machine.execAspmL1Entry s
  | .expansionRomRead off len rid => Sys2Proof.Machine.execExpansionRomRead off len rid s
  | .gblVfIrqMaskWrite v m => Sys2Proof.Machine.execGblVfIrqMaskWrite v m s
  | .dbSqTail f page width tail => Sys2Proof.Machine.execDbSqTail f page width tail s
  | .dbCqHead f page width head => Sys2Proof.Machine.execDbCqHead f page width head s
  | .dbWrite64 f page tail head => Sys2Proof.Machine.execDbWrite64 f page tail head s
  | .descriptorFetchDone q => Sys2Proof.Machine.execDescriptorFetchDone q s
  | .descSendData q => Sys2Proof.Machine.execDescSendData q s
  | .evtHeadWrite f r head => Sys2Proof.Machine.execEvtHeadWrite f r head s
  | .evtCfgWrite f r v => Sys2Proof.Machine.execEvtCfgWrite f r v s
  | .clrLost f r coin => Sys2Proof.Machine.execClrLost f r coin s
  | .dbClrFaults f page coin => Sys2Proof.Machine.execDbClrFaults f page coin s
  | .mbxDoorbell m => Sys2Proof.Machine.execMbxDoorbell m s
  | .mbxCommandDone m => Sys2Proof.Machine.execMbxCommandDone m s
  | .identify m => Sys2Proof.Machine.execIdentify m s
  | .status m => Sys2Proof.Machine.execStatus m s
  | .opcodes m => Sys2Proof.Machine.execOpcodes m s
  | .hedgeCreate m => Sys2Proof.Machine.execHedgeCreate m s
  | .hedgeDestroy m => Sys2Proof.Machine.execHedgeDestroy m s
  | .hedgeAssign m => Sys2Proof.Machine.execHedgeAssign m s
  | .hedgeCadence m => Sys2Proof.Machine.execHedgeCadence m s
  | .hedgeQuery m => Sys2Proof.Machine.execHedgeQuery m s
  | .queueAssign m => Sys2Proof.Machine.execQueueAssign m s
  | .queueCreate m => Sys2Proof.Machine.execQueueCreate m s
  | .queueDestroy m => Sys2Proof.Machine.execQueueDestroy m s
  | .queueQuery m => Sys2Proof.Machine.execQueueQuery m s
  | .imageBind m => Sys2Proof.Machine.execImageBind m s
  | .imageUnbind m => Sys2Proof.Machine.execImageUnbind m s
  | .imageQuery m => Sys2Proof.Machine.execImageQuery m s
  | .memoryPlots m => Sys2Proof.Machine.execMemoryPlots m s
  | .memoryMap m => Sys2Proof.Machine.execMemoryMap m s
  | .memoryBar2Size m => Sys2Proof.Machine.execMemoryBar2Size m s
  | .memoryQuery m => Sys2Proof.Machine.execMemoryQuery m s
  | .kvcRegion m => Sys2Proof.Machine.execKvcRegion m s
  | .kvcClaim m => Sys2Proof.Machine.execKvcClaim m s
  | .kvcQuery m => Sys2Proof.Machine.execKvcQuery m s
  | .atuWindow m => Sys2Proof.Machine.execAtuWindow m s
  | .atuPasid m => Sys2Proof.Machine.execAtuPasid m s
  | .atuInvalidate m => Sys2Proof.Machine.execAtuInvalidate m s
  | .atuQuery m => Sys2Proof.Machine.execAtuQuery m s
  | .sorusConfig m => Sys2Proof.Machine.execSorusConfig m s
  | .sorusTrigger m => Sys2Proof.Machine.execSorusTrigger m s
  | .sorusSlowRead m pins => Sys2Proof.Machine.execSorusSlowRead m pins s
  | .sorusOpenWireTest m pins => Sys2Proof.Machine.execSorusOpenWireTest m pins s
  | .sorusCalibrate m trims => Sys2Proof.Machine.execSorusCalibrate m trims s
  | .sorusStatus m => Sys2Proof.Machine.execSorusStatus m s
  | .lichenLoopStatus m => Sys2Proof.Machine.execLichenLoopStatus m s
  | .lichenLoopConfig m => Sys2Proof.Machine.execLichenLoopConfig m s
  | .lichenLoopCalibrate m => Sys2Proof.Machine.execLichenLoopCalibrate m s
  | .lichenAlarmConfig m => Sys2Proof.Machine.execLichenAlarmConfig m s
  | .lichenRtc m => Sys2Proof.Machine.execLichenRtc m s
  | .lichenLogRead m => Sys2Proof.Machine.execLichenLogRead m s
  | .lichenHartConfig m => Sys2Proof.Machine.execLichenHartConfig m s
  | .denbenPortConfig m => Sys2Proof.Machine.execDenbenPortConfig m s
  | .denbenPortStatus m => Sys2Proof.Machine.execDenbenPortStatus m s
  | .denbenDccMap m => Sys2Proof.Machine.execDenbenDccMap m s
  | .denbenRetrain m => Sys2Proof.Machine.execDenbenRetrain m s
  | .twinConfig m => Sys2Proof.Machine.execTwinConfig m s
  | .twinRole m => Sys2Proof.Machine.execTwinRole m s
  | .twinMirror m => Sys2Proof.Machine.execTwinMirror m s
  | .twinVeto m => Sys2Proof.Machine.execTwinVeto m s
  | .twinResync m => Sys2Proof.Machine.execTwinResync m s
  | .twinStatus m => Sys2Proof.Machine.execTwinStatus m s
  | .telemetryRead m mw => Sys2Proof.Machine.execTelemetryRead m mw s
  | .telemetryHedge m => Sys2Proof.Machine.execTelemetryHedge m s
  | .debugStoreRead m => Sys2Proof.Machine.execDebugStoreRead m s
  | .debugStoreWrite m => Sys2Proof.Machine.execDebugStoreWrite m s
  | .debugFrond m => Sys2Proof.Machine.execDebugFrond m s
  | .debugTrace m => Sys2Proof.Machine.execDebugTrace m s
  | .debugProfile m => Sys2Proof.Machine.execDebugProfile m s
  | .lifecycleRead m => Sys2Proof.Machine.execLifecycleRead m s
  | .lifecycleTransition m fails => Sys2Proof.Machine.execLifecycleTransition m fails s
  | .lifecycleKeyWrite m => Sys2Proof.Machine.execLifecycleKeyWrite m s
  | .firmwarePush m => Sys2Proof.Machine.execFirmwarePush m s
  | .firmwareStatus m => Sys2Proof.Machine.execFirmwareStatus m s
  | .firmwareSelect m => Sys2Proof.Machine.execFirmwareSelect m s
  | .atsCompletion id r => Sys2Proof.Machine.execAtsCompletion id r s
  | .atsInvalidateRequest f itag pasid addr size glob => Sys2Proof.Machine.execAtsInvalidateRequest f itag pasid addr size glob s
  | .pageRequestResponse slot code => Sys2Proof.Machine.execPageRequestResponse slot code s
  | .atuWinLostClear k bits coin => Sys2Proof.Machine.execAtuWinLostClear k bits coin s
  | .atuClrFaults coin => Sys2Proof.Machine.execAtuClrFaults coin s
  | .outboundCompletion tag status data snoops => Sys2Proof.Machine.execOutboundCompletion tag status data snoops s
  | .completionTimeout tag => Sys2Proof.Machine.execCompletionTimeout tag s
  | .inboundAtomicop f bar off op width operand compare poisoned rid => Sys2Proof.Machine.execInboundAtomicop f bar off op width operand compare poisoned rid s
  | .atomicWritebackDone g => Sys2Proof.Machine.execAtomicWritebackDone g s
  | .loadExclusive c addr width => Sys2Proof.Machine.execLoadExclusive c addr width s
  | .storeExclusive c addr width value => Sys2Proof.Machine.execStoreExclusive c addr width value s
  | .coreAtomic c op addr width operand compare => Sys2Proof.Machine.execCoreAtomic c op addr width operand compare s
  | .reservationTimeout c => Sys2Proof.Machine.execReservationTimeout c s
  | .targetTimeout who bar off len rid write reason => Sys2Proof.Machine.execTargetTimeout who bar off len rid write reason s
  | .hbrCtrlWrite v => Sys2Proof.Machine.execHbrCtrlWrite v s
  | .hbrClrRfails coin => Sys2Proof.Machine.execHbrClrRfails coin s
  | .hbrClrWfails coin => Sys2Proof.Machine.execHbrClrWfails coin s
  | .pbrClrRfails coin => Sys2Proof.Machine.execPbrClrRfails coin s
  | .pbrClrWfails coin => Sys2Proof.Machine.execPbrClrWfails coin s
  | .clrLv coin => Sys2Proof.Machine.execClrLv coin s
  | .storeApertureRead path store off width => Sys2Proof.Machine.execStoreApertureRead path store off width s
  | .storeApertureWrite path store off width v => Sys2Proof.Machine.execStoreApertureWrite path store off width v s
  | .programApertureWrite path off width v => Sys2Proof.Machine.execProgramApertureWrite path off width v s
  | .registerMirrorRead path off width => Sys2Proof.Machine.execRegisterMirrorRead path off width s
  | .jtagDbgAccess off width wr coin => Sys2Proof.Machine.execJtagDbgAccess off width wr coin s
  | .clrViol coin => Sys2Proof.Machine.execClrViol coin s
  | .dbgClrLost coin => Sys2Proof.Machine.execDbgClrLost coin s
  | .trigInEdge t rise pins => Sys2Proof.Machine.execTrigInEdge t rise pins s
  | .periodicTrigger t pins => Sys2Proof.Machine.execPeriodicTrigger t pins s
  | .pairTrigger t pins => Sys2Proof.Machine.execPairTrigger t pins s
  | .softwareTrigger t pins => Sys2Proof.Machine.execSoftwareTrigger t pins s
  | .refSettle t refin avdd => Sys2Proof.Machine.execRefSettle t refin avdd s
  | .refWindowLoss refin avdd => Sys2Proof.Machine.execRefWindowLoss refin avdd s
  | .refSettleTimeout t => Sys2Proof.Machine.execRefSettleTimeout t s
  | .sorCtrlWrite sel => Sys2Proof.Machine.execSorCtrlWrite sel s
  | .sorTrigWrite source enable hold => Sys2Proof.Machine.execSorTrigWrite source enable hold s
  | .sorChannelWrite c range mag owP owN => Sys2Proof.Machine.execSorChannelWrite c range mag owP owN s
  | .sorRingCfgWrite r v => Sys2Proof.Machine.execSorRingCfgWrite r v s
  | .sorRingChWrite r ch => Sys2Proof.Machine.execSorRingChWrite r ch s
  | .sorTrimWrite k g offset gain => Sys2Proof.Machine.execSorTrimWrite k g offset gain s
  | .clrMissed coin => Sys2Proof.Machine.execClrMissed coin s
  | .clrRing coin => Sys2Proof.Machine.execClrRing coin s
  | .sorusRailsLost => Sys2Proof.Machine.execSorusRailsLost s
  | .sorusRailsReturn => Sys2Proof.Machine.execSorusRailsReturn s
  | .loopDomainReset => Sys2Proof.Machine.execLoopDomainReset s
  | .loopDomainStart => Sys2Proof.Machine.execLoopDomainStart s
  | .cstoreJobAdmit t mv => Sys2Proof.Machine.execCstoreJobAdmit t mv s
  | .loopInputAccept t => Sys2Proof.Machine.execLoopInputAccept t s
  | .loopStale t => Sys2Proof.Machine.execLoopStale t s
  | .loopHostAbsent => Sys2Proof.Machine.execLoopHostAbsent s
  | .coreFrameTimeout => Sys2Proof.Machine.execCoreFrameTimeout s
  | .openLoop read => Sys2Proof.Machine.execOpenLoop read s
  | .openLoopClear read => Sys2Proof.Machine.execOpenLoopClear read s
  | .noCompliance mv => Sys2Proof.Machine.execNoCompliance mv s
  | .noComplianceClear mv => Sys2Proof.Machine.execNoComplianceClear mv s
  | .sensorConversion k v => Sys2Proof.Machine.execSensorConversion k v s
  | .calibrationTimeout t => Sys2Proof.Machine.execCalibrationTimeout t s
  | .loopNvmWriteDone => Sys2Proof.Machine.execLoopNvmWriteDone s
  | .hartCmd0 => Sys2Proof.Machine.execHartCmd0 s
  | .hartCmd1 => Sys2Proof.Machine.execHartCmd1 s
  | .hartCmd2 => Sys2Proof.Machine.execHartCmd2 s
  | .hartCmd3 qv => Sys2Proof.Machine.execHartCmd3 qv s
  | .hartCmd6 addr mode => Sys2Proof.Machine.execHartCmd6 addr mode s
  | .hartCmd7 => Sys2Proof.Machine.execHartCmd7 s
  | .hartCmd8 => Sys2Proof.Machine.execHartCmd8 s
  | .hartCmd9 codes qv => Sys2Proof.Machine.execHartCmd9 codes qv s
  | .hartCmd11 tag => Sys2Proof.Machine.execHartCmd11 tag s
  | .hartCmd12 => Sys2Proof.Machine.execHartCmd12 s
  | .hartCmd13 => Sys2Proof.Machine.execHartCmd13 s
  | .hartCmd14 => Sys2Proof.Machine.execHartCmd14 s
  | .hartCmd15 => Sys2Proof.Machine.execHartCmd15 s
  | .hartCmd16 => Sys2Proof.Machine.execHartCmd16 s
  | .hartCmd17 data => Sys2Proof.Machine.execHartCmd17 data s
  | .hartCmd18 data => Sys2Proof.Machine.execHartCmd18 data s
  | .hartCmd19 data => Sys2Proof.Machine.execHartCmd19 data s
  | .hartCmd20 => Sys2Proof.Machine.execHartCmd20 s
  | .hartCmd21 tag => Sys2Proof.Machine.execHartCmd21 tag s
  | .hartCmd22 data => Sys2Proof.Machine.execHartCmd22 data s
  | .hartCmd38 => Sys2Proof.Machine.execHartCmd38 s
  | .hartCmd48 => Sys2Proof.Machine.execHartCmd48 s
  | .hartReadLoopConfiguration => Sys2Proof.Machine.execHartReadLoopConfiguration s
  | .hartWriteFailureConfig fail absent staleMs down up => Sys2Proof.Machine.execHartWriteFailureConfig fail absent staleMs down up s
  | .hartSetFixedCurrent ua => Sys2Proof.Machine.execHartSetFixedCurrent ua s
  | .hartReadLoopDiagnostics => Sys2Proof.Machine.execHartReadLoopDiagnostics s
  | .hartReadAcceleratorLink => Sys2Proof.Machine.execHartReadAcceleratorLink s
  | .hartReadSensorConfiguration => Sys2Proof.Machine.execHartReadSensorConfiguration s
  | .hartWriteSensorConfiguration sens0 sens1 input => Sys2Proof.Machine.execHartWriteSensorConfiguration sens0 sens1 input s
  | .hartWriteRangeValues lrv urv units => Sys2Proof.Machine.execHartWriteRangeValues lrv urv units s
  | .hartReadAlarmInputs => Sys2Proof.Machine.execHartReadAlarmInputs s
  | .hartUnimplementedCommand cmd => Sys2Proof.Machine.execHartUnimplementedCommand cmd s
  | .clrRejected coin => Sys2Proof.Machine.execClrRejected coin s
  | .clrHart coin => Sys2Proof.Machine.execClrHart coin s
  | .vstbyFall => Sys2Proof.Machine.execVstbyFall s
  | .vstbyRise uf mv => Sys2Proof.Machine.execVstbyRise uf mv s
  | .vbatLoss mv => Sys2Proof.Machine.execVbatLoss mv s
  | .cellTest mv => Sys2Proof.Machine.execCellTest mv s
  | .alarmSample closed => Sys2Proof.Machine.execAlarmSample closed s
  | .overtempLatchTrip temp => Sys2Proof.Machine.execOvertempLatchTrip temp s
  | .overtempLatchRelease temp => Sys2Proof.Machine.execOvertempLatchRelease temp s
  | .recordNvmWrite => Sys2Proof.Machine.execRecordNvmWrite s
  | .logDelivery => Sys2Proof.Machine.execLogDelivery s
  | .watchdogKick timeout => Sys2Proof.Machine.execWatchdogKick timeout s
  | .watchdogReset t => Sys2Proof.Machine.execWatchdogReset t s
  | .jtagCoreHalt c => Sys2Proof.Machine.execJtagCoreHalt c s
  | .corePowerUp torn => Sys2Proof.Machine.execCorePowerUp torn s
  | .lifecycleRedo => Sys2Proof.Machine.execLifecycleRedo s
  | .lifecycleCommit => Sys2Proof.Machine.execLifecycleCommit s
  | .frameReceive p t bytes => Sys2Proof.Machine.execFrameReceive p t bytes s
  | .frameTransmit p t => Sys2Proof.Machine.execFrameTransmit p t s
  | .dlosTimer p t signal => Sys2Proof.Machine.execDlosTimer p t signal s
  | .widthRequest t => Sys2Proof.Machine.execWidthRequest t s
  | .widthRestore t => Sys2Proof.Machine.execWidthRestore t s
  | .retrainDefectTimeout p t => Sys2Proof.Machine.execRetrainDefectTimeout p t s
  | .retrainAttemptTimeout p t => Sys2Proof.Machine.execRetrainAttemptTimeout p t s
  | .retrainRetry p t => Sys2Proof.Machine.execRetrainRetry p t s
  | .dccExchange d rxd => Sys2Proof.Machine.execDccExchange d rxd s
  | .frmClearWrite p bits coin => Sys2Proof.Machine.execFrmClearWrite p bits coin s
  | .twinRefclkLoss t => Sys2Proof.Machine.execTwinRefclkLoss t s
  | .heartbeatTick t => Sys2Proof.Machine.execHeartbeatTick t s
  | .fencePulse t => Sys2Proof.Machine.execFencePulse t s
  | .fenceInEdge t => Sys2Proof.Machine.execFenceInEdge t s
  | .heartbeatMissing t => Sys2Proof.Machine.execHeartbeatMissing t s
  | .fenceAbsent t => Sys2Proof.Machine.execFenceAbsent t s
  | .dccPStatusMessage => Sys2Proof.Machine.execDccPStatusMessage s
  | .dccPLoopMessage => Sys2Proof.Machine.execDccPLoopMessage s
  | .sourceCurrentRead t => Sys2Proof.Machine.execSourceCurrentRead t s
  | .epochClose t => Sys2Proof.Machine.execEpochClose t s
  | .mirrorDataRecord => Sys2Proof.Machine.execMirrorDataRecord s
  | .mirrorQueueRecord => Sys2Proof.Machine.execMirrorQueueRecord s
  | .mirrorStaleRecord => Sys2Proof.Machine.execMirrorStaleRecord s
  | .mirrorCloseRecord => Sys2Proof.Machine.execMirrorCloseRecord s
  | .mirrorResultRecord => Sys2Proof.Machine.execMirrorResultRecord s
  | .syncRound t => Sys2Proof.Machine.execSyncRound t s
  | .configDiscordTimeout t => Sys2Proof.Machine.execConfigDiscordTimeout t s
  | .failoverHoldEnd t => Sys2Proof.Machine.execFailoverHoldEnd t s
  | .termWriteDone => Sys2Proof.Machine.execTermWriteDone s
  | .twnClrLocalWrites coin => Sys2Proof.Machine.execTwnClrLocalWrites coin s
  | .twnClrResultDiscords coin => Sys2Proof.Machine.execTwnClrResultDiscords coin s
  | .stageS2 t link => Sys2Proof.Machine.execStageS2 t link s
  | .stageS3 t facts => Sys2Proof.Machine.execStageS3 t facts s
  | .stageS4 t failed read => Sys2Proof.Machine.execStageS4 t failed read s
  | .stageS5 t failed => Sys2Proof.Machine.execStageS5 t failed s
  | .stageS6 t => Sys2Proof.Machine.execStageS6 t s
  | .stageS7 t => Sys2Proof.Machine.execStageS7 t s
  | .bootBackoffEnd t facts => Sys2Proof.Machine.execBootBackoffEnd t facts s
  | .lichenLinkRetry t link => Sys2Proof.Machine.execLichenLinkRetry t link s
  | .brackenRetest t b pass => Sys2Proof.Machine.execBrackenRetest t b pass s
  | .bootConfirm t => Sys2Proof.Machine.execBootConfirm t s
  | .bootEventDelivery => Sys2Proof.Machine.execBootEventDelivery s
  | .gblIrqMaskWrite m => Sys2Proof.Machine.execGblIrqMaskWrite m s
  | .railsSettled => Sys2Proof.Machine.execRailsSettled s
  | .railDip => Sys2Proof.Machine.execRailDip s
  | .smbusIdentity => Sys2Proof.Machine.execSmbusIdentity s
  | .smbusService => Sys2Proof.Machine.execSmbusService s
  | .smbusTjMax => Sys2Proof.Machine.execSmbusTjMax s
  | .smbusStackTemperature => Sys2Proof.Machine.execSmbusStackTemperature s
  | .smbusPower watts => Sys2Proof.Machine.execSmbusPower watts s
  | .smbusVddFab => Sys2Proof.Machine.execSmbusVddFab s
  | .smbusActivePoint => Sys2Proof.Machine.execSmbusActivePoint s
  | .smbusLifeCycle => Sys2Proof.Machine.execSmbusLifeCycle s
  | .smbusFlags => Sys2Proof.Machine.execSmbusFlags s
  | .smbusOther => Sys2Proof.Machine.execSmbusOther s
  | .stackTemperatureChange n t => Sys2Proof.Machine.execStackTemperatureChange n t s
  | .loopPresentLoss => Sys2Proof.Machine.execLoopPresentLoss s
  | .hartFrameError => Sys2Proof.Machine.execHartFrameError s
  | .jtagCoreResume c => Sys2Proof.Machine.execJtagCoreResume c s
  | .twinRefclkReturn t => Sys2Proof.Machine.execTwinRefclkReturn t s
  | .laneMarker p t lane ok fn ctrl skew => Sys2Proof.Machine.execLaneMarker p t lane ok fn ctrl skew s

end Sys2Proof.Machine
end

