-- ==== Sys2Proof/Safety.lean ====
section
/-!
DEFINITION. Sys2Proof/Safety.lean: the words in which claims are stated: what an outcome answers, what a command leaves as it was, and the canonical form of the memory stacks.
-/

namespace Sys2Proof.Machine

open Sys2Proof

/-! ### Outcomes -/

/-- The outcome is a next state, and `Q` holds of it. -/
def Answers (o : Host.Outcome State Fault Refusal) (Q : State → Prop) : Prop := ∃ t, o = .next t ∧ Q t

/-- The part of a state. -/
abbrev State.part (s : State) : Part := s.dev.p

/-- The next state in which only the part may differ: it is `q`. -/
def toPart (s : State) (q : Part) : Host.Outcome State Fault Refusal := .next { s with dev := { s.dev with p := q } }

/-- The next state in which the device is `d`; the queue is as it was. -/
def toDev (s : State) (d : Dev) : Host.Outcome State Fault Refusal := .next { s with dev := d }

/-! ### Frames -/

/-- Only the part may differ: the queue and every byte cell of the memory stacks are as they were. -/
def OnlyPart (s t : State) : Prop := t.pending = s.pending ∧ t.dev.mem = s.dev.mem

/-- Between two parts only registers may differ, and of these only the ones in `ks`. -/
def RegsOnly (p q : Part) (ks : Nat → Prop) : Prop := q = { p with regs := q.regs } ∧ ∀ k, ¬ ks k → q.reg k = p.reg k

/-- Only registers may differ, and of these only the ones in `ks`. -/
def OnlyRegs (s t : State) (ks : Nat → Prop) : Prop := OnlyPart s t ∧ RegsOnly s.part t.part ks

/-- Only field `f` may differ: every other register, and every other bit of its register, is as it was. -/
def OnlyField (s t : State) (f : Fld) : Prop :=
  OnlyRegs s t (· = f.reg) ∧
  ∀ i, ¬ (f.lo ≤ i ∧ i < f.lo + f.w) → (t.part.reg f.reg).getLsbD i = (s.part.reg f.reg).getLsbD i

/-- Only frond `f` may differ. -/
def OnlyFrond (s t : State) (f : Nat) : Prop :=
  t = { s with dev := { s.dev with p := { s.part with fab := { s.part.fab with fronds := t.part.fab.fronds } } } } ∧
  ∀ g, g ≠ f → t.part.frond g = s.part.frond g

/-- The queue, the memory stacks and the registers outside `ks` are as they were. -/
def OtherRegsStay (s t : State) (ks : Nat → Prop) : Prop := OnlyPart s t ∧ ∀ k, ¬ ks k → t.part.reg k = s.part.reg k

/-- Only what `ch` names of the part may differ: `ch` puts the old value of everything else into the new part. -/
def OnlyIn (s t : State) (ch : Part → Part → Part) : Prop := OnlyPart s t ∧ t.part = ch s.part t.part

/-! ### Fronds -/

/-- Frond `f` may issue an instruction whose word in the program store is good (R85, R86, R540). -/
def FrondGoes (s : State) (f : Nat) : Prop :=
  isFrond f ∧ (s.part.frond f).ready = true ∧ (s.part.frond f).eccAt 2 (s.part.frond f).pc = 0

/-- Frond `f` may issue, and `op` is the instruction that its program holds at the program counter (R147), in a good word. -/
def FrondAt (s : State) (f : Nat) (op : FOp) : Prop :=
  FrondGoes s f ∧ finstr ((s.part.frond f).word 2 (s.part.frond f).pc) = some op

/-- The command row that runs instruction `op` in frond `f`. -/
def frondInstr (f : Nat) (op : FOp) : Instr :=
  match op with
  | .nop => .fNop f
  | .br target => .fBr f target
  | .beq a b target => .fBeq f a b target
  | .bne a b target => .fBne f a b target
  | .blt a b target => .fBlt f a b target
  | .loop useReg a count last => .fLoop f useReg a count last
  | .halt => .fHalt f
  | .li d imm => .fLi f d imm
  | .add d a b => .fAdd f d a b
  | .sub d a b => .fSub f d a b
  | .addi d a imm => .fAddi f d a imm
  | .mul d a b => .fMul f d a b
  | .band d a b => .fAnd f d a b
  | .bor d a b => .fOr f d a b
  | .bxor d a b => .fXor f d a b
  | .shl d a n => .fShl f d a n
  | .shr d a n => .fShr f d a n
  | .sra d a n => .fSra f d a n
  | .ld d a imm => .fLd f d a imm
  | .st a b imm => .fSt f a b imm
  | .getst d => .fGetst f d
  | .tget d a k => .fTget f d a k
  | .tset d a k => .fTset f d a k
  | .vget d a k => .fVget f d a k
  | .vset d a k => .fVset f d a k
  | .ldt d a imm => .fLdt f d a imm
  | .stt a b imm => .fStt f a b imm
  | .recv d b q => .fRecv f d b q
  | .recvp d b q => .fRecvp f d b q
  | .test d q => .fTest f d q
  | .waitany d mask => .fWaitany f d mask
  | .send a q => .fSend f a q
  | .sendeos q => .fSendeos f q
  | .sendpsn a b q => .fSendpsn f a b q
  | .fwd d q slot => .fFwd f d q slot
  | .mcfg wfmt afmt => .fMcfg f wfmt afmt
  | .mac a b acc z inc => .fMac f a b acc z inc
  | .accrd d acc clr => .fAccrd f d acc clr
  | .accwr a acc => .fAccwr f a acc
  | .vadd d a b => .fVadd f d a b
  | .vsub d a b => .fVsub f d a b
  | .vmul d a b => .fVmul f d a b
  | .vfma d a b => .fVfma f d a b
  | .vmax d a b => .fVmax f d a b
  | .vmin d a b => .fVmin f d a b
  | .vscl d a b => .fVscl f d a b
  | .vofs d a b => .fVofs f d a b
  | .vexp d a => .fVexp f d a
  | .vlog d a => .fVlog f d a
  | .vtanh d a => .fVtanh f d a
  | .vsigm d a => .fVsigm f d a
  | .vrcp d a => .fVrcp f d a
  | .vrsqrt d a => .fVrsqrt f d a
  | .vsilu d a => .fVsilu f d a
  | .vrsum d a => .fVrsum f d a
  | .vrmax d a => .fVrmax f d a
  | .vunpk d a fmt part => .fVunpk f d a fmt part
  | .vpack d a fmt part => .fVpack f d a fmt part
  | .vld d a imm => .fVld f d a imm
  | .vst a b imm => .fVst f a b imm
  | .vbcast d a => .fVbcast f d a
  | .vmov d a => .fVmov f d a
  | .evt a b q code => .fEvt f a b q code

/-- Frond `F` went on to `G` with no branch: the next address, and the loops in progress (R147, R151, R152). -/
def WentOn (F G : Frond) : Prop := (G.pc, G.loops) = fallLoops F.pc F.loops

/-- Every scalar register but `d` reads as before, and `d` reads `x`; s0 reads zero (R138). -/
def ScalarSet (F G : Frond) (d : Nat) (x : Word) : Prop :=
  ∀ r, G.sr r = if r = d ∧ d ≠ 0 then x else F.sr r

/-- Lane i of v[d] reads `x i`, and every lane of every other vector register reads as before. -/
def LanesSet (F G : Frond) (d : Nat) (x : Nat → Word) : Prop :=
  ∀ r i, i < 32 → G.lane r i = if r = d then x i else F.lane r i

/-- Where a profile runs in frond `f`'s bracken, it has counted the steps of instruction `op`; nothing else differs (R148, R543). -/
def State.counted (s : State) (f : Nat) (op : FOp) : State :=
  let n := stepsOf ((s.part.frond f).takes op) op
  { s with dev := { s.dev with p := s.part.profile (f / 64) fun c => { c with steps := Tab.upd 0 (f / 64) (· + n) c.steps } } }

/-- Instruction `op`, where it is the next one of frond `f`'s program and the frond may issue it, takes its effect: its row answers a next state in which its steps are counted, only the frond differs beside that, and `Q` holds of the frond. -/
def Runs (s : State) (f : Nat) (op : FOp) (Q : Frond → Prop) : Prop :=
  FrondAt s f op → Answers (exec (frondInstr f op) s) fun t => OnlyFrond (s.counted f op) t f ∧ Q (t.part.frond f)

/-- `x` holds the FP32 result `v`, rounded once; the bits of a NaN are open (DEDUCED, notes/assumptions/13.md). -/
def HoldsF32 (v : FV) (x : Word) : Prop := if v.isNan then isNan32 x.toNat = true else x = BitVec.ofNat 32 v.toF32

/-- `x` is a result that the bound of a nonlinear function allows (R173); the choice within it is open, and so is a result that the manual does not state. -/
def HoldsApprox (a : Approx) (x : Word) : Prop :=
  match a with
  | .bits y => x = BitVec.ofNat 32 y
  | .nan => isNan32 x.toNat = true
  | .range lo hi => lo ≤ hi → ∃ i, lo ≤ i ∧ i ≤ hi ∧
      x = BitVec.ofNat 32 (flush32 (ofOrd (max (ordOf 0xFF800000) (min (ordOf 0x7F800000) i))))
  | .unstated => flush32 x.toNat = x.toNat

/-! ### Mailboxes -/

/-- Command `c` ends on mailbox `m` with OK and changes nothing but that mailbox; each field of its results, by offset and size, holds the value given (R400, R407, R409). -/
def Replies (s : State) (c : Instr) (m : Nat) (fields : List (Nat × Nat × Nat)) : Prop :=
  ∃ r, exec c s = toPart s (s.part.mbxEnd m stOk r) ∧ ∀ f ∈ fields, bytesAt r f.1 f.2.1 = f.2.2 % 2 ^ (8 * f.2.1)

/-- Command `c` makes the part `q` and ends on mailbox `m` with OK and no results. -/
def EndsOk (s : State) (c : Instr) (m : Nat) (q : Part) : Prop := exec c s = toPart s (q.mbxEnd m stOk [])

/-- Command `c` changes nothing but its mailbox `m`, where it ends with an error. -/
def EndsWith (s : State) (c : Instr) (m : Nat) (e : Sts) : Prop := exec c s = toPart s (s.part.mbxEnd m e [])

/-! ### Memory stacks -/

/-- The canonical form of the memory stacks: addresses strictly rising, and no listed byte is the zero that an unlisted one reads as (R234). -/
abbrev Memory.wf (m : List Host.Cell) : Prop := Tab.wf (0 : Byte) m

/-- `n` bytes from a memory address are good, lie in filled pages, and belong to no mirror region (R227, R234, R729). -/
def PlainMem (d : Dev) (a n : Nat) : Prop :=
  ∀ x, a ≤ x → x < a + n → d.p.gran (x / 64) = 0 ∧ d.p.unfilled x = false ∧ d.p.mirrored x = false

/-- The bytes of the memory stacks after a store: `bs` from address `a` on, every other byte as before. -/
def Stored (d e : Dev) (a : Nat) (bs : List Byte) : Prop :=
  ∀ x, e.byte x = if a ≤ x ∧ x < a + bs.length then bs.getD (x - a) 0 else d.byte x

/-- The invariant of every step. -/
abbrev State.Inv (s : State) : Prop := Memory.wf s.dev.mem

end Sys2Proof.Machine
end

