-- ==== Sys2Proof/Certificates/Slice0/Obligations.lean ====
section
/-!
DEFINITION. Sys2Proof/Certificates/Slice0/Obligations.lean: the statements for the provers. Each names the rules of the manual that it comes from; where a statement is about this model's own choice it names the row of the assumption log.
-/

open Sys2Proof Sys2Proof.Machine

/-- The scalar instructions with a scalar result (R138, R147, R152 to R154): s[D] takes the result, modulo 2^32; s0 ignores it; the frond goes on; everything else stays. -/
def Obligations.ScalarInstructionResults : Prop :=
  ∀ (s : State) (f d a b n k l : Nat) (imm : Word), d < 32 → a < 32 → b < 32 → n < 32 →
    let F := s.part.frond f
    ∀ e ∈ ([(.li d imm, imm), (.add d a b, F.sr a + F.sr b), (.sub d a b, F.sr a - F.sr b),
        (.addi d a imm, F.sr a + imm), (.mul d a b, F.sr a * F.sr b), (.band d a b, F.sr a &&& F.sr b),
        (.bor d a b, F.sr a ||| F.sr b), (.bxor d a b, F.sr a ^^^ F.sr b), (.shl d a n, F.sr a <<< n),
        (.shr d a n, F.sr a >>> n), (.sra d a n, (F.sr a).sshiftRight n)] : List (FOp × Word)) ++
        (if k < 8 ∧ l < 32 ∧ a < 16 then
          [(.tget d a k, ((F.tr a).extractLsb' (32 * k) 32)), (.vget d a l, F.lane a l)] else []),
      Runs s f e.1 fun G => ScalarSet F G d e.2 ∧ WentOn F G ∧ G = { F with s := G.s, pc := G.pc, loops := G.loops }

/-- GETST, TEST, WAITANY, TSET, VSET, VBCAST, VMOV and MCFG (R153, R155, R156, R162, R171): the register that each names takes its value, and nothing else of the frond moves. -/
def Obligations.FrondRegisterMoves : Prop :=
  ∀ (s : State) (f d a k l q mask w v : Nat), d < 32 → a < 32 → k < 8 → l < 32 → q < 16 → w < 16 → v < 8 → mask < 65536 →
    let F := s.part.frond f
    let held := fun q => (F.queue q).toks
    Runs s f (.getst d) (fun G =>
      ScalarSet F G d (BitVec.ofNat 32 ((if F.poison.isSome then 1 else 0) + (if F.seen then 2 else 0) + 65536 * f)) ∧
      G.seen = false ∧ WentOn F G ∧ G = { F with s := G.s, seen := G.seen, pc := G.pc, loops := G.loops }) ∧
    Runs s f (.test d q) (fun G =>
      ScalarSet F G d (BitVec.ofNat 32 ((held q).length % 32 + 256 * ((held q).head?.map (·.1)).getD 0)) ∧
      WentOn F G ∧ G = { F with s := G.s, pc := G.pc, loops := G.loops }) ∧
    (mask.testBit q = true → held q ≠ [] → (∀ j < q, mask.testBit j = true → held j = []) →
      Runs s f (.waitany d mask) fun G =>
        ScalarSet F G d (BitVec.ofNat 32 q) ∧ WentOn F G ∧ G = { F with s := G.s, pc := G.pc, loops := G.loops }) ∧
    Runs s f (.tset d a k) (fun G =>
      (∀ j < 8, (G.tr d).extractLsb' (32 * j) 32 = if j = k then F.sr a else (F.tr d).extractLsb' (32 * j) 32) ∧
      (∀ r, r ≠ d → G.tr r = F.tr r) ∧ WentOn F G ∧ G = { F with t := G.t, pc := G.pc, loops := G.loops }) ∧
    Runs s f (.mcfg w v) (fun G =>
      G.wfmt = w ∧ G.afmt = v ∧ (∀ i, G.accr i = 0) ∧ WentOn F G ∧
      G = { F with wfmt := w, afmt := v, acc := G.acc, pc := G.pc, loops := G.loops }) ∧
    ∀ e ∈ ([(.vset d a l, fun i => if i = l then F.sr a else F.lane d i), (.vbcast d a, fun _ => F.sr a),
        (.vmov d a, fun i => F.lane a i)] : List (FOp × (Nat → Word))),
      Runs s f e.1 fun G => LanesSet F G d e.2 ∧ WentOn F G ∧ G = { F with v := G.v, pc := G.pc, loops := G.loops }

/-- The control class (R147, R150 to R152): branches, NOP and HALT set the next address; LOOP enters its body or skips it. Without a branch the program counter goes on to the next address and wraps from 2,047 to 0; at the last instruction of the innermost loop with passes left it goes to the loop's first, and one pass is gone; with none left the loop has ended. A frond runs no instruction but the next one of its program (R147), and a profile counts an instruction's steps: two for a taken branch and for each nonlinear function, three for a lane reduction, and one for NOP, ADD and a branch not taken (R148, R150, R173, R543). -/
def Obligations.ControlFlowAndLoops : Prop :=
  (∀ (s : State) (f a b n last : Nat) (useReg : Bool), a < 32 → b < 32 → n < 65536 → last < 2048 →
    let F := s.part.frond f
    let goes := fun (op : FOp) (ok : Frond → Prop) => Runs s f op fun G =>
      ok G ∧ G = { F with pc := G.pc, loops := G.loops, running := G.running }
    let count := if useReg then (F.sr a).toNat else n
    goes .nop (fun G => WentOn F G ∧ G.running = true) ∧
    goes .halt (fun G => WentOn F G ∧ G.running = false) ∧
    goes (.br last) (fun G => G.pc = last ∧ G.loops = F.loops ∧ G.running = true) ∧
    goes (.beq a b last) (fun G => G.running = true ∧
      if F.sr a = F.sr b then G.pc = last ∧ G.loops = F.loops else WentOn F G) ∧
    goes (.bne a b last) (fun G => G.running = true ∧
      if F.sr a ≠ F.sr b then G.pc = last ∧ G.loops = F.loops else WentOn F G) ∧
    goes (.blt a b last) (fun G => G.running = true ∧
      if (F.sr a).toInt < (F.sr b).toInt then G.pc = last ∧ G.loops = F.loops else WentOn F G) ∧
    goes (.loop useReg a n last) (fun G => G.running = true ∧
      if count = 0 then (G.pc, G.loops) = fallLoops last F.loops
      else G.pc = (F.pc + 1) % 2048 ∧
        (F.loops.length < 4 → G.loops = ⟨(F.pc + 1) % 2048, last, count⟩ :: F.loops))) ∧
  (∀ (pc : Nat) (l : LoopEnt) (rest : List LoopEnt),
    fallLoops pc [] = ((pc + 1) % 2048, []) ∧
    (l.last ≠ pc → fallLoops pc (l :: rest) = ((pc + 1) % 2048, l :: rest)) ∧
    (l.last = pc → 1 < l.left → fallLoops pc (l :: rest) = (l.first, { l with left := l.left - 1 } :: rest)) ∧
    (l.last = pc → l.left ≤ 1 → fallLoops pc (l :: rest) = fallLoops pc rest)) ∧
  (∀ (s : State) (f : Nat) (op : FOp), (s.part.frond f).eccAt 2 (s.part.frond f).pc ≠ 2 →
    finstr ((s.part.frond f).word 2 (s.part.frond f).pc) ≠ some op → exec (frondInstr f op) s = .next s) ∧
  (∀ (s : State) (f d a b last : Nat) (c : Profile), s.part.dbg.profile = some c → c.brackens.testBit (f / 64) = true →
    let F := s.part.frond f
    ∀ e ∈ ([(.nop, 1), (.add d a b, 1), (.br last, 2), (.beq a b last, if F.sr a = F.sr b then 2 else 1),
        (.bne a b last, if F.sr a ≠ F.sr b then 2 else 1), (.blt a b last, if (F.sr a).toInt < (F.sr b).toInt then 2 else 1),
        (.vexp d a, 2), (.vlog d a, 2), (.vtanh d a, 2), (.vsigm d a, 2), (.vrcp d a, 2), (.vrsqrt d a, 2), (.vsilu d a, 2),
        (.vrsum d a, 3), (.vrmax d a, 3)] : List (FOp × Nat)),
      FrondAt s f e.1 → Answers (exec (frondInstr f e.1) s) fun t => ∃ c', t.part.dbg.profile = some c' ∧
        Tab.get 0 (f / 64) c'.steps = Tab.get 0 (f / 64) c.steps + e.2)

/-- LD, LDT and VLD read, and ST, STT and VST write, the activation store at the low 16 bits of s[A] + IMM, aligned down to their size (R86, R153, R154, R171, R172), where the words read are good; no other word of any store moves. -/
def Obligations.ActivationStoreAccesses : Prop :=
  ∀ (s : State) (f d a b : Nat) (imm : Word), d < 32 → a < 32 → b < 32 →
    let F := s.part.frond f
    let at' := fun (size : Nat) => (F.sr a + imm).toNat % 65536 / size * size
    let good := fun (size n : Nat) => ∀ i < n, F.eccAt 1 (at' size / 8 + i) = 0
    (good 4 1 → Runs s f (.ld d a imm) fun G =>
      ScalarSet F G d ((F.word 1 (at' 4 / 8)).extractLsb' (8 * (at' 4 % 8)) 32) ∧ WentOn F G ∧
      G = { F with s := G.s, pc := G.pc, loops := G.loops }) ∧
    (good 32 4 → Runs s f (.ldt d a imm) fun G =>
      (∀ i < 4, (G.tr d).extractLsb' (64 * i) 64 = F.word 1 (at' 32 / 8 + i)) ∧ (∀ r, r ≠ d → G.tr r = F.tr r) ∧
      WentOn F G ∧ G = { F with t := G.t, pc := G.pc, loops := G.loops }) ∧
    (good 128 16 → Runs s f (.vld d a imm) fun G =>
      LanesSet F G d (fun i => (F.word 1 (at' 128 / 8 + i / 2)).extractLsb' (32 * (i % 2)) 32) ∧
      WentOn F G ∧ G = { F with v := G.v, pc := G.pc, loops := G.loops }) ∧
    (good 4 1 → Runs s f (.st a b imm) fun G =>
      (∀ w j, j < 2 → (G.word 1 w).extractLsb' (32 * j) 32 =
        if 8 * w + 4 * j = at' 4 then F.sr b else (F.word 1 w).extractLsb' (32 * j) 32) ∧
      (∀ k, Tab.get 0 k G.ecc = Tab.get 0 k F.ecc) ∧
      WentOn F G ∧ G = { F with ast := G.ast, ecc := G.ecc, pc := G.pc, loops := G.loops }) ∧
    ∀ e ∈ ([(.stt a b imm, 32, fun j => (F.tr b).extractLsb' (64 * j) 64),
        (.vst a b imm, 128, fun j => (F.lane b (2 * j + 1)) ++ (F.lane b (2 * j)))] : List (FOp × Nat × (Nat → Dword))),
      Runs s f e.1 fun G =>
        let w0 := at' e.2.1 / 8
        let n := e.2.1 / 8
        (∀ w, G.word 1 w = if w0 ≤ w ∧ w < w0 + n then e.2.2 (w - w0) else F.word 1 w) ∧
        (∀ k, Tab.get 0 k G.ecc = if 65536 + w0 ≤ k ∧ k < 65536 + w0 + n then 0 else Tab.get 0 k F.ecc) ∧
        WentOn F G ∧ G = { F with ast := G.ast, ecc := G.ecc, pc := G.pc, loops := G.loops }

/-- The arithmetic of the vector unit (R171, R172): each lane of v[D] is the exact result of its flushed operands, rounded once; the bits of a NaN result are open. -/
def Obligations.VectorArithmeticResults : Prop :=
  ∀ (s : State) (f d a b c : Nat), d < 16 → a < 16 → b < 16 → c < 32 →
    let F := s.part.frond f
    let x := fun (r i : Nat) => opF32 (F.lane r i).toNat
    let k := opF32 (F.sr c).toNat
    ∀ e ∈ ([(.vadd d a b, fun i => (x a i).add (x b i)), (.vsub d a b, fun i => (x a i).add (x b i).negate),
        (.vmul d a b, fun i => (x a i).mul (x b i)), (.vfma d a b, fun i => ((x a i).mul (x b i)).add (x d i)),
        (.vscl d a c, fun i => (x a i).mul k), (.vofs d a c, fun i => (x a i).add k)] : List (FOp × (Nat → FV))),
      Runs s f e.1 fun G =>
        (∀ i < 32, HoldsF32 (e.2 i) (G.lane d i)) ∧ (∀ r i, r ≠ d → i < 32 → G.lane r i = F.lane r i) ∧
        WentOn F G ∧ G = { F with v := G.v, pc := G.pc, loops := G.loops }

/-- VMAX, VMIN, VRMAX and VRSUM (R171, R173): a NaN lane yields to the other operand, the larger or smaller of two numbers is chosen, and a reduction gives every lane the same result. -/
def Obligations.VectorSelectionAndReduction : Prop :=
  ∀ (s : State) (f d a b : Nat), d < 16 → a < 16 → b < 16 →
    let F := s.part.frond f
    let x := fun (r i : Nat) => flush32 (F.lane r i).toNat
    let below := fun (u v : Nat) => (readF32 u).lt (readF32 v) = true
    let goes := fun (op : FOp) (ok : (Nat → Nat) → Prop) => Runs s f op fun G =>
      ok (fun i => (G.lane d i).toNat) ∧ (∀ r i, r ≠ d → i < 32 → G.lane r i = F.lane r i) ∧
      WentOn F G ∧ G = { F with v := G.v, pc := G.pc, loops := G.loops }
    let one := fun (worse : Nat → Nat → Prop) (u v r : Nat) => (r = u ∨ r = v) ∧
      (isNan32 u = true → isNan32 v = false → r = v) ∧ (isNan32 v = true → isNan32 u = false → r = u) ∧
      (isNan32 u = false → isNan32 v = false → ¬ worse r u ∧ ¬ worse r v)
    goes (.vmax d a b) (fun y => ∀ i < 32, one below (x a i) (x b i) (y i)) ∧
    goes (.vmin d a b) (fun y => ∀ i < 32, one (fun u v => below v u) (x a i) (x b i) (y i)) ∧
    goes (.vrsum d a) (fun y => (∀ i < 32, y i = y 0) ∧
      HoldsF32 (treeSum ((List.range 32).map fun i => opF32 (F.lane a i).toNat)) (BitVec.ofNat 32 (y 0))) ∧
    (∀ j < 32, isNan32 (x a j) = false → (∀ i < 32, isNan32 (x a i) = false → ¬ below (x a j) (x a i)) →
      goes (.vrmax d a) (fun y => (∀ i < 32, y i = y 0) ∧ (∃ i < 32, y 0 = x a i) ∧ isNan32 (y 0) = false ∧
        ∀ i < 32, isNan32 (x a i) = false → ¬ below (y 0) (x a i)))

/-- The nonlinear functions (R171 to R173): each lane lies within the bound of its function; VRCP of ±0 is ±infinity, VLOG of 0 is −infinity, and VLOG and VRSQRT of a negative number are NaN. -/
def Obligations.NonlinearFunctionResults : Prop :=
  ∀ (s : State) (f d a : Nat), d < 16 → a < 16 →
    let F := s.part.frond f
    let goes := fun (op : FOp) (ok : Nat → Word → Prop) => Runs s f op fun G =>
      (∀ i < 32, ok i (G.lane d i)) ∧ (∀ r i, r ≠ d → i < 32 → G.lane r i = F.lane r i) ∧
      WentOn F G ∧ G = { F with v := G.v, pc := G.pc, loops := G.loops }
    (∀ e ∈ ([(.vexp d a, exp32), (.vlog d a, log32), (.vtanh d a, tanh32), (.vsigm d a, sigm32),
        (.vrcp d a, rcp32), (.vrsqrt d a, rsqrt32), (.vsilu d a, silu32)] : List (FOp × (FV → Approx))),
      goes e.1 fun i y => HoldsApprox (e.2 (opF32 (F.lane a i).toNat)) y) ∧
    goes (.vrcp d a) (fun i y => (F.lane a i = 0 → y = 0x7F800000) ∧ (F.lane a i = 0x80000000 → y = 0xFF800000)) ∧
    goes (.vlog d a) (fun i y => (F.lane a i = 0 → y = 0xFF800000) ∧
      (0x80800000 ≤ (F.lane a i).toNat → (F.lane a i).toNat ≤ 0xFF800000 → isNan32 y.toNat = true)) ∧
    goes (.vrsqrt d a) (fun i y =>
      0x80800000 ≤ (F.lane a i).toNat → (F.lane a i).toNat ≤ 0xFF800000 → isNan32 y.toNat = true)

/-- VUNPK and VPACK (R174, R175): part p moves its elements between the token and the lanes, each converted; the other lanes, and the other elements of a 64-element token, stay. -/
def Obligations.TokenConversions : Prop :=
  ∀ (s : State) (f d a fmt part : Nat), d < 16 → a < 16 → fmt < 8 →
    let F := s.part.frond f
    let per := 256 / elemBits fmt
    let elem := fun (i : Nat) => if 32 ≤ per then 32 * part + i else i - per * part
    let moved := fun (i : Nat) => 32 ≤ per ∨ (per * part ≤ i ∧ i < per * part + per)
    part < (if 32 ≤ per then per / 32 else 32 / per) →
    Runs s f (.vunpk d a fmt part) (fun G =>
      (∀ i < 32, moved i → let x := elemAt fmt (F.tr a).toNat (elem i)
        let y := G.lane d i
        if fmt = 6 then y = BitVec.ofNat 32 x
        else match readElem fmt x with
          | .nan => isNan32 y.toNat = true
          | .inf n => y = BitVec.ofNat 32 (FV.inf n).toF32
          | .num n m e => y = BitVec.ofNat 32 (writeF32 n m e)) ∧
      (∀ r i, i < 32 → (r ≠ d ∨ ¬ moved i) → G.lane r i = F.lane r i) ∧
      WentOn F G ∧ G = { F with v := G.v, pc := G.pc, loops := G.loops }) ∧
    Runs s f (.vpack d a fmt part) (fun G =>
      (∀ i < 32, moved i → let y := elemAt fmt (G.tr d).toNat (elem i)
        match convElem fmt (F.lane a i).toNat with
        | some x => y = x % 2 ^ elemBits fmt
        | none => (readElem fmt y).isNan = true) ∧
      (∀ k < per, (∀ i < 32, moved i → k ≠ elem i) → elemAt fmt (G.tr d).toNat k = elemAt fmt (F.tr d).toNat k) ∧
      (∀ r, r ≠ d → G.tr r = F.tr r) ∧
      WentOn F G ∧ G = { F with t := G.t, pc := G.pc, loops := G.loops })

/-- MAC, ACCRD and ACCWR (R162 to R169, R175), where the weight words are good: each row adds the exact sum of its products to its accumulator, wrapping in an integer mode and rounded once in a floating-point mode; the accumulators move to and from lanes 0 to 31. -/
def Obligations.MatrixUnitResults : Prop :=
  ∀ (s : State) (f d a b acc rows cols words : Nat) (z inc int clr : Bool), d < 16 → a < 16 → b < 32 → acc < 64 →
    let F := s.part.frond f
    let wts := (List.range words).map fun i => F.word 0 (((F.sr b).toNat + i) % 49152)
    let group := joinWords wts
    let act := (F.tr a).toNat
    (macShape F.wfmt F.afmt = some (rows, cols, words, int) → acc + rows ≤ 64 →
      (∀ i < words, F.eccAt 0 (((F.sr b).toNat + i) % 49152) = 0) →
      Runs s f (.mac a b acc z inc) fun G =>
        (∀ r < rows, if int then
            G.accr (acc + r) = BitVec.ofInt 32 ((if z then 0 else (F.accr (acc + r)).toInt) +
              ((List.range cols).map fun c => intElem F.wfmt (elemAt F.wfmt group (r * cols + c)) * intElem F.afmt (elemAt F.afmt act c)).sum)
          else HoldsF32 ((if z then FV.num false 0 0 else readF32 (F.accr (acc + r)).toNat).add
            (rowSum F.wfmt F.afmt cols words group act r)) (G.accr (acc + r))) ∧
        (∀ i < 64, ¬ (acc ≤ i ∧ i < acc + rows) → G.accr i = F.accr i) ∧
        ScalarSet F G b (if inc then F.sr b + BitVec.ofNat 32 words else F.sr b) ∧
        WentOn F G ∧ G = { F with acc := G.acc, s := G.s, pc := G.pc, loops := G.loops }) ∧
    ((acc = 0 ∨ acc = 32) →
      Runs s f (.accrd d acc clr) (fun G =>
        LanesSet F G d (fun i => if F.wfmt ≤ 1 then BitVec.ofNat 32 (readInt 32 0 (F.accr (acc + i)).toNat).toF32 else F.accr (acc + i)) ∧
        (∀ i < 64, G.accr i = if clr = true ∧ acc ≤ i ∧ i < acc + 32 then 0 else F.accr i) ∧
        WentOn F G ∧ G = { F with v := G.v, acc := G.acc, pc := G.pc, loops := G.loops }) ∧
      Runs s f (.accwr a acc) (fun G =>
        (∀ i < 64, G.accr i = if acc ≤ i ∧ i < acc + 32 then
            (if F.wfmt ≤ 1 then BitVec.ofNat 32 (toIntSat 32 (opF32 (F.lane a (i - acc)).toNat)) else F.lane a (i - acc)) else F.accr i) ∧
        WentOn F G ∧ G = { F with acc := G.acc, pc := G.pc, loops := G.loops }))

/-- RECV and RECVP (R104, R111, R113, R143, R156 to R158): the head token of queue Q is dequeued and its credit goes back; s[B] takes its kind and t[D] its payload, but EOS leaves t[D] alone and closes the stream, and POISON gives zero and sets poison state unless the read is poison-aware (shown while the hedge is not stalled; the time of its last token starts anew, R129). -/
def Obligations.StreamReads : Prop :=
  ∀ (s : State) (f d b q kind : Nat) (pay : Payload) (rest : List (Nat × Payload)) (aware : Bool),
    let op := if aware then .recvp d b q else .recv d b q
    FrondAt s f op → d < 16 → b < 32 → q < 16 → kind < 4 →
    let F := s.part.frond f
    let h := s.part.frondHedge f
    (F.queue q).toks = (kind, pay) :: rest → s.part.flag (FAB_STALL_STALLED h) = false →
    Answers (exec (frondInstr f op) s) fun t =>
      OnlyIn (s.counted f op) t (fun p p' => { p with fab := { p.fab with
        fronds := p'.fab.fronds, moved := p'.fab.moved, returns := p.fab.returns ++ [(h, (F.queue q).stream, f)] } }) ∧
      (∀ k, Tab.get 0 k t.part.fab.moved = if k = h then s.part.clock else Tab.get 0 k s.part.fab.moved) ∧
      (∀ g, g ≠ f → t.part.frond g = s.part.frond g) ∧
      (let G := t.part.frond f
       let poisons := kind = 2 ∧ aware = false
       let others := F.closedIn.filter (· != q)
       G.queue q = { F.queue q with toks := rest } ∧ (∀ r, r ≠ q → G.queue r = F.queue r) ∧
       ScalarSet F G b (BitVec.ofNat 32 kind) ∧
       (∀ r, G.tr r = if r = d ∧ kind ≠ 1 then (if poisons then 0 else pay) else F.tr r) ∧
       G.closedIn = (if kind = 1 then q :: others else others) ∧
       (poisons → F.poison = none → G.poison = some pay ∧ G.seen = true ∧
         G.eosWait = upTo 16 fun r => (F.queue r).bound && !others.contains r) ∧
       (poisons → F.poison.isSome = true → G.poison = F.poison ∧ G.seen = F.seen ∧ G.eosWait = F.eosWait) ∧
       (kind = 1 → G.eosWait = F.eosWait.filter (· != q) ∧ G.seen = F.seen ∧
         G.poison = if G.eosWait = [] then none else F.poison) ∧
       (kind ≠ 1 → ¬ poisons → G.poison = F.poison ∧ G.seen = F.seen ∧ G.eosWait = F.eosWait) ∧
       WentOn F G ∧
       G = { F with queues := G.queues, s := G.s, t := G.t, closedIn := G.closedIn, poison := G.poison, seen := G.seen, eosWait := G.eosWait, pc := G.pc, loops := G.loops })

/-- SEND, SENDEOS, SENDPSN and EVT (R91, R102, R112, R143, R156, R161, R176): one token of the slot's stream leaves with the frond's hedge, using one credit; in poison state a DATA token leaves as the POISON that set it; an EOS closes the output stream, and DATA or POISON opens it (shown while the hedge is not stalled). The port that the token enters is the model's `Part.sendPort` (DESIGN CHOICE, notes/assumptions/81.md); an EVENT enters at the frond's crossbar port. -/
def Obligations.StreamSends : Prop :=
  ∀ (s : State) (f a b c q code : Nat), a < 16 → b < 32 → c < 32 → q < 16 → code < 64 →
    let F := s.part.frond f
    let h := s.part.frondHedge f
    let st := (F.slot q).stream
    1 ≤ (s.part.stream h st).credit → s.part.flag (FAB_STALL_STALLED h) = false →
    let closed := if F.closedOut.contains q then F.closedOut else q :: F.closedOut
    let opened := F.closedOut.filter (· != q)
    let data := match F.poison with
      | some pp => (2, pp)
      | none => (0, F.tr a)
    let psn := 0x04 + f * 2 ^ 8 + (F.sr b).toNat * 2 ^ 32 + (F.sr c).toNat * 2 ^ 64
    let evt := code + f * 2 ^ 16 + (F.sr b).toNat * 2 ^ 32 + (F.sr c).toNat * 2 ^ 64
    ∀ e ∈ ([(.send a q, .hedge, data, opened), (.sendeos q, .hedge, (1, 0), closed),
        (.sendpsn b c q, .hedge, (2, BitVec.ofNat 256 psn), opened),
        (.evt b c q code, .toHub, (4, BitVec.ofNat 256 evt), F.closedOut)] : List (FOp × Chan × (Nat × Payload) × List Nat)),
      FrondAt s f e.1 → Answers (exec (frondInstr f e.1) s) fun t =>
        let port := if e.2.1 = Chan.hedge then s.part.sendPort f st else f % 64
        OnlyIn (s.counted f e.1) t (fun p p' => { p with
          dbg := (p.profile (f / 64) fun c => { c with sent := Tab.upd 0 (f / 64) (· + 1) c.sent }).dbg
          fab := { p.fab with
            fronds := p'.fab.fronds, streams := p'.fab.streams, moved := p'.fab.moved
            flight := p.fab.flight ++ [{ b := f / 64, port := port, ch := e.2.1, tok := ⟨h, st, e.2.2.1.1, e.2.2.1.2⟩ }] } }) ∧
        (∀ k, Tab.get 0 k t.part.fab.moved = if k = h then s.part.clock else Tab.get 0 k s.part.fab.moved) ∧
        (∀ g, g ≠ f → t.part.frond g = s.part.frond g) ∧
        (∀ k, Tab.get {} k t.part.fab.streams = if k = skey h st then
          { s.part.stream h st with credit := (s.part.stream h st).credit - 1 } else Tab.get {} k s.part.fab.streams) ∧
        (let G := t.part.frond f
         WentOn F G ∧ G = { F with closedOut := e.2.2.2, pc := G.pc, loops := G.loops })

/-- FWD and waiting (R112, R148, R159 to R161): one indivisible action takes the head token of queue Q and sends it on the slot; s[D] takes its kind; a POISON token sets poison state (shown while the hedge is not stalled). A stream or event instruction that must wait leaves everything as it was but that the frond waits, and STREAM_WAIT_RESUME completes it once its token or credit is there. -/
def Obligations.ForwardsAndWaits : Prop :=
  (∀ (s : State) (f d q o kind : Nat) (pay : Payload) (rest : List (Nat × Payload)),
    FrondAt s f (.fwd d q o) → d < 32 → q < 16 → o < 16 → kind < 4 →
    let F := s.part.frond f
    let h := s.part.frondHedge f
    let st := (F.slot o).stream
    (F.queue q).toks = (kind, pay) :: rest → 1 ≤ (s.part.stream h st).credit → s.part.flag (FAB_STALL_STALLED h) = false →
    let sent := match F.poison with
      | some pp => if kind = 0 then (2, pp) else (kind, pay)
      | none => (kind, pay)
    Answers (exec (.fFwd f d q o) s) fun t =>
      OnlyIn (s.counted f (.fwd d q o)) t (fun p p' => { p with
        dbg := (p.profile (f / 64) fun c => { c with sent := Tab.upd 0 (f / 64) (· + 1) c.sent }).dbg
        fab := { p.fab with
          fronds := p'.fab.fronds, streams := p'.fab.streams, moved := p'.fab.moved
          returns := p.fab.returns ++ [(h, (F.queue q).stream, f)]
          flight := p.fab.flight ++ [{ b := f / 64, port := s.part.sendPort f st, ch := .hedge, tok := ⟨h, st, sent.1, sent.2⟩ }] } }) ∧
      (∀ g, g ≠ f → t.part.frond g = s.part.frond g) ∧
      (∀ k, Tab.get {} k t.part.fab.streams = if k = skey h st then
        { s.part.stream h st with credit := (s.part.stream h st).credit - 1 } else Tab.get {} k s.part.fab.streams) ∧
      (let G := t.part.frond f
       G.queue q = { F.queue q with toks := rest } ∧ (∀ r, r ≠ q → G.queue r = F.queue r) ∧
       ScalarSet F G d (BitVec.ofNat 32 kind) ∧
       (kind = 2 → F.poison = none → G.poison = some pay ∧ G.seen = true) ∧
       (kind = 0 ∨ kind = 3 → G.poison = F.poison ∧ G.seen = F.seen) ∧
       G.tr = F.tr ∧ G.lane = F.lane ∧ G.accr = F.accr ∧ G.word = F.word ∧ WentOn F G)) ∧
  (∀ (s : State) (f : Nat) (op : FOp),
    (FrondAt s f op → s.part.mustWait f op = true →
      Answers (exec (frondInstr f op) s) fun t => OnlyFrond s t f ∧ t.part.frond f = { s.part.frond f with wait := some op }) ∧
    (isFrond f → (s.part.frond f).running = true → (s.part.frond f).halted = false → (s.part.frond f).owed = [] →
      (s.part.frond f).wait = some op →
      let s' : State := { s with dev := { s.dev with p := s.part.updFrond f fun F => { F with wait := none } } }
      FrondAt s' f op →
      (s.part.mustWait f op = true → exec (.fStreamWaitResume f) s = .next s) ∧
      (s.part.mustWait f op = false →
        exec (.fStreamWaitResume f) s = exec (frondInstr f op) s' ∧ ∃ t, exec (.fStreamWaitResume f) s = .next t)))

/-- START, STOP and the program store (R85, R86, R88, R139, R141, R142): a start clears the registers of a stopped frond and keeps its stores, a running frond ignores it, and so does one whose program store awaits its reload; a stop abandons what the frond waits for; the program store of a frond that runs and is not debug-halted is not written, and STATE (0x06) is reported. A fetch of a correctable word corrects, writes back and counts it, and the instruction runs; an uncorrectable word raises FAB_PROG_UE and stops the frond, whose instruction has no effect and which no start runs again before its program store was written (shown for a frond with no open output stream). That one word written counts as the reload is the model's reading (DEDUCED, notes/assumptions/84.md). -/
def Obligations.FrondStartStopAndProgramStore : Prop :=
  (∀ (s : State) (f word : Nat) (v : Dword), isFrond f → word < 2048 →
    let F := s.part.frond f
    Answers (exec (.startToken f) s) (fun t => OnlyFrond s t f ∧
      (let G := t.part.frond f
       if F.running = true ∨ F.needLoad = true then G = F
       else G.running = true ∧ G.halted = false ∧ G.pc = 0 ∧ G.loops = [] ∧ G.wait = none ∧ G.poison = none ∧ G.seen = F.seen ∧ G.wfmt = 0 ∧ G.afmt = 0 ∧
         G.closedIn = [] ∧ G.closedOut = [] ∧ (∀ r, G.sr r = 0) ∧ (∀ r, G.tr r = 0) ∧ (∀ r i, G.lane r i = 0) ∧ (∀ i, G.accr i = 0) ∧
         (G.wst, G.ast, G.pst, G.ecc, G.queues, G.slots) = (F.wst, F.ast, F.pst, F.ecc, F.queues, F.slots))) ∧
    Answers (exec (.stopToken f) s) (fun t => OnlyFrond s t f ∧
      t.part.frond f = if F.running then { F with running := false, halted := false, wait := none, owed := [] } else F) ∧
    (F.running = false ∨ F.halted = true → Answers (exec (.programStoreWrite f word v) s) fun t => OnlyFrond s t f ∧
      (let G := t.part.frond f
       G.word 2 word = v ∧ G.eccAt 2 word = 0 ∧ (∀ w, w ≠ word → G.word 2 w = F.word 2 w) ∧
       G = { F with pst := G.pst, ecc := G.ecc, needLoad := false })) ∧
    (F.running = true → F.halted = false → exec (.programStoreWrite f word v) s =
      .next { s with dev := { s.dev with p := s.part.emit (.value 16 (f * 2048 + word) 0x06) } })) ∧
  (∀ (s : State) (f : Nat) (op : FOp), isFrond f → (s.part.frond f).ready = true →
    let F := s.part.frond f
    let fixed : State := { s with dev := { s.dev with p :=
      (s.part.updFrond f fun F => F.setWord 2 F.pc (F.word 2 F.pc)).incS (FAB_CE (f / 64)) } }
    (F.eccAt 2 F.pc = 1 → finstr (F.word 2 F.pc) = some op →
      exec (frondInstr f op) s = exec (frondInstr f op) fixed ∧ FrondAt fixed f op) ∧
    (F.eccAt 2 F.pc = 2 → (∀ q < 16, (F.slot q).bound = false ∨ q ∈ F.closedOut) →
      Answers (exec (frondInstr f op) s) fun t =>
        t.part = ((s.part.updFrond f fun F => { F with needLoad := true }).raiseBoth (0x0100 + f / 64) 0x0104
          (s.part.frondHedge f) noDetail).updFrond f (fun F => { F with owed := [], running := false, wait := none }) ∧
        OnlyPart s t ∧ Answers (exec (.startToken f) t) fun u => OnlyFrond t u f ∧ u.part.frond f = t.part.frond f))

/-- ROUTER_TOKEN and CREDIT_RETURN (R95, R99, R100, R101, R104, R107, R109, R116, R220): the first token of a stream at a port whose route entry names one frond, one neighbour or the slice port of the hedge's own brackens goes there when that output grants its port, one on the way to the hub goes south, and one from a neighbouring frond's port meets its frond; the output turns to the next port and a mesh link to its other channel; nothing else moves (shown while no trace or profile runs and the hedge is not stalled). A token that is not the first of its stream there, or whose output grants another port, stays. The producer of a stream gains one credit only when every destination has returned one (shown where no gateway route and no schedule waits for credit). -/
def Obligations.TokensAndCreditsMove : Prop :=
  (∀ (s : State) (b port i q : Nat) (ch : Chan) (tok : Tok), b < 64 →
    let e : Flight := { b := b, port := port, ch := ch, tok := tok }
    s.part.headAt b port tok.hedge tok.stream = some e → kindAllowed b port tok.kind ch = true →
    s.part.dbg.trace = none → s.part.dbg.profile = none → s.part.flag (FAB_STALL_STALLED tok.hedge) = false →
    let gone := s.part.fab.flight.erase e
    let turned := fun (t : State) (o : Nat) =>
      (∀ k, Tab.get 0 k t.part.fab.turns = if k = 64 * b + o then (port + 1) % 53 else Tab.get 0 k s.part.fab.turns) ∧
      ∀ k, Tab.get 0 k t.part.fab.links = if 48 ≤ o ∧ o < 52 ∧ k = 4 * b + (o - 48) then 1
        else if 54 ≤ o ∧ k = 4 * b + (o - 54) then 0 else Tab.get 0 k s.part.fab.links
    let meets := fun (t : State) (x : Nat) =>
      (∀ g, g ≠ 64 * b + x → t.part.frond g = s.part.frond g) ∧
      (let F := s.part.frond (64 * b + x)
       let G := t.part.frond (64 * b + x)
       (G.queue q).toks = (F.queue q).toks ++ [(tok.kind, tok.pay)] ∧ (∀ r, r ≠ q → G.queue r = F.queue r) ∧
       G = { F with queues := G.queues })
    (ch = .hedge → i < 48 → port < 53 → s.part.route b tok.stream = some (2 ^ i) → s.part.grants b i port = true →
      s.part.ownsBrk tok.hedge b = true → s.part.queueFor (64 * b + i) tok.stream = some q →
      Answers (exec (.routerToken b port ch tok) s) fun t =>
        OnlyIn s t (fun p p' => { p with fab := { p.fab with flight := gone, fronds := p'.fab.fronds, turns := p'.fab.turns } }) ∧
        turned t i ∧ meets t i) ∧
    (i < 48 → port / 4 = 16 + i → s.part.ownsBrk tok.hedge b = true → s.part.queueFor (64 * b + i) tok.stream = some q →
      Answers (exec (.routerToken b port ch tok) s) fun t =>
        OnlyIn s t (fun p p' => { p with fab := { p.fab with flight := gone, fronds := p'.fab.fronds } }) ∧ meets t i) ∧
    (ch = .hedge → i < 4 → port < 53 → s.part.route b tok.stream = some (2 ^ (48 + i)) → s.part.grants b (48 + i) port = true →
      ∀ c, neighbour b i = some c → s.part.ownsBrk tok.hedge c = true →
      Answers (exec (.routerToken b port ch tok) s) fun t =>
        OnlyIn s t (fun p p' => { p with fab := { p.fab with
          flight := gone ++ [{ b := c, port := enterPort i, ch := .hedge, tok := tok }], turns := p'.fab.turns, links := p'.fab.links } }) ∧
        turned t (48 + i)) ∧
    (ch = .hedge → port < 53 → s.part.route b tok.stream = some (2 ^ 52) → s.part.grants b 52 port = true →
      Answers (exec (.routerToken b port ch tok) s) fun t =>
        OnlyIn s t (fun p p' => { p with fab := { p.fab with flight := gone, turns := p'.fab.turns }, slc := { p.slc with inq := p'.slc.inq } }) ∧
        turned t 52 ∧
        ∀ k, t.part.inq k = if k = qkey (b / 8) tok.hedge tok.stream then s.part.inq k ++ [⟨b, tok.kind, tok.pay⟩] else s.part.inq k) ∧
    (ch = .toHub → port < 53 → s.part.grants b 56 port = true →
      Answers (exec (.routerToken b port ch tok) s) fun t =>
        OnlyIn s t (fun p p' => { p with fab := { p.fab with
          flight := gone ++ [{ b := if b / 8 = 7 then 64 + b % 8 else b + 8, port := 48, ch := .toHub, tok := tok }]
          turns := p'.fab.turns, links := p'.fab.links } }) ∧
        turned t 56) ∧
    ((ch = .hedge ∧ s.part.route b tok.stream = some (2 ^ i) ∧ i < 53 ∧ s.part.grants b i port = false) ∨
        (ch = .toHub ∧ s.part.grants b 56 port = false) → port < 53 →
      exec (.routerToken b port ch tok) s = .next s)) ∧
  (∀ (s : State) (b port : Nat) (ch : Chan) (tok : Tok),
    (∀ e, s.part.headAt b port tok.hedge tok.stream = some e → e.ch ≠ ch ∨ e.tok ≠ tok) →
    exec (.routerToken b port ch tok) s = .next s) ∧
  (∀ (s : State) (h stream dest : Nat), s.part.fab.returns.contains (h, stream, dest) = true →
    s.part.fab.gw = [] → s.part.slc.windows = [] →
    let c := s.part.stream h stream
    let back := fun (e : Nat) => Tab.get 0 e c.returned + if e = dest then 1 else 0
    Answers (exec (.creditReturn h stream dest) s) fun t =>
      OnlyIn s t (fun p p' => { p with fab := { p.fab with
        returns := p.fab.returns.erase (h, stream, dest), streams := p'.fab.streams } }) ∧
      (∀ k, k ≠ skey h stream → Tab.get {} k t.part.fab.streams = Tab.get {} k s.part.fab.streams) ∧
      (let c' := t.part.stream h stream
       c'.dests = c.dests ∧
       ((∃ e ∈ c.dests, back e = 0) → c'.credit = c.credit ∧ ∀ e, Tab.get 0 e c'.returned = back e) ∧
       ((∀ e ∈ c.dests, 1 ≤ back e) → c.dests.Nodup → c'.credit = c.credit + 1 ∧
         ∀ e, Tab.get 0 e c'.returned = if e ∈ c.dests then back e - 1 else back e)))

/-- HUB_TOKEN (R35, R107, R116, R123 to R125, R348, R605): the first token of its stream in its column waits at the queue or the port that the hub table names, becomes the loop variable, or is an event of its hedge's ring; a stream without a hub entry is dropped with its credit; any other token stays (shown where the part is no twin and the hedge is not stalled). FAB_HEDGE_STALL (R129): a watched hedge no token of whose fronds moved for its limit, with a frond that waits, is marked stalled and its stall raised, and nothing else; a hedge that is not watched or that is stalled already is left alone. GW_ROUTE_WRITE and GW_CONFLICT_CLEAR (R119, R121, R137): a route that would enable a bracken its hedge does not own is ignored, and channels that the hedge does not own are masked off; a conflict clears where a 1 is written and the part sets none at once (R12). The detail of the stall is the model's layout (DEDUCED, notes/assumptions/87.md). -/
def Obligations.HubGatewayAndStall : Prop :=
  (∀ (s : State) (c : Nat) (tok : Tok),
    (∀ e, s.part.headAt (64 + c) 48 tok.hedge tok.stream = some e → e.tok ≠ tok) → exec (.hubToken c tok) s = .next s) ∧
  (∀ (s : State) (k c q : Nat) (tok : Tok), k < 8 → c < 8 →
    let e : Flight := { b := 64 + c, port := 48, ch := .toHub, tok := tok }
    let h := tok.hedge
    let key := skey h tok.stream
    let dst := Tab.get HubDest.none key s.part.fab.hub
    s.part.headAt (64 + c) 48 h tok.stream = some e → s.part.fg TWN_STATUS_MODE = 0 → s.part.flag (FAB_STALL_STALLED h) = false →
    let gone : Part := { s.part with fab := { s.part.fab with flight := s.part.fab.flight.erase e } }
    let freed := gone.addReturn h tok.stream hubDest
    let settled := fun (p : Part) => exec (.hubToken c tok) s = .next { s with dev := Dev.settle { s.dev with p := p } }
    (tok.kind ≤ 2 → dst = .port k → s.part.portOwner k = some h → settled { gone with
      den := { gone.den with framers := Tab.upd {} (k + 1) (fun f => { f with txq := f.txq ++ [tok] }) gone.den.framers } }) ∧
    (tok.kind ≤ 2 → dst = .queue q → (s.part.qp q).exist = true → (s.part.qp q).owner = some h → settled { gone with
      fab := { gone.fab with hubWait := Tab.put [] key (Tab.get [] key gone.fab.hubWait ++ [(tok.kind, tok.pay)]) gone.fab.hubWait } }) ∧
    (tok.kind = 0 → dst = .loop → s.part.loopOwner = some h → s.part.hs.br.lv = none → settled { freed with
      hs := { freed.hs with br := { freed.hs.br with lv := some (tok.pay.extractLsb' 0 32).toNat } } }) ∧
    (tok.kind = 4 → settled (freed.raise (0x0180 + h) (0x0180 + (tok.pay.extractLsb' 0 6).toNat) (some h) (tok.pay.extractLsb' 32 64).toNat [h])) ∧
    (tok.kind ≤ 2 → dst = .none → settled ((freed.incS (FAB_DROP (56 + c))).raiseBoth (0x0138 + c) 0x0108 h noDetail))) ∧
  (∀ (s : State) (h time f : Nat) (fs : List Nat), h < 16 →
    let p := s.part.at time
    let fires := p.fg (FAB_STALL_LIMIT h) ≠ 0 ∧ p.flag (FAB_STALL_STALLED h) = false ∧
      Tab.get 0 h p.fab.moved + 10000 * p.fg (FAB_STALL_LIMIT h) ≤ p.past + p.time
    (fires → p.waitingFronds h = f :: fs →
      Answers (exec (.fabHedgeStall h time) s) fun t => OnlyPart s t ∧ ∃ q,
        t.part = q.raiseBoth (0x0150 + h) 0x0106 h (f + p.waitStream f * 2 ^ 16) ∧
        RegsOnly p q (· = FAB_STALL h) ∧ q.fg (FAB_STALL_STALLED h) = 1 ∧ q.fg (FAB_STALL_STALL_SEEN h) = 1 ∧
        q.fg (FAB_STALL_LIMIT h) = p.fg (FAB_STALL_LIMIT h)) ∧
    (¬ fires ∨ p.waitingFronds h = [] → exec (.fabHedgeStall h time) s = toPart s p)) ∧
  (∀ (s : State) (k : Nat) (v : Dword) (bits coin : Word), k < 32 → s.part.available 11 = true → s.part.pfOpen = true →
    Answers (exec (.gwRouteWrite k v) s) (fun t =>
      if getBits v 32 1 = 1 ∧ s.part.ownsBrk (getBits v 36 4) (getBits v 48 6) = false then t = s
      else OnlyRegs s t (· = FAB_GW_ROUTE k) ∧
        t.part.fg (FAB_GW_ROUTE_ENABLE k) = getBits v 32 1 ∧ t.part.fg (FAB_GW_ROUTE_HEDGE k) = getBits v 36 4 ∧
        t.part.fg (FAB_GW_ROUTE_BRACKEN k) = getBits v 48 6 ∧
        ∀ i < 32, (t.part.reg (FAB_GW_ROUTE k)).getLsbD i =
          (v.getLsbD i && (s.part.hedge (getBits v 36 4)).channels.testBit i)) ∧
    Answers (exec (.gwConflictClear bits coin) s) (fun t =>
      OnlyIn s t (fun p p' => { p with regs := p'.regs, fab := { p.fab with conflicts := p'.fab.conflicts } }) ∧
      (∀ r, r ≠ FAB_GW_CONFLICT → t.part.reg r = s.part.reg r) ∧
      (∀ i < 32, (t.part.reg FAB_GW_CONFLICT).getLsbD i =
        (((s.part.reg FAB_GW_CONFLICT).getLsbD i && !bits.getLsbD i) || (bits.getLsbD i && coin.getLsbD i))) ∧
      ∀ e, e ∈ t.part.fab.conflicts ↔ e ∈ s.part.fab.conflicts ∧ (bits &&& ~~~coin).getLsbD e.1 = false))

/-- Every clear of a counter (R19, R21, R76, R136, R245, R292, R364, R386, R472, R511, R548, R589, R630, R723, R764): the counters that the row names read zero with SAT clear, or 1 where an increment falls in the same access, and no other register moves; while its block is not available, or PF0 takes no request, the row does nothing (R317, R329, R340). -/
def Obligations.CounterClears : Prop :=
  ∀ (s : State) (f n r k q page bits coin : Nat), n < 8 → r ≤ 16 → k ≤ 8 → f < 16 →
    let one := fun (reg : Nat) => [(reg, coin.testBit 0)]
    let each := fun (m : Nat) (reg : Nat → Nat) => (List.range m).map fun i => (reg i, coin.testBit i)
    let cleared := fun (l : List (Nat × Bool)) (t : State) =>
      OnlyRegs s t (fun x => ∃ e ∈ l, x = e.1) ∧ ∀ e ∈ l, t.part.reg e.1 = if e.2 then 1 else 0
    (∀ e ∈ ([(.clearFaults coin, 11, one TEL_VL_FAULTS), (.fabClrCe coin, 11, each 64 FAB_CE), (.fabClrUe coin, 11, each 64 FAB_UE),
        (.fabClrDrop coin, 11, (FAB_TEARDOWN_DROPS, coin.testBit 64) :: each 64 FAB_DROP), (.fabClrGw coin, 11, each 32 FAB_GW_OVERRUN),
        (.slcClrCe n coin, 12, one (SLC_CE n)), (.slcClrUe n coin, 12, one (SLC_UE n)), (.clrCorrupt n coin, 12, one (KVC_CORRUPT n)),
        (.clrFallback n coin, 12, one (KVC_FALLBACK n)), (.kvcClrFaults n coin, 12, one (KVC_REQ_FAULTS n)), (.atuClrFaults coin, 4, one ATU_FAULTS),
        (.hbrClrRfails coin, 5, one HBR_RFAILS), (.hbrClrWfails coin, 5, one HBR_WFAILS), (.pbrClrRfails coin, 5, one PBR_RFAILS),
        (.pbrClrWfails coin, 5, one PBR_WFAILS), (.clrLv coin, 5, one PBR_LV_REPLACED), (.clrViol coin, 13, each 16 DBG_VIOL),
        (.dbgClrLost coin, 13, one DBG_TRACE_LOST), (.clrMissed coin, 8, one SOR_TRIG_MISSED), (.clrRing coin, 8, each 4 SOR_RING_LOST),
        (.clrRejected coin, 9, one LCH_LV_REJECTED), (.clrHart coin, 9, one LCH_HART_ERRORS),
        (.frmClearWrite k bits coin, 7, (each 8 fun i => i).filterMap fun e => if bits.testBit e.1 then some (FRM_CNT k e.1, e.2) else none),
        (.twnClrLocalWrites coin, 7, one TWN_LOCAL_WRITES), (.twnClrResultDiscords coin, 7, one TWN_RESULT_DISCORDS)] : List (Instr × Nat × List (Nat × Bool))),
      (s.part.available e.2.1 = true → s.part.pfOpen = true → (e.2.1 = 8 → s.part.sor.rails = true) → Answers (exec e.1 s) (cleared e.2.2)) ∧
      (s.part.available e.2.1 = false ∨ s.part.pfOpen = false → exec e.1 s = .next s)) ∧
    (s.part.accessOpen f = true →
      (s.part.finds f 6 = true → (f = 0 ∨ f = r) → (r = 16 → f = 0) → Answers (exec (.clrLost f r coin) s) (cleared (one (EVT_LOST r)))) ∧
      (s.part.finds f 2 = true → s.part.dbPage f page = some q → (s.part.qp q).exist = true → (f = 0 → (s.part.qp q).owner = some 0) →
        Answers (exec (.dbClrFaults f page coin) s) (cleared (one (DB_FAULTS q)))))

/-- The operating point (R43 to R46, R53, R55 to R58, R74, R75), shown at service level PARTIAL or FULL with no guarded hedge: a write of BASE and CEIL glides to the new target and commands its nominal voltage; a READ_VOUT inside the window makes the target active; a retry glides again. -/
def Obligations.OperatingPointGlides : Prop :=
  ∀ (s : State) (base ceil mv : Nat), 1 ≤ base → base ≤ 5 → 1 ≤ ceil → ceil ≤ 5 →
    2 ≤ s.part.fg GBL_STATUS_SERVICE → (∀ h < 16, s.part.guarded h = false) →
    let p := s.part
    let target := min base ceil
    let same := fun (t : State) => OtherRegsStay s t (fun k => k = TEL_VL_CTRL ∨ k = TEL_VL_STATUS)
    (p.available 11 = true → p.pfOpen = true → p.flag TEL_VL_STATUS_GLIDING = false → p.vl.retrying = false →
      Answers (exec (.telVlCtrlWrite base ceil) s) fun t => same t ∧
        t.part.fg TEL_VL_CTRL_BASE = base ∧ t.part.fg TEL_VL_CTRL_CEIL = ceil ∧
        (if target = p.fg TEL_VL_STATUS_ACTIVE then t.part.out = p.out ∧ t.part.fg TEL_VL_STATUS_GLIDING = 0
         else t.part.out = p.out ++ [.pmbus 0x21 (nominalMv target)] ∧ t.part.fg TEL_VL_STATUS_GLIDING = 1 ∧
           t.part.fg TEL_VL_STATUS_TARGET = target ∧ t.part.fg TEL_VL_STATUS_ACTIVE = min (p.fg TEL_VL_STATUS_ACTIVE) target)) ∧
    (p.flag TEL_VL_STATUS_GLIDING = true → p.vl.retrying = false → p.targetPoint = p.fg TEL_VL_STATUS_TARGET →
      inWindow p.targetPoint mv = true →
      Answers (exec (.glideReadVout (some mv)) s) fun t => same t ∧
        t.part.fg TEL_VL_STATUS_ACTIVE = p.targetPoint ∧ t.part.fg TEL_VL_STATUS_GLIDING = 0 ∧
        t.part.vl.confirmed = p.targetPoint ∧ t.part.vl.vdd = mv ∧ t.part.vl.retryMs = 0 ∧ t.part.out = p.out) ∧
    (p.flag TEL_VL_STATUS_GLIDING = false → p.vl.retrying = true →
      Answers (exec (.glideRetry true) s) fun t => same t ∧
        t.part.fg TEL_VL_STATUS_GLIDING = 1 ∧ t.part.fg TEL_VL_STATUS_TARGET = p.targetPoint ∧
        t.part.fg TEL_VL_STATUS_ACTIVE = min (p.fg TEL_VL_STATUS_ACTIVE) p.targetPoint ∧
        t.part.vl.retrying = false ∧ t.part.out = p.out ++ [.pmbus 0x21 (nominalMv p.targetPoint)])

/-- The tempo monitors and the cadence guard (R49, R60 to R67, R70, R75 to R78): a gate writes each bracken's rate and its minimum, and doubles the waiting period of a guarded hedge whose deficit recurs within 256 gates of a lowering, the 256th included and the 257th not; a write of GATE or CLEAR_MIN clears VALID bits; FLOOR and ENABLE are taken; a required point falls by one after its waiting period; sixteen clean gates end a deficit; a sensor reading is shown. That a write of GATE leaves TEL_TEMPO_MIN alone, and how the hysteresis of the bands works, are the model's choices (notes/assumptions/78.md, notes/assumptions/77.md). -/
def Obligations.TempoMonitorAndCadenceGuard : Prop :=
  ∀ (s : State) (counts : List Nat) (gate h floor b : Nat) (enable : Bool) (temp : Int), h < 16 → b < 64 → gate ≤ 10 → floor < 65536 →
    let p := s.part
    let rate := fun b => counts.getD b 0 / 2 ^ p.fg TEL_TEMPO_CTRL_GATE
    ((∀ b < 64, rate b < 65536) → p.dbg.profile = none →
      Answers (exec (.tempoGateEnd counts) s) fun t => OnlyPart s t ∧ (∀ b < 64,
        t.part.fg (TEL_TEMPO_RATE b) = rate b ∧ t.part.fg (TEL_TEMPO_VALID b) = 1 ∧ t.part.fg (TEL_TEMPO_MIN_VALID b) = 1 ∧
        t.part.fg (TEL_TEMPO_MIN_MIN_RATE b) = if p.vl.clearMin then rate b else min (rate b) (p.fg (TEL_TEMPO_MIN_MIN_RATE b))) ∧
        (p.guarded h = true → p.flag (FAB_BRK_OWNER_OWNED b) = true → p.fg (FAB_BRK_OWNER_HEDGE b) = h → rate b < p.fg (TEL_CADENCE_FLOOR h) →
          (t.part.guard h).since = 257 ∧ (t.part.guard h).clean = 0 ∧ (t.part.guard h).toward = 0 ∧
          (t.part.guard h).period = if (p.guard h).since ≤ 255 then min 4096 (2 * (p.guard h).period) else (p.guard h).period) ∧
        (p.guarded h = false → (t.part.guard h).since = min 257 ((p.guard h).since + 1))) ∧
    (p.available 11 = true → p.pfOpen = true →
      Answers (exec (.tempoGateWrite gate) s) (fun t =>
        OnlyRegs s t (fun k => k = TEL_TEMPO_CTRL ∨ ∃ b < 64, k = TEL_TEMPO b) ∧ t.part.fg TEL_TEMPO_CTRL_GATE = gate ∧
        ∀ b < 64, t.part.fg (TEL_TEMPO_VALID b) = 0 ∧ t.part.fg (TEL_TEMPO_RATE b) = p.fg (TEL_TEMPO_RATE b)) ∧
      Answers (exec .clearMin s) (fun t => t.part.vl = { p.vl with clearMin := true } ∧
        OtherRegsStay s t (fun k => ∃ b < 64, k = TEL_TEMPO_MIN b) ∧
        ∀ b < 64, t.part.fg (TEL_TEMPO_MIN_VALID b) = 0 ∧ t.part.fg (TEL_TEMPO_MIN_MIN_RATE b) = p.fg (TEL_TEMPO_MIN_MIN_RATE b)) ∧
      Answers (exec (.cadenceFloorWrite h floor enable) s) (fun t =>
        OtherRegsStay s t (fun k => k = TEL_CADENCE h ∨ k = TEL_VL_STATUS) ∧
        t.part.fg (TEL_CADENCE_FLOOR h) = floor ∧ t.part.flag (TEL_CADENCE_ENABLE h) = enable ∧
        t.part.fg (TEL_CADENCE_DEFICIT h) = p.fg (TEL_CADENCE_DEFICIT h))) ∧
    (p.guarded h = true → (p.guard h).period ≤ (p.guard h).toward → p.staticPoint (p.fg (TEL_CADENCE_FLOOR h)) < (p.guard h).req →
      Answers (exec (.cadenceLower h) s) fun t => OtherRegsStay s t (· = TEL_VL_STATUS) ∧
        t.part = (p.updGuard h fun g => { g with req := g.req - 1, toward := 0, since := 0 }).vlSettle) ∧
    (p.flag (TEL_CADENCE_DEFICIT h) = true → 16 ≤ (p.guard h).clean →
      Answers (exec (.tempoRestored h) s) fun t => OnlyPart s t ∧ ∃ q, t.part = q.raiseBoth (0x0150 + h) 0x0111 h noDetail ∧
        RegsOnly p q (· = TEL_CADENCE h) ∧ q.fg (TEL_CADENCE_DEFICIT h) = 0 ∧
        q.fg (TEL_CADENCE_DEFICIT_SEEN h) = p.fg (TEL_CADENCE_DEFICIT_SEEN h)) ∧
    Answers (exec (.bandChange b temp) s) (fun t =>
      OtherRegsStay s t (fun k => k = TEL_TEMPO b ∨ k = TEL_VL_STATUS) ∧
      t.part.fg (TEL_TEMPO_TJ b) = (BitVec.ofInt 8 temp).toNat ∧ t.part.fg (TEL_TEMPO_RATE b) = p.fg (TEL_TEMPO_RATE b) ∧
      t.part.bandsAt b = bandsOf p.ep.suffixG temp ||| (p.bandsAt b &&& bandsNear p.ep.suffixG temp))

/-- BAR2_READ and BAR2_WRITE (R216 to R219, R482, R484 to R486, R496): an access that its plot map admits, to good memory that no AtomicOp holds, reads or stores exactly the bytes named; nothing else of the memory moves. An access that the map does not admit, or that meets a slice which is not UP, fails: a read completes with all ones or an Unsupported Request, and a write, or a poisoned write, stores nothing (shown where the access sets no OBSERVED bit). A read that must wait, for an AtomicOp's granule or for an earlier posted write of its function, is held. -/
def Obligations.Bar2Accesses : Prop :=
  (∀ (s : State) (f off len rid a : Nat) (bs : List Byte), f < 16 → s.part.accessOpen f = true →
    s.part.observeBar2 f off = s.part → s.part.bar2Check f off false = .inr a →
    (off + len ≤ s.part.bar2Entries f * 2 ^ 30 → PlainMem s.dev a len → 1 ≤ len → s.part.inboundRoom = true →
      (s.part.bar2ReadWaits f off len = false →
        exec (.bar2Read f off len rid) s = .next { s with dev := { s.dev with p := s.part.emit (.completion f 0 (s.dev.bytes a len)) } }) ∧
      (s.part.bar2ReadWaits f off len = true →
        exec (.bar2Read f off len rid) s = toPart s (s.part.holdReq (.read f off len rid)))) ∧
    (off + bs.length ≤ s.part.bar2Entries f * 2 ^ 30 → PlainMem s.dev a bs.length → bs ≠ [] → s.part.granWaits a bs.length = false →
      Answers (exec (.bar2Write f off bs false rid) s) fun t =>
        t.pending = s.pending ∧ Stored s.dev t.dev a bs ∧ t.part = { s.part with slc := { s.part.slc with ecc := t.part.slc.ecc } } ∧
        ∀ g, t.part.gran g = s.part.gran g)) ∧
  (∀ (s : State) (f off len rid reason : Nat) (bs : List Byte) (poisoned : Bool), f < 16 → s.part.accessOpen f = true →
    s.part.observeBar2 f off = s.part →
    (s.part.bar2Check f off false = .inl reason → off + len ≤ s.part.bar2Entries f * 2 ^ 30 → s.part.inboundRoom = true →
      s.part.bar2ReadWaits f off len = false →
      Answers (exec (.bar2Read f off len rid) s) fun t => OnlyPart s t ∧
        t.part.out.getLast? = some (if s.part.urMode f 1 then .completion f 1 [] else .completion f 0 (List.replicate len 0xFF))) ∧
    (s.part.bar2Check f off poisoned = .inl reason → off + bs.length ≤ s.part.bar2Entries f * 2 ^ 30 →
      Answers (exec (.bar2Write f off bs poisoned rid) s) fun t => OnlyPart s t))

/-- MEMORY_STREAM_READ and MEMORY_STREAM_WRITE (R211, R212, R220 to R223): a READ in progress reads its next granule whole, as far as it asks for it, and, its reply stream having one credit, sends the first 32 bytes as one DATA token on the system channel; a WRITE of its last 32 bytes stores the token's payload there, returns its credit and ends. -/
def Obligations.MemoryStreamsMoveData : Prop :=
  ∀ (s : State) (n h st : Nat) (r : SReq) (tok : SlTok), n < 8 → h < 16 → st < 256 →
    let k := qkey n h st
    let len := 64 - r.addr % 64
    s.part.isRelease n h st = false → s.part.slc.discard.contains k = false → s.part.sreq k = some r →
    s.part.sliceUp n = true → r.addr % 32 = 0 → s.part.granHeld r.addr 1 = false → s.part.flag (FAB_STALL_STALLED h) = false →
    (r.op = 1 → r.out = [] → 32 < r.left → r.left % 32 = 0 → PlainMem s.dev r.addr len → (s.part.stream h r.reply).credit = 1 →
      Answers (exec (.memoryStreamRead n h st) s) fun t =>
        OnlyIn s t (fun p p' => { p with fab := { p.fab with streams := p'.fab.streams, flight := p'.fab.flight }, slc := { p.slc with reqs := p'.slc.reqs } }) ∧
        (∃ b, t.part.fab.flight = s.part.fab.flight ++
          [{ b := b, port := 52, ch := .toBracken b, tok := ⟨h, r.reply, 0, bytesPay (s.dev.bytes r.addr 32)⟩ }]) ∧
        (t.part.stream h r.reply).credit = 0 ∧
        t.part.sreq k = some { r with
          addr := r.addr + len, left := r.left - len
          out := if r.addr % 64 = 0 then [(0, bytesPay (s.dev.bytes (r.addr + 32) 32))] else [] }) ∧
    (r.op = 2 → r.left = 32 → r.fin = false → r.buf = [] → PlainMem s.dev r.addr 32 → s.part.claimed n h st = false →
      s.part.inq k = [tok] → tok.kind = 0 →
      Answers (exec (.memoryStreamWrite n h st) s) fun t =>
        t.pending = s.pending ∧ Stored s.dev t.dev r.addr (payBytes tok.pay) ∧
        t.part.sreq k = none ∧ t.part.inq k = [] ∧ t.part.regs = s.part.regs ∧
        t.part.fab.returns = s.part.fab.returns ++ [(h, st, sliceDest n)])

/-- Weight schedules (R192 to R197, R199, R201): an entry starts in its frond's free buffer; a token of it, when it is its turn, puts 32 bytes of the plot into the frond's weight store, and the granule that it begins is read whole, so that its second token brings what the first read; a finished entry makes its buffer full and owes its ready token; a release token frees a full buffer. -/
def Obligations.WeightSchedulesFillBuffers : Prop :=
  ∀ (s : State) (n h i b st f : Nat) (e : SEntry) (a : SAct) (tok : SlTok) (rest : List SlTok) (bs : List Byte), n < 8 → h < 16 → st < 256 →
    let S := s.part.sched n h
    let w := s.part.window e.frond
    let own := S.ownOf e.frond
    let at' := e.addr + a.written
    let others := fun (t : State) => OnlyPart s t ∧ t.part.regs = s.part.regs ∧ t.part.fab.fronds = s.part.fab.fronds
    let loaded := fun (t : State) (data : List Byte) (half : Option (List Byte)) =>
      t.pending = s.pending ∧ t.dev.mem = s.dev.mem ∧ t.part.regs = s.part.regs ∧
      (∀ g, g ≠ e.frond → t.part.frond g = s.part.frond g) ∧
      t.part.sched n h = { S with active := Tab.put none i (some { a with written := a.written + 32, half := half }) S.active } ∧
      (let w0 := w.base + e.buffer * w.words + a.written / 8
       ∀ j, (t.part.frond e.frond).word 0 j = if w0 ≤ j ∧ j < w0 + 4 then
         BitVec.ofNat 64 (leNat ((data.drop (8 * (j - w0))).take 8)) else (s.part.frond e.frond).word 0 j) ∧
      (Tab.get (0, 0) n t.part.slc.turns).1 = 8192 * h + i
    (S.entries[i]? = some e → own[w.next]? = some i → Tab.get 0 e.buffer w.state = 0 →
      Answers (exec (.scheduleEntryStart n h i) s) fun t => others t ∧
        t.part.sched n h = { S with active := Tab.put none i (some { written := 0, pass := w.pass, bad := none }) S.active } ∧
        (let w' := t.part.window e.frond
         (∀ j, Tab.get 0 j w'.state = if j = e.buffer then 1 else Tab.get 0 j w.state) ∧
         (w.next + 1 < own.length → w'.next = w.next + 1 ∧ w'.pass = w.pass) ∧
         (own.length ≤ w.next + 1 → w'.next = 0 ∧ w'.pass = (w.pass + 1) % 2 ^ 32))) ∧
    (S.entries[i]? = some e → Tab.get none i S.active = some a → a.written + 32 ≤ e.len → (e.len - a.written) % 32 = 0 → at' % 32 = 0 → a.bad = none →
      s.part.servedEntry n = some (8192 * h + i) → s.part.flag (FAB_STALL_STALLED h) = false →
      (a.half = none → s.part.sliceUp n = true → s.part.plotOwner (at' / 2 ^ 30) = some h → s.part.granHeld at' 1 = false →
        PlainMem s.dev at' (min (e.len - a.written) (64 - at' % 64)) →
        Answers (exec (.scheduleDataToken n h i) s) fun t => loaded t (s.dev.bytes at' 32)
          (if at' % 64 = 0 ∧ 64 ≤ e.len - a.written then some (s.dev.bytes (at' + 32) 32) else none)) ∧
      (a.half = some bs → bs.length = 32 → Answers (exec (.scheduleDataToken n h i) s) fun t => loaded t bs none)) ∧
    (S.entries[i]? = some e → Tab.get none i S.active = some a → e.len ≤ a.written → a.bad = none →
      (s.part.stream (s.part.frondHedge e.frond) w.ready).credit = 0 →
      Answers (exec (.scheduleEntryDone n h i) s) fun t => others t ∧
        t.part.sched n h = { S with active := Tab.put none i none S.active } ∧
        (let w' := t.part.window e.frond
         Tab.get 0 e.buffer w'.state = 2 ∧
         w'.owed = w.owed ++ (0, wordsPay [e.buffer, i, a.pass]) :: if own.getLast? = some i then [(1, 0)] else [])) ∧
    (s.part.releaseFrond n h st = some f → s.part.inq (qkey n h st) = tok :: rest → tok.kind = 0 → payWord tok.pay 0 = b →
      b < (s.part.window f).buffers → Tab.get 0 b (s.part.window f).state = 2 →
      Answers (exec (.bufferRelease n h st) s) fun t => others t ∧
        t.part.inq (qkey n h st) = rest ∧ (h, st, sliceDest n) ∈ t.part.fab.returns ∧
        ∀ j, Tab.get 0 j (t.part.window f).state = if j = b then 0 else Tab.get 0 j (s.part.window f).state)

/-- Slice upkeep (R17, R217, R227, R231, R233 to R235, R237, R241 to R243, R496): a scrub corrects a correctable granule and counts it; a page of a stale plot is filled; a temperature is shown, HOT above 95 °C, and MEM_HOT raised as it becomes so; a plot-map entry of a VF takes a plot that its hedge owns and no other; a lost slice is DOWN, and one that retrains is UP. -/
def Obligations.SliceUpkeep : Prop :=
  ∀ (s : State) (n g v e plot page t : Nat) (temp : Int) (valid : Bool), n < 8 → v < 16 → 1 ≤ v → e < 16 →
    let G := n * 36 * 2 ^ 24 + g
    let p := s.part
    (p.sliceUp n = true → p.flag (SLC_SCRUB_ENABLE n) = true → g < 36 * 2 ^ 24 → p.unfilled (64 * G) = false → p.gran G = 1 →
      p.granHeld (64 * G) 64 = false → p.fg ⟨SLC_CE n, 0, 31⟩ + 2 < 2 ^ 31 →
      Answers (exec (.scrubRead n g) s) fun t => OnlyPart s t ∧
        (∀ x, t.part.gran x = if x = G then 0 else p.gran x) ∧ t.part.fg ⟨SLC_CE n, 0, 31⟩ = p.fg ⟨SLC_CE n, 0, 31⟩ + 1) ∧
    (plot < 288 → page < 2 ^ 18 → p.sliceUp (plot / 36) = true → p.flag (SLC_PLOT_STALE plot) = true →
      p.granHeld (plot * 2 ^ 30 + page * 4096) 4096 = false →
      (Tab.get [] plot p.slc.filled).contains page = false → (Tab.get [] plot p.slc.filled).length + 1 < 2 ^ 18 →
      Answers (exec (.stalePageFill plot page) s) fun t => OnlyPart s t ∧ t.part.regs = p.regs ∧
        (∀ j, Tab.get [] j t.part.slc.filled = if j = plot then page :: Tab.get [] plot p.slc.filled else Tab.get [] j p.slc.filled) ∧
        (∀ x, x / 64 = plot * 2 ^ 18 + page → t.part.gran x = 0) ∧
        (∀ x, x / 64 ≠ plot * 2 ^ 18 + page → t.part.gran x = p.gran x)) ∧
    (∀ i ∈ ([.memHot n temp, .stackTemperatureChange n temp] : List Instr),
      let hot := decide (95 < temp)
      Answers (exec i s) fun t => OnlyPart s t ∧ ∃ q : Part, RegsOnly p q (· = SLC_STATUS n) ∧
        q.fg (SLC_STATUS_TEMP n) = (BitVec.ofInt 8 temp).toNat ∧ q.flag (SLC_STATUS_HOT n) = hot ∧
        q.fg (SLC_STATUS_STATE n) = p.fg (SLC_STATUS_STATE n) ∧
        t.part = if hot = true ∧ p.flag (SLC_STATUS_HOT n) = false then q.raiseOp (0x0200 + n) 0x0205 none noDetail else q) ∧
    (p.available 12 = true → p.pfOpen = true → plot < 288 →
      Answers (exec (.pmapVfWrite v e plot valid) s) fun t =>
        if p.plotOwner plot = some v then
          OnlyRegs s t (· = (SLC_PMAP_VF_PLOT v e).reg) ∧ t.part.fg (SLC_PMAP_VF_PLOT v e) = plot ∧
          t.part.flag (SLC_PMAP_VF_VALID v e) = valid
        else t = s) ∧
    (p.sliceUp n = true → Answers (exec (.memSliceDown n) s) fun t => OnlyPart s t ∧
      t.part.fg (SLC_STATUS_STATE n) = 0 ∧ t.part.fg ⟨GBL_STATUS, 24 + n, 1⟩ = 1 ∧ Tab.get 0 n t.part.slc.backoff = 100) ∧
    (p.fg (SLC_STATUS_STATE n) = 0 → Tab.get 0 n p.slc.backoff ≠ 0 →
      Answers (exec (.sliceRetrain t n true) s) (fun t => t.pending = s.pending ∧
        t.part.fg (SLC_STATUS_STATE n) = 2 ∧ t.part.fg ⟨GBL_STATUS, 24 + n, 1⟩ = 0 ∧ Tab.get 0 n t.part.slc.backoff = 0 ∧
        ∀ j, 36 * n ≤ j → j < 36 * n + 36 → t.part.flag (SLC_PLOT_STALE j) = true ∧ ∀ x, x / 2 ^ 30 = j → t.dev.byte x = 0) ∧
      Answers (exec (.sliceRetrain t n false) s) (fun t => OnlyPart s t ∧
        t.part.fg (SLC_STATUS_STATE n) = 0 ∧ Tab.get 0 n t.part.slc.backoff = min 60000 (2 * Tab.get 0 n p.slc.backoff)))

/-- The KV codec (R246 to R249, R252, R268, R269, R271, R274, R291): a region's word is taken when it enables nothing or its checks hold, and only ENABLE can change while it is enabled; a claim word is taken whole; a block that was never written decodes to zeros, behind the tokens of the block before it, which are still to be sent, and its bytes are not yet counted as sent; an ENCODE gathers its raw tokens (the last two shown where no AtomicOp locks a granule). -/
def Obligations.KvCodecCommands : Prop :=
  ∀ (s : State) (n r h w st a0 : Nat) (v : Word) (q : SReq) (tok : SlTok), n < 8 → r < 16 → h < 16 → w < 8 → st < 256 →
    let p := s.part
    let cfg : Dword := (v &&& 0x00FFFF7F).setWidth 64
    let k := qkey n h st
    let R := p.region n q.region
    (p.available 12 = true → p.pfOpen = true →
      Answers (exec (.kvcSmapWrite n h w v) s) (fun t => OnlyRegs s t (· = KVC_SMAP n (8 * h + w)) ∧
        t.part.reg (KVC_SMAP n (8 * h + w)) = v.setWidth 64) ∧
      Answers (exec (.kvcRegionEnableWrite n r v) s) (fun t => OnlyRegs s t (· = KVC_RGN_CFG n r) ∧
        ((p.region n r).enable = true → v.getLsbD 0 = true → t = s) ∧
        ((p.region n r).enable = true → v.getLsbD 0 = false → (t.part.region n r).enable = false) ∧
        ((p.region n r).enable = false → v.getLsbD 0 = true →
          if p.regionLegal n r (p.regionOf n r cfg) then t.part.reg (KVC_RGN_CFG n r) = cfg else t = s) ∧
        ((p.region n r).enable = false → v.getLsbD 0 = false → (t.part.region n r).enable = false))) ∧
    (p.isRelease n h st = false → p.slc.discard.contains k = false → p.sreq k = some q → p.hs.br.locked = [] →
      (q.op = 3 → 1 ≤ q.blocks → (q.blocks = 1 ∨ q.out ≠ []) → q.out.length ≤ R.raw / 32 → p.sliceUp n = true → (p.stream h q.reply).credit = 0 →
        p.regionAddr n R (R.index + q.block / 8) = some a0 →
        (let a := a0 + q.block % 8 * 8
         PlainMem s.dev a 8 ∧ s.dev.bytes a 8 = List.replicate 8 0) →
        Answers (exec (.kvcDecode n h st) s) fun t => OtherRegsStay s t (· = KVC_DEC_BLOCKS n) ∧
          t.part.sreq k = some { q with block := q.block + 1, blocks := q.blocks - 1, out := q.out ++ List.replicate (R.raw / 32) (0, 0) } ∧
          t.part.fg (KVC_DEC_BLOCKS_TOTAL n) = (p.fg (KVC_DEC_BLOCKS_TOTAL n) + 1) % 2 ^ (KVC_DEC_BLOCKS_TOTAL n).w) ∧
      (q.op = 4 → 1 ≤ q.blocks → p.claimed n h st = true → p.inq k = [tok] → tok.kind = 0 → 32 * (q.buf.length + 1) < R.raw →
        Answers (exec (.kvcEncode n h st) s) fun t => OnlyPart s t ∧ t.part.regs = p.regs ∧ t.part.inq k = [] ∧
          t.part.sreq k = some { q with buf := q.buf ++ [tok] } ∧
          t.part.fab.returns = p.fab.returns ++ [(h, st, sliceDest n)]))

/-- REGISTER_WRITE (R11, R12, R15, R17): a write through an open block, whose die is there, changes only the register it reaches, and each field by its access code: RW and WO take a legal value, W1C clears and W1S sets the bits written 1, but a bit that the part sets in the same access stays set, RWM takes a value in LAB and RMA alone, RO and RC and the bits of no field stay; a field with a command row of its own is left to that row. -/
def Obligations.RegisterWriteFollowsAccessCodes : Prop :=
  ∀ (s : State) (a : Path) (bar off l k width : Nat) (v w mask coin sets : Dword) (d : RegDesc),
    s.part.locate a bar off = .reg l → s.part.locOpen a (.reg l) = true → s.part.locAbsent a (.reg l) = false → regAccess off width = true → l ≠ 0x1000008 →
    (findDesc k = some d) →
    (k = FRM_CTRL 0 → s.part.fg (FRM_STATUS_WIDTH 0) = 0) →
    ((width = 32 ∧ k = l ∧ w = v ∧ sets = coin ∧ mask = 0xFFFFFFFF) ∨
     (width = 64 ∧ k = l ∧ w = v ∧ sets = coin ∧ mask = 0xFFFFFFFFFFFFFFFF ∧ d.width = 64) ∨
     (width = 32 ∧ l = k + 4 ∧ findDesc l = none ∧ w = v <<< 32 ∧ sets = coin <<< 32 ∧ mask = 0xFFFFFFFF00000000 ∧ d.width = 64)) →
    Answers (exec (.registerWrite a bar off width v coin) s) fun t => OtherRegsStay s t (· = k) ∧
      (∀ f ∈ d.fields,
        let cur := getBits (s.part.reg k) f.lo f.w
        let new := getBits ((s.part.reg k &&& ~~~mask) ||| (w &&& mask)) f.lo f.w
        let ones := getBits (w &&& mask) f.lo f.w
        let x := getBits (t.part.reg k) f.lo f.w
        if f.own = true ∨ getBits mask f.lo f.w = 0 then x = cur
        else match f.acc with
          | .rw | .wo => x = if f.takes new ∧ s.part.fieldOpen k f.lo new then new else cur
          | .rwm => x = if (s.part.lifeCycle = 2 ∨ s.part.lifeCycle = 4) ∧ f.takes new then new else cur
          | .w1c => ∀ i < f.w, x.testBit i = ((cur.testBit i && !ones.testBit i) || (ones.testBit i && (getBits sets f.lo f.w).testBit i))
          | .w1s => ∀ i < f.w, x.testBit i = (cur.testBit i || ones.testBit i)
          | .ro | .rc => x = cur) ∧
      ∀ i, (∀ f ∈ d.fields, ¬ (f.lo ≤ i ∧ i < f.lo + f.w)) → (t.part.reg k).getLsbD i = (s.part.reg k).getLsbD i

/-- REGISTER_WRITE elsewhere (R16, R17, R25, R317, R398, R399, R507, R536, R805): a write to an unmapped place, to a block that is not available, of a width that registers do not take, to the directory or to the pending bits changes nothing; one to a register of the Sorus die while that die is absent fails beyond the peripheral bridge and changes no register of the die; MBX_REQ takes its bytes unless the mailbox is RUNNING, MBX_RSP takes none; each access path has its own DBG_FROND_SEL. -/
def Obligations.WritesToOtherPlaces : Prop :=
  ∀ (s : State) (a : Path) (bar off m o f l width : Nat) (v coin : Dword),
    let at_ := s.part.locate a bar off
    let w := Instr.registerWrite a bar off width v coin
    (s.part.locOpen a at_ = false ∨ at_ = .dir f o ∨ at_ = .pba f o ∨ at_ = .nowhere → exec w s = .next s) ∧
    (at_ = .reg l ∨ at_ = .vec f o → regAccess off width = false → exec w s = .next s) ∧
    (at_ = .reg l → s.part.locAbsent a at_ = true → regAccess off width = true →
      exec w s = toPart s (s.part.targetFail (if a = .fn 0 then 0 else 1) 0 off (width / 8) Config.hostRid 3 true)) ∧
    (at_ = .box m o → s.part.fg (MBX_STATUS_STATE m) = 1 ∨ 0x1000 ≤ o → exec w s = .next s) ∧
    (at_ = .box m o → s.part.locOpen a at_ = true → s.part.fg (MBX_STATUS_STATE m) ≠ 1 → width = 8 ∨ width = 16 ∨ width = 32 ∨ width = 64 →
      o + width / 8 ≤ 0x1000 → Answers (exec w s) fun t =>
        OnlyIn s t (fun p p' => { p with hs := { p.hs with mbx := p'.hs.mbx } }) ∧ (∀ n, n ≠ m → t.part.mbx n = s.part.mbx n) ∧
        t.part.mbx m = { s.part.mbx m with req := (t.part.mbx m).req } ∧
        ∀ i, Tab.get 0 i (t.part.mbx m).req = if o ≤ i ∧ i < o + width / 8 then getBits v (8 * (i - o)) 8 else Tab.get 0 i (s.part.mbx m).req) ∧
    (at_ = .reg 0x1000008 → s.part.locOpen a at_ = true → width = 32 → regAccess off width = true → isFrond (v.toNat % 4096) →
      Answers (exec w s) fun t => OnlyIn s t (fun p p' => { p with dbg := { p.dbg with sel := p'.dbg.sel } }) ∧
        ∀ b, t.part.selFrond b = if pathNum b = pathNum a then v.toNat % 4096 else s.part.selFrond b)

/-- RC_FIELD_READ and WIDE_COUNTER_LOW_READ (R11, R16, R24 to R26, R329, R340): a read answers a register's fields, with write-only fields and reserved bits zero, and changes no register; a read of a wide counter's low word holds its high word for that path, and the read of the high word answers the held one; a function in D3hot, in its FLR or with its memory space closed answers Unsupported Request. -/
def Obligations.RegisterReadsAndHeldWords : Prop :=
  ∀ (s : State) (a : Path) (bar off k width coincident f : Nat) (d : RegDesc),
    (regAccess off width = true → s.part.accessOpen f = false → s.part.ep.perst = false →
      exec (.rcFieldRead (.fn f) bar off width coincident) s = toPart s (s.part.emit (.completion f 1 []))) ∧
    (s.part.locate a bar off = .reg k → s.part.locOpen a (.reg k) = true → s.part.locAbsent a (.reg k) = false → k ≠ 0x1000008 → findDesc k = some d →
    let whole := s.part.regRead a k d
    let high := whole.toNat / 2 ^ 32
    (regAccess off width = true → (width = 32 ∨ width = 64 ∧ d.width = 64) →
      Answers (exec (.rcFieldRead a bar off width coincident) s) fun t => ∃ x,
        OnlyIn s t (fun p p' => { p with hold := p'.hold, out := p.out ++ [.value (pathKey a) off x] }) ∧ x < 2 ^ width ∧
        (∀ b, Tab.get none b t.part.hold = if isWide d = true ∧ b = pathKey a then some high else Tab.get none b s.part.hold) ∧
        ((∀ y, s.part.viewOf a k y = y) → ∀ i < width, x.testBit i = true ↔
          ∃ f ∈ d.fields, f.lo ≤ i ∧ i < f.lo + f.w ∧ f.acc ≠ .wo ∧ (s.part.reg k).getLsbD i = true) ∧
        (k = TIM_NOW → x = s.part.time % 2 ^ width)) ∧
    (isWide d = true → bar = 0 → off % 8 = 0 →
      Answers (exec (.wideCounterLowRead a off) s) fun t =>
        OnlyIn s t (fun p p' => { p with hold := p'.hold, out := p.out ++ [.value (pathKey a) off (whole.toNat % 2 ^ 32)] }) ∧
        ∀ u : State, u.part.hold = t.part.hold → u.part.locate a 0 (off + 4) = .reg (k + 4) → u.part.locOpen a (.reg (k + 4)) = true →
          u.part.locAbsent a (.reg (k + 4)) = false →
          exec (.rcFieldRead a 0 (off + 4) 32 0) u =
            .next { u with dev := { u.dev with p := u.part.emit (.value (pathKey a) (off + 4) high) } }))

/-- PER_SECOND_TICK and TIM_SNAP (R389, R390, R697): a tick counts a second, brings device time to it, moves each port's error counts into its latched counts and clears them (shown where no slice's corrected errors pass their limit); a snapshot takes device time and counts itself (shown where no tick falls on the way). -/
def Obligations.TimeUnit : Prop :=
  ∀ (s : State) (u : Nat),
    let next := (s.part.time / 10 ^ 9 + 1) * 10 ^ 9
    (s.part.boot.stage ≠ 0 → next < 2 ^ 64 →
      (∀ n < 8, s.part.fg (SLC_CE_LIMIT_LIMIT n) = 0 ∨ (Tab.get (0, false) n s.part.slc.ceSec).1 ≤ s.part.fg (SLC_CE_LIMIT_LIMIT n)) →
      Answers (exec .perSecondTick s) fun t =>
        OtherRegsStay s t (fun k => k = TIM_SECONDS ∨ ∃ p < 9, ∃ i < 8, k = FRM_CNT p i ∨ k = FRM_LAT p i) ∧
        t.part.fg TIM_SECONDS_COUNT = (s.part.fg TIM_SECONDS_COUNT + 1) % 2 ^ 32 ∧ t.part.time = next ∧
        (∀ p < 9, ∀ i < 8, t.part.reg (FRM_LAT p i) = s.part.reg (FRM_CNT p i) ∧ t.part.reg (FRM_CNT p i) = 0) ∧
        (∀ k, (Tab.get (0, false) k t.part.perSec).1 = 0) ∧ t.part.slc.ceSec = []) ∧
    (s.part.available 10 = true → s.part.pfOpen = true → max s.part.time u % 2 ^ 64 / 10 ^ 9 = s.part.time / 10 ^ 9 →
      Answers (exec (.timSnap u) s) fun t =>
        OtherRegsStay s t (fun k => k = TIM_SNAP ∨ k = TIM_SNAP_SEQ) ∧ t.part.time = max s.part.time u % 2 ^ 64 ∧
        t.part.fg TIM_SNAP_TIME = t.part.time ∧ t.part.fg TIM_SNAP_SEQ_COUNT = (s.part.fg TIM_SNAP_SEQ_COUNT + 1) % 2 ^ 32)

/-- The link (R295 to R297, R301, R303, R477): training takes the lower of the offered rate and the highest that the partner's mode allows, keeps link-up values, and advertises the initial flow-control credits, infinite for completions; what recovery leaves is never above the present rate and width, and one below link-up raises EP_LINK_DEGRADED; a directed change back to both link-up values raises EP_LINK_RESTORED; ASPM L1 is entered only where it is enabled. -/
def Obligations.LinkTrainingAndChanges : Prop :=
  ∀ (s : State) (speed width : Nat) (flit alt : Bool),
    let p := s.part
    let nowAt := fun (sp wd : Nat) => ({ p with ep := { p.ep with speed := sp, width := wd } } : Part)
    let detail := fun (sp wd : Nat) => p.ep.upSpeed + p.ep.upWidth * 2 ^ 8 + sp * 2 ^ 16 + wd * 2 ^ 24
    (p.boot.stage ≠ 0 → p.ep.linkUp = false →
      let sp := min speed (if flit then 6 else 5)
      exec (.linkTraining speed width flit alt) s = toPart s { p with
        ep := { p.ep with
          linkUp := true, linkDisabled := false, flit := flit, cxl := alt, degraded := false, aspmL1 := false
          speed := sp, width := width, upSpeed := sp, upWidth := width
          credits := { ph := 256, pd := 8192, nph := 128, npd := 256, cplh := none, cpld := none } }
        out := p.out ++ [.credits 256 8192 128 256 none none] }) ∧
    (p.ep.linkUp = true →
      (let sp := min speed p.ep.speed
       let wd := min width p.ep.width
       (sp < p.ep.upSpeed ∨ wd < p.ep.upWidth → exec (.epLinkDegraded speed width) s =
         toPart s (({ p with ep := { p.ep with speed := sp, width := wd, degraded := true } } : Part).raiseOp 0x0400 0x0401 none (detail sp wd))) ∧
       (p.ep.upSpeed ≤ sp → p.ep.upWidth ≤ wd → exec (.epLinkDegraded speed width) s = toPart s (nowAt sp wd))) ∧
      (let sp := min speed (if p.ep.flit then 6 else 5)
       (p.ep.degraded = true → sp = p.ep.upSpeed → width = p.ep.upWidth → exec (.hostDirectedRetrain speed width) s =
         toPart s (({ p with ep := { p.ep with speed := sp, width := width, degraded := false } } : Part).raiseOp 0x0400 0x0402 none (detail sp width))) ∧
       (¬ (p.ep.degraded = true ∧ sp = p.ep.upSpeed ∧ width = p.ep.upWidth) → exec (.hostDirectedRetrain speed width) s = toPart s (nowAt sp width))) ∧
      ((p.cfgRead 0 0x70).testBit 1 = true → exec .aspmL1Entry s = toPart s { p with ep := { p.ep with aspmL1 := true } }))

/-- CONFIGURATION_REQUEST and MRDLK (R293, R294, R300, R305, R306, R322, R340): before S2 and during an FLR a request completes with Configuration Request Retry Status, to a function that the host does not reach with Unsupported Request; a read answers the register and a write changes the writable bytes alone; a locked read is an Unsupported Request that AER logs; with ARI Capable Hierarchy clear, functions 8 to 15 are not reached. -/
def Obligations.ConfigurationRequests : Prop :=
  ∀ (s : State) (f off be data : Nat) (wr : Option (Nat × Nat)), off % 4 = 0 → s.part.ep.perst = false → s.part.ep.linkUp = true →
    let p := s.part
    let awake := ({ p with ep := { p.ep with aspmL1 := false } } : Part)
    (p.ep.crs = true ∨ (p.func f).resetting = true → exec (.configurationRequest f off wr) s = toPart s (awake.emit (.completion f 3 []))) ∧
    (p.ep.crs = false → (p.func f).resetting = false →
      (p.fnReach f = false → exec (.configurationRequest f off wr) s = toPart s (awake.emit (.completion f 1 []))) ∧
      (p.fnReach f = true →
        exec (.configurationRequest f off none) s = toPart s (awake.emit (.completion f 0
          ((List.range 4).map fun i => BitVec.ofNat 8 (p.cfgRead f off / 2 ^ (8 * i))))) ∧
        Answers (exec (.configurationRequest f off (some (be, data))) s) (fun t => OnlyPart s t ∧
          t.part.out.getLast? = some (.completion f 0 []) ∧
          (∀ i < 32, (t.part.cfgRead f off).testBit i =
            if (p.cfgReg f off).rw.testBit i && be.testBit (i / 8) then data.testBit i
            else if (p.cfgReg f off).w1c.testBit i && be.testBit (i / 8) && data.testBit i then false
            else (p.cfgRead f off).testBit i) ∧
          ∀ g o, (g ≠ f ∨ o ≠ off) → t.part.cfgRead g o = p.cfgRead g o))) ∧
    (p.fnReach f = true → Answers (exec (.mrdlk f) s) fun t => OnlyPart s t ∧ t.part.regs = p.regs ∧
      t.part.out.getLast? = some (.completion f 1 []) ∧ (t.part.cfgRead f 0x104).testBit 20 = true) ∧
    (p.fnReach f = false → exec (.mrdlk f) s = toPart s (p.emit (.completion f 1 []))) ∧
    (p.fnReach f = true ↔ p.fnExists f = true ∧ (f < 8 ∨ (p.cfgRead 0 0x168).testBit 4 = true)) ∧
    p.cfgRead 0 0 = 0x72601D5A ∧ p.cfgRead 1 0 = 0xFFFFFFFF ∧ p.cfgRead 1 0x2C = 0x72611D5A

/-- EXPANSION_ROM_READ and the two interrupt masks (R318, R319, R326, R507, R798): the ROM window answers its bytes, or, while a push to its area writes it, all ones with a failure in both bridges; unmasking a set source sends the block's vector 0. -/
def Obligations.RomWindowAndInterruptMasks : Prop :=
  ∀ (s : State) (off len rid v m : Nat), m < 16 →
    let p := s.part
    (p.inboundRoom = true →
      (p.accessOpen 0 = true → p.ep.crs = false → (p.cfgRead 0 0x30).testBit 0 = true → off + len ≤ 2 ^ 20 →
        (p.romBusy = false → exec (.expansionRomRead off len rid) s =
          toPart s (p.emit (.completion 0 0 ((List.range len).map fun i => p.romRead (off + i))))) ∧
        (p.romBusy = true → exec (.expansionRomRead off len rid) s =
          toPart s (((p.bridgeFail 1 ⟨p.barBase 0 6 + off, rid, none, 0, false, none, 2⟩).bridgeFail 0
            ⟨p.barBase 0 6 + off, rid, some 0, 0, false, none, 6⟩).emit (.completion 0 0 (List.replicate len 0xFF))))) ∧
      ((p.accessOpen 0 = false ∨ p.ep.crs = true ∨ (p.cfgRead 0 0x30).testBit 0 = false) →
        exec (.expansionRomRead off len rid) s = toPart s (p.emit (.completion 0 1 [])))) ∧
    (p.ep.rom = [] → p.romRead 0 = 0x55 ∧ p.romRead 1 = 0xAA) ∧
    (1 ≤ v → v ≤ 15 → p.accessOpen v = true → p.finds v 1 = true →
      let q := p.fs (GBL_VF_IRQ_MASK_MASK v) m
      exec (.gblVfIrqMaskWrite v m) s = toPart s (if ∃ i ∈ List.range 4, (p.fg (GBL_VF_IRQ_MASK_MASK v)).testBit i = true ∧ m.testBit i = false ∧
        (p.reg (GBL_VF_IRQ v)).getLsbD i = true then q.sendMsi v 0 else q) ∧ q.fg (GBL_VF_IRQ_MASK_MASK v) = m) ∧
    (p.available 1 = true → p.pfOpen = true →
      let q := p.fs GBL_IRQ_MASK_MASK m
      exec (.gblIrqMaskWrite m) s = toPart s (if ∃ i ∈ List.range 4, (p.fg GBL_IRQ_MASK_MASK).testBit i = true ∧ m.testBit i = false ∧
        p.gblIrq.testBit i = true then q.sendMsi 0 0 else q) ∧ q.fg GBL_IRQ_MASK_MASK = m)

/-- Resets of the Quickset die (R332 to R337, R342, R766): a reset clears the fronds, slices, hedges, mailboxes and queue pairs and every register that it does not keep (EVT_LOST shown where the retention RAM has room for the two core records that a reset may make), and the memory stacks keep their bytes; PERST_N holds the die in reset until it is deasserted; after a hot reset, a link disable or a DL_Down, S1 starts with that cause. -/
def Obligations.ResetsOfTheQuicksetDie : Prop :=
  ∀ (s : State),
    let p := s.part
    let fresh := fun (t : State) => t.part.fab = {} ∧ t.part.slc = {} ∧ t.part.hedges = [] ∧ t.part.hs = {} ∧ t.part.tw = {} ∧ t.part.dbg = {} ∧ t.part.ep.linkUp = false ∧ t.part.ep.funcs = []
    (p.boot.stage ≠ 0 →
      Answers (exec .perstNAssert s) (fun t => OnlyPart s t ∧ fresh t ∧ t.part.boot.stage = 0 ∧ t.part.ep.perst = true ∧ t.part.core.cause = 1 ∧
        (∀ k, keptByHostReset k = false → (∀ r, k ≠ EVT_LOST r) → t.part.reg k = Tab.get 0 k resetRegs) ∧
        (p.core.ret.length ≤ 61 → ∀ r ≤ 16, t.part.reg (EVT_LOST r) = 0)) ∧
      (p.ep.linkUp = true → p.qsDown = false → (p.frm 0).aligned = false →
        ∀ e ∈ ([(.hotReset, 2, p.ep.linkDisabled), (.linkDisable, 2, true), (.linkDown, 3, p.ep.linkDisabled)] : List (Instr × Nat × Bool)),
          Answers (exec e.1 s) fun t => OnlyPart s t ∧ fresh t ∧ t.part.boot.stage = 1 ∧ t.part.time = 0 ∧
            t.part.reg GBL_RESET_CAUSE = BitVec.ofNat 64 e.2.1 ∧ t.part.ep.linkDisabled = e.2.2)) ∧
    (p.boot.stage = 0 →
      let q := ({ p with ep := { p.ep with perst := false } } : Part)
      (q.qsDown = true → exec .perstNDeassert s = toPart s q) ∧
      (q.qsDown = false → p.fg LCH_BOOT_ATTEMPTS_COUNT + 2 < 2 ^ LCH_BOOT_ATTEMPTS_COUNT.w →
        Answers (exec .perstNDeassert s) fun t => OnlyPart s t ∧ t.part.boot.stage = 1 ∧ t.part.time = 0 ∧ t.part.ep = q.ep ∧
          t.part.reg GBL_RESET_CAUSE = BitVec.ofNat 64 p.core.cause ∧ t.part.fg LCH_BOOT_ATTEMPTS_COUNT = p.fg LCH_BOOT_ATTEMPTS_COUNT + 1))

/-- Function-level resets, VF Enable and power states (R321, R328 to R332, R338 to R341): an FLR marks its function and hedge, unbinds the image, destroys the hedge's queue pairs and clears the function's vectors, mailbox and event ring; its end clears the function's configuration and raises EP_FLR_DONE; a PF0 FLR resets every VF that exists and every hedge, and clears mailbox 16 and the operator ring's registers; the clearing of VF Enable resets every VF that exists. -/
def Obligations.FunctionResetsAndPowerStates : Prop :=
  ∀ (s : State) (f : Nat), f < 16 →
    let p := s.part
    let vfs := fun (t : State) => t.pending = s.pending ∧ t.part.ep.vfEnable = false ∧
      ∀ v, 1 ≤ v → v < 16 → p.fnExists v = true → (t.part.func v).resetting = true
    (1 ≤ f → 2 ≤ p.boot.stage → p.fnExists f = true → (p.func f).resetting = false →
      Answers (exec (.vfFlr f) s) fun t => t.pending = s.pending ∧
        (t.part.func f).resetting = true ∧ (t.part.func f).vecs = [] ∧ (t.part.hedge f).resetting = true ∧ (t.part.hedge f).image = none ∧
        (∀ q ∈ p.qpsOf f, (t.part.qp q).exist = false ∧ t.part.reg (DB_STATE q) = Tab.get 0 (DB_STATE q) resetRegs) ∧
        t.part.reg (MBX_STATUS f) = 0 ∧ t.part.mbx f = {} ∧
        ∀ k ∈ [EVT_BASE f, EVT_CFG f, EVT_HEAD f, EVT_TAIL f, EVT_STATUS f], t.part.reg k = Tab.get 0 k resetRegs) ∧
    (2 ≤ p.boot.stage → (p.func 0).resetting = false → Answers (exec .pf0Flr s) fun t => vfs t ∧ (t.part.func 0).resetting = true ∧
      ((p.func f).resetting = false → (t.part.hedge f).resetting = true ∧ (t.part.hedge f).image = none) ∧
      t.part.reg (MBX_STATUS 16) = 0 ∧ t.part.mbx 16 = {} ∧
      ∀ k ∈ [EVT_BASE 16, EVT_CFG 16, EVT_HEAD 16, EVT_TAIL 16, EVT_STATUS 16], t.part.reg k = Tab.get 0 k resetRegs) ∧
    ((p.func f).resetting = true → Answers (exec (.epFlrDone f) s) fun t => OnlyPart s t ∧ ∃ q : Part,
      t.part = q.raiseOp (0x0400 + f) 0x0403 none noDetail ∧ q.hedge f = { p.hedge f with resetting := false } ∧
      q.func f = { cfg := if f = 0 then (p.func 0).cfg.filter (fun e => stickyCfg e.1) else [] } ∧
      (∀ g, g ≠ f → q.func g = p.func g ∧
        q.hedge g = if f = 0 ∧ g < 16 ∧ (p.func g).resetting = false then { p.hedge g with resetting := false } else p.hedge g) ∧
      (1 ≤ f → ∀ k, q.reg k = if k = GBL_VF_STATUS f ∨ k = GBL_VF_IRQ f ∨ k = GBL_VF_IRQ_MASK f then Tab.get 0 k resetRegs else p.reg k)) ∧
    (p.ep.crs = false → (p.func 0).resetting = false →
      exec .vfEnableSet s = toPart s { p with ep := { p.ep with vfEnable := true } } ∧
      (p.ep.vfEnable = true → Answers (exec .vfEnableClear s) fun t => vfs t)) ∧
    (p.fnExists f = true → p.ep.crs = false → exec (.d3hotEntry f) s = toPart s (p.updFunc f fun F => { F with d3 := true })) ∧
    ((p.func f).d3 = true → exec (.d0Return f) s =
      toDev s (Dev.settle { s.dev with p := (p.updFunc f fun F => { F with d3 := false }).releaseHeld.coresBack }))

/-- The doorbells (R317, R362 to R367, R370, R469): a legal page takes a new tail or head and the engines go on; a tail that is no step forward and an index beyond its ring are discarded with a fault; a head written while an interrupt is owed sends it and one written otherwise arms the interrupt; a page at fault changes no queue pair; a function that does not find the doorbells available changes nothing. -/
def Obligations.Doorbells : Prop :=
  ∀ (s : State) (f page width tail head q : Nat), tail < 2 ^ 16 → head < 2 ^ 16 →
    let p := s.part
    let Q := p.qp q
    let sq := p.fg (DB_SQ_HEAD_HEAD q)
    let go := fun (x : Part) => toDev s (Dev.settle { s.dev with p := x })
    let fault := fun (x : Part) => match (x.qp q).owner with
      | some h => (x.incS (DB_FAULTS q)).raiseBoth (0x0500 + q) 0x0502 h noDetail
      | none => (x.incS (DB_FAULTS q)).raiseOp (0x0500 + q) 0x0502 none noDetail
    let tailed := fun (x : Part) => x.updQp q fun Q => { Q with sqTail := tail, fetchStop := false }
    let headed := fun (x : Part) =>
      let y := (x.updQp q fun Q => { Q with cqHead := head, cplStop := false })
      if x.flag (DB_STATE_PENDING q) = true ∧ x.fg (DB_CQ_TAIL_TAIL q) ≠ head then
        ((y.setFlag (DB_STATE_PENDING q) false).setFlag (DB_STATE_ARMED q) false).sendMsi (x.qpHedge q) Q.vector
      else (y.setFlag (DB_STATE_PENDING q) false).setFlag (DB_STATE_ARMED q) true
    (p.accessOpen f = false ∨ p.finds f 2 = false →
      ∀ c ∈ ([.dbSqTail f page width tail, .dbCqHead f page width head, .dbWrite64 f page tail head] : List Instr), exec c s = .next s) ∧
    (p.accessOpen f = true → p.finds f 2 = true →
      (∀ w, p.dbBad f (p.dbPage f page) w = true → exec (.dbSqTail f page w tail) s = toPart s (p.dbFault (p.dbPage f page)) ∧
        exec (.dbCqHead f page w head) s = toPart s (p.dbFault (p.dbPage f page))) ∧
      (p.dbPage f page = some q → p.dbBad f (some q) width = false →
        (Q.sqSize ≤ tail → exec (.dbSqTail f page width tail) s = go (fault p)) ∧
        (tail < Q.sqSize → tail = Q.sqTail → exec (.dbSqTail f page width tail) s = go (p.updQp q fun Q => { Q with fetchStop := false })) ∧
        (tail < Q.sqSize → tail ≠ Q.sqTail → (tail + Q.sqSize - sq) % Q.sqSize < (Q.sqTail + Q.sqSize - sq) % Q.sqSize →
          exec (.dbSqTail f page width tail) s = go (fault p)) ∧
        (tail < Q.sqSize → tail ≠ Q.sqTail → (Q.sqTail + Q.sqSize - sq) % Q.sqSize ≤ (tail + Q.sqSize - sq) % Q.sqSize →
          exec (.dbSqTail f page width tail) s = go (tailed p) ∧ ((tailed p).qp q).sqTail = tail ∧
          (head < Q.cqSize → width = 64 → exec (.dbWrite64 f page tail head) s = go (headed (tailed p)))) ∧
        (Q.cqSize ≤ head → exec (.dbCqHead f page width head) s = go (fault p)) ∧
        (head < Q.cqSize → exec (.dbCqHead f page width head) s = go (headed p) ∧ ((headed p).qp q).cqHead = head ∧
          (headed p).fg (DB_STATE_PENDING q) = 0)))

/-- DESCRIPTOR_FETCH_DONE and DESC_SEND_DATA (R347, R350, R359, R488): the descriptors that came back join their queue pair and SQ_HEAD passes them, and a failed read stops fetching; the data of a SEND becomes its tokens, 32 bytes each, and an EOS after the last where it was asked for. -/
def Obligations.DescriptorsAndTheirData : Prop :=
  ∀ (s : State) (q t : Nat) (r : NpReq) (data : List Byte) (bad : List (Nat × Nat)) (d : Desc),
    let p := s.part
    let Q := p.qp q
    let go := fun (x : Part) => toDev s (Dev.settle { s.dev with p := x })
    p.np t = some r → r.phase = .back data bad →
    (Q.fetching = some t →
      ((∃ b ∈ bad, b.1 ≠ 0) → exec (.descriptorFetchDone q) s = go
        (((p.setNp t none).updQp q fun Q => { Q with fetching := none }).updQp q fun Q => { Q with fetchStop := true })) ∧
      ((∀ b ∈ bad, b.1 = 0) → ∃ x : Part, exec (.descriptorFetchDone q) s = go (x.qpStart q) ∧
        x.qp q = { Q with fetching := none, nextId := Q.nextId + data.length / 64, descs := Q.descs ++
          (List.range (data.length / 64)).map fun i => parseDesc (Q.nextId + i) ((data.drop (64 * i)).take 64) } ∧
        (∀ k, k ≠ q → x.qp k = p.qp k) ∧ x.np t = none ∧ RegsOnly { p with hs := x.hs } x (fun k => k = DB_SQ_HEAD q ∨ k = DB_STATE q) ∧
        (Q.sqSize ≤ 2 ^ 16 → 0 < Q.sqSize → x.fg (DB_SQ_HEAD_HEAD q) = (p.fg (DB_SQ_HEAD_HEAD q) + data.length / 64) % Q.sqSize))) ∧
    (Q.descs = [d] → p.npOf (.send q d.id) = some t → (∀ b ∈ bad, b.1 = 0) →
      ∃ x : Part, exec (.descSendData q) s = go x ∧ x.np t = none ∧
        (x.qp q).descs = [{ d with moved := d.moved + data.length, toks := d.toks ++
          (List.range (data.length / 32)).map (fun i => (0, bytesPay ((data.drop (32 * i)).take 32))) ++
            if d.moved + data.length = d.len ∧ d.eos = true then [(1, 0)] else [] }] ∧
        x.fg (DB_BYTES_SENT_TOTAL q) = (p.fg (DB_BYTES_SENT_TOTAL q) + data.length) % 2 ^ (DB_BYTES_SENT_TOTAL q).w)

/-- EVT_HEAD_WRITE and EVT_CFG_WRITE (R317, R345, R369 to R371, R386): a head write sends an interrupt that is owed, or arms the ring, and HEAD reads back; enabling a ring takes its size, vector and severity and begins at entry 0, with PHASE 1, armed; disabling it loses what waits; a function that does not find the rings available changes nothing. -/
def Obligations.EventRingCommands : Prop :=
  ∀ (s : State) (f r head : Nat) (v : Word), head < 2 ^ 16 →
    let p := s.part
    let x : Dword := v.setWidth 64
    let on := v.getLsbD 8
    let go := fun (x : Part) => toDev s (Dev.settle { s.dev with p := x })
    let y := (p.fs (EVT_HEAD_HEAD r) head).setFlag (EVT_STATUS_PENDING r) false
    (p.accessOpen f = false ∨ p.finds f 6 = false ∨ ringReach f r = false →
      exec (.evtHeadWrite f r head) s = .next s ∧ exec (.evtCfgWrite f r v) s = .next s) ∧
    (p.accessOpen f = true → p.finds f 6 = true → ringReach f r = true →
      (exec (.evtHeadWrite f r head) s = go (if p.flag (EVT_STATUS_PENDING r) = true ∧ p.fg (EVT_TAIL_TAIL r) ≠ head % p.ringSize r then
        (y.setFlag (EVT_STATUS_ARMED r) false).sendMsi (ringHedge r) (p.fg (EVT_CFG_VECTOR r)) else y.setFlag (EVT_STATUS_ARMED r) true)) ∧
      y.fg (EVT_HEAD_HEAD r) = head ∧
      (p.flag (EVT_CFG_ENABLE r) = false → on = true → ∃ q : Part, exec (.evtCfgWrite f r v) s = go q ∧
        RegsOnly p q (fun k => k = EVT_CFG r ∨ k = EVT_HEAD r ∨ k = EVT_TAIL r ∨ k = EVT_STATUS r) ∧
        q.flag (EVT_CFG_ENABLE r) = true ∧ q.fg (EVT_HEAD_HEAD r) = 0 ∧ q.fg (EVT_TAIL_TAIL r) = 0 ∧ q.fg (EVT_TAIL_PHASE r) = 1 ∧
        q.fg (EVT_STATUS_ARMED r) = 1 ∧ q.fg (EVT_STATUS_PENDING r) = 0 ∧ q.fg (EVT_CFG_IRQ_SEV r) = getBits x 28 3 ∧
        q.fg (EVT_CFG_SIZE_LOG2 r) = (if 6 ≤ getBits x 0 5 ∧ getBits x 0 5 ≤ 16 then getBits x 0 5 else p.fg (EVT_CFG_SIZE_LOG2 r)) ∧
        q.fg (EVT_CFG_VECTOR r) = if ringVector r (getBits x 16 9) then getBits x 16 9 else p.fg (EVT_CFG_VECTOR r)) ∧
      (p.flag (EVT_CFG_ENABLE r) = true → on = true → ∃ q : Part, exec (.evtCfgWrite f r v) s = go q ∧ RegsOnly p q (· = EVT_CFG r) ∧
        q.flag (EVT_CFG_ENABLE r) = true ∧ q.fg (EVT_CFG_SIZE_LOG2 r) = p.fg (EVT_CFG_SIZE_LOG2 r)) ∧
      (p.flag (EVT_CFG_ENABLE r) = true → on = false → (p.ring r).held = [] → ∃ q : Part, exec (.evtCfgWrite f r v) s = go q ∧
        RegsOnly { p with rings := q.rings } q (· = EVT_CFG r) ∧ q.flag (EVT_CFG_ENABLE r) = false))

/-- The ATU and the coherence cache (R12, R435, R446 to R448, R455 to R458, R463, R487, R488): with ATS on, a Translation Completion with the permission fills the cache and grants the access, and an Error fails it; with ATS off by then the lookup starts again; an Invalidate Request removes every entry of its range and is completed at once where nothing that used one waits; a page response starts its requests again or fails them; WIN_LOST bits clear where a 1 is written and the part sets none at once; a completion, or its timeout, ends a read; a line that a host CPU takes for writing leaves the cache, written back where it is modified. -/
def Obligations.TranslationAndCompletions : Prop :=
  ∀ (s : State) (id taddr bits f itag addr size slot code k tag : Nat) (glob rd wr : Bool) (pasid : Option Nat) (x : Xlate) (q : PageReq) (r : NpReq) (res : AtsRes)
    (data : List Byte) (snoops : List (Nat × Bool)) (w coin : Dword) (l : CohLine),
    let p := s.part
    let t := p.hs.atu
    let go := fun (x : Part) => toDev s (Dev.settle { s.dev with p := x })
    (t.xl.find? (fun x => decide (x.phase = .ats id false) || decide (x.phase = .ats id true)) = some x →
      (p.atsOn x.fn = false → exec (.atsCompletion id res) s = go (p.setXl x.agent (some { x with phase := .again })).priView) ∧
      (p.atsOn x.fn = true →
        exec (.atsCompletion id .error) s = go (p.setXl x.agent (some { x with phase := .failed 4 })).priView ∧
        (x.phase = .ats id false → (if x.write then wr else rd) = true → t.atc.length < 8192 →
          let e : AtcEnt := ⟨id, x.fn, x.pasid, x.page, bits, rd, wr, glob, taddr⟩
          exec (.atsCompletion id (.ok taddr bits rd wr glob)) s =
            go ((p.updAtu fun a => { a with atc := a.atc ++ [e] }).setXl x.agent (some { x with phase := .grant (e.out x.page) id })).priView))) ∧
    (p.fnExists f = true → t.invals.length < 32 → Answers (exec (.atsInvalidateRequest f itag pasid addr size glob) s) fun u =>
      let hit := fun (e : AtcEnt) => decide (e.fn = f) && (glob || decide (pasid = some e.pasid)) && overlaps addr size (e.page / 2 ^ e.bits * 2 ^ e.bits) (2 ^ e.bits)
      OtherRegsStay s u (· = ATU_INVALS) ∧ u.part.hs.atu.atc = t.atc.filter (fun e => !hit e) ∧
      (t.invals = [] → t.np = [] → t.posted = [] → t.xl = [] → u.part.out = p.out ++ [.ats 3 f itag 0] ∧ u.part.hs.atu.invals = [] ∧
        u.part.fg ATU_INVALS_TOTAL = (p.fg ATU_INVALS_TOTAL + 1) % 2 ^ ATU_INVALS_TOTAL.w)) ∧
    (Tab.get none slot t.preqs = some q →
      let p' := p.updAtu fun a => { a with
        preqs := Tab.put none slot none a.preqs
        xl := a.xl.map fun x => if x.phase == .pri slot then { x with phase := if code = 0 then .again else .failed 5 } else x }
      (code = 0 → exec (.pageRequestResponse slot code) s = go (p'.priRetry q.hedge).priView) ∧
      (code = 1 → exec (.pageRequestResponse slot code) s = go (((p'.raiseBoth 0x0700 0x0703 q.hedge (q.page + 1)).priRetry q.hedge).priView))) ∧
    (k < 64 → p.available 4 = true → p.pfOpen = true → Answers (exec (.atuWinLostClear k w coin) s) fun u =>
      OtherRegsStay s u (fun r => r = ATU_WIN_LOST k ∨ r = ATU_CONFLICT) ∧
      (∀ i < 64, (u.part.reg (ATU_WIN_LOST k)).getLsbD i = (((p.reg (ATU_WIN_LOST k)).getLsbD i && !w.getLsbD i) || (w.getLsbD i && coin.getLsbD i))) ∧
      (u.part.fg ⟨ATU_CONFLICT, k, 1⟩ = 0 ↔ u.part.reg (ATU_WIN_LOST k) = 0)) ∧
    (p.np tag = some r → r.phase = .sent → r.agent ≠ .gone → (∀ c < 4, Tab.get none c p.hs.br.pend = none) →
      (r.len ≤ data.length → r.kind < 4 → exec (.outboundCompletion tag 0 data snoops) s =
        go ((p.cohSnoops snoops).setNp tag (some { r with phase := .back (data.take r.len) (badAfter r.len r.len 0 0) }))) ∧
      (r.kind = 0 → (p.cfgRead r.fn (if r.fn = 0 then 0x88 else 0x78)).testBit 4 = false → exec (.completionTimeout tag) s =
        go ((p.bridgeFail 0 ⟨r.addr, r.fn, some r.hedge, 0, true, r.pasid, 10⟩).setNp tag
          (some { r with phase := .back (List.replicate r.want 0xFF) (badAfter r.want 0 0x20 0x8300) })))) ∧
    (p.line k = some l → (p.cohSnoops [(k, true)]).line k = none ∧
      (p.cohSnoops [(k, true)]).out = p.out ++ if l.dirty then [.coh (64 * k) l.data] else [])

/-- Atomic operations (R484, R495 to R502, R506, R507, R509, R513): an AtomicOp on good memory stores its result, answers the original value and locks its granule until its write-back ends; exclusive sequences and core atomics on the stacks load, compare and store, under the same lock; a broken reservation fails; a change of the atomic mode breaks every reservation; an access that its target does not answer fails. -/
def Obligations.AtomicOperations : Prop :=
  ∀ (s : State) (f off op width operand compare rid g c addr a value o len bar reason : Nat) (w : Word) (p1 : Part) (v : Reserv), c < 4 →
    let p := s.part
    let d1 : Dev := { s.dev with p := p1 }
    let held := fun (t : State) => Tab.get none c t.part.hs.br.reserv
    let got := fun (q : Part) => Tab.get (0, false) c q.hs.br.core
    let old := leNat (s.dev.bytes a width)
    let free := p1.hs.br.locked.length < 60 ∧ p1.hs.br.locked.contains (o / 64) = false
    (p.accessOpen f = true → p.inboundRoom = true → atomicLegal op width = true → a % width = 0 → p.observeBar2 f off = p → p.bar2Check f off false = .inr a →
      p.atomicWaits ⟨f, 2, off, op, width, operand, compare, false, rid⟩ = false → PlainMem s.dev a width →
      Answers (exec (.inboundAtomicop f 2 off op width operand compare false rid) s) fun t => t.pending = s.pending ∧
        Stored s.dev t.dev a (natLe width (match op with
          | 0 => (old + operand) % 2 ^ (8 * width)
          | 1 => operand % 2 ^ (8 * width)
          | _ => if old = compare % 2 ^ (8 * width) then operand % 2 ^ (8 * width) else old)) ∧
        t.part.out = p.out ++ [.completion f 0 (natLe width old)] ∧ t.part.hs.br.locked = p.hs.br.locked ++ [a / 64] ∧
        t.part.fg HBR_ATOMICS_TOTAL = (p.fg HBR_ATOMICS_TOTAL + 1) % 2 ^ HBR_ATOMICS_TOTAL.w) ∧
    (p.hs.br.locked.contains g = true → p.hs.br.waiting = [] →
      ∃ q : Part, exec (.atomicWritebackDone g) s = toDev s (Dev.settle { s.dev with p := q }) ∧ RegsOnly { p with hs := q.hs } q (· = HBR_SEM) ∧
        q.hs = { p.hs with br := { p.hs.br with locked := p.hs.br.locked.erase g } }) ∧
    (p.hs.br.locked.contains g = false → exec (.atomicWritebackDone g) s = .next s) ∧
    ((p.setRes c none).xlate (.core c) 0 addr false = (.loc o, p1) → p1.granHeld o width = false → PlainMem d1 o width → o % 64 + width ≤ 64 → 1 ≤ width →
      Answers (exec (.loadExclusive c addr width) s) fun t => t.pending = s.pending ∧ t.dev.mem = s.dev.mem ∧
        got t.part = (leNat (d1.bytes o width), true) ∧ held t = some ⟨addr, width, leNat (d1.bytes o width), none⟩) ∧
    (Tab.get none c p.hs.br.reserv = none → exec (.storeExclusive c addr width value) s =
      toDev s (Dev.settle { s.dev with p := (p.coreGets c 0 false).addW HBR_STX_FAILS_TOTAL 1 })) ∧
    (Tab.get none c p.hs.br.reserv = some v → p.xlate (.core c) 0 addr true = (.loc o, p1) → free → PlainMem d1 o width → o % 64 + width ≤ 64 → 1 ≤ width →
      leNat (d1.bytes o width) = v.value → value < 2 ^ (8 * width) →
      ∃ e : Dev, exec (.storeExclusive c addr width value) s = toDev s e.settle ∧ Stored d1 e o (natLe width value) ∧
        got e.p = (0, true) ∧ Tab.get none c e.p.hs.br.reserv = none ∧ e.p.hs.br.locked = p1.hs.br.locked ++ [o / 64]) ∧
    (p.xlate (.core c) 0 addr true = (.loc o, p1) → free → PlainMem d1 o width → o % 64 + width ≤ 64 → 1 ≤ width →
      Answers (exec (.coreAtomic c op addr width operand compare) s) fun t => t.pending = s.pending ∧
        Stored d1 t.dev o (natLe width (atomicNew op width (leNat (d1.bytes o width)) operand compare)) ∧ got t.part = (leNat (d1.bytes o width), true) ∧
        t.part.hs.br.locked = p1.hs.br.locked ++ [o / 64]) ∧
    Answers (exec (.reservationTimeout c) s) (fun t => OtherRegsStay s t (· = HBR_SEM) ∧ held t = none ∧
      (t.part.fg HBR_SEM_RESERVED_BY).testBit c = false ∧ ∀ k, k ≠ c → Tab.get none k t.part.hs.br.reserv = Tab.get none k p.hs.br.reserv) ∧
    (reason = 1 ∨ reason = 3 ∨ reason = 4 →
      exec (.targetTimeout 1 bar off len rid true reason) s = toPart s (p.bridgeFail 1 ⟨off, 0, none, 1, true, none, reason⟩)) ∧
    (p.available 5 = true → p.pfOpen = true → Answers (exec (.hbrCtrlWrite w) s) fun t => OtherRegsStay s t (fun k => k = HBR_CTRL ∨ k = HBR_SEM) ∧
      t.part.fg HBR_CTRL_ATOMIC_MODE = w.toNat % 2 ∧
      (p.fg HBR_CTRL_ATOMIC_MODE ≠ w.toNat % 2 → t.part.hs.br.reserv = []) ∧
      (p.fg HBR_CTRL_ATOMIC_MODE = w.toNat % 2 → t.part.hs = p.hs))

/-- MBX_DOORBELL and MBX_COMMAND_DONE (R316, R317, R394, R398 to R403, R407, R411): a doorbell that finds the mailbox available takes the request, shows RUNNING with its TAG, and ends the command at once where a check that every command shares fails; a doorbell while a command runs is refused and remembered; one that does not reach the mailbox changes nothing; the end of a command shows DONE, counts it, and sends the mailbox's vector where the request asked for it; an inconsistency of the firmware ends it so with INTERNAL and raises MP_INTERNAL; a response begins with the request's opcode and TAG. -/
def Obligations.MailboxProtocol : Prop :=
  ∀ (s : State) (m : Nat) (e : Sts) (result : List Byte), m < 17 →
    let p := s.part
    let b := p.mbx m
    let run := b.request
    let f := if 1 ≤ m ∧ m ≤ 15 then m else 0
    (p.accessOpen f = false ∨ p.finds f 3 = false → exec (.mbxDoorbell m) s = toPart s p) ∧
    (p.accessOpen f = true → p.finds f 3 = true →
      (p.fg (MBX_STATUS_STATE m) = 1 ∨ p.fg (MBX_STATUS_STATE m) = 3 → exec (.mbxDoorbell m) s = toPart s (p.fs ⟨MBX_STATUS m, 4, 1⟩ 1)) ∧
      (p.fg (MBX_STATUS_STATE m) ≠ 1 → p.fg (MBX_STATUS_STATE m) ≠ 3 → ∃ q : Part,
        exec (.mbxDoorbell m) s = toPart s (match q.mbxCheck m run with
          | some e => q.mbxFail m e
          | none => q) ∧
        q.mbx m = { b with run := run, order := p.hs.rung, ended := false, step := 0 } ∧ (∀ k, k ≠ m → q.mbx k = p.mbx k) ∧
        q.fg (MBX_STATUS_STATE m) = 1 ∧ q.fg ⟨MBX_STATUS m, 16, 16⟩ = bytesAt run 2 2 ∧ 16 ≤ run.length ∧
        RegsOnly { p with hs := q.hs } q (· = MBX_STATUS m))) ∧
    (p.fg (MBX_STATUS_STATE m) = 1 → b.ended = true → p.pushEnds m = false → ∃ q : Part,
      exec (.mbxCommandDone ⟨m, none⟩) s = toPart s (if bytesAt b.run 6 2 % 2 = 0 ∨ m = 16 then q else if m = 0 then q.sendMsi 0 3 else q.sendMsi m 2) ∧
      q.mbx m = { b with ended := false, step := 0 } ∧ (∀ k, k ≠ m → q.mbx k = p.mbx k) ∧ q.fg (MBX_STATUS_STATE m) = 2 ∧
      q.fg ⟨MBX_DONE m, 0, 32⟩ = (p.fg ⟨MBX_DONE m, 0, 32⟩ + 1) % 2 ^ 32 ∧ RegsOnly { p with hs := q.hs } q (fun k => k = MBX_STATUS m ∨ k = MBX_DONE m)) ∧
    (∀ loc, p.fg (MBX_STATUS_STATE m) = 1 → 4 ≤ b.run.length → ∃ r : Part,
      exec (.mbxCommandDone ⟨m, some loc⟩) s = exec (.mbxCommandDone ⟨m, none⟩) { s with dev := { s.dev with p := r.raiseOp 0x0600 0x0603 none (b.opcode + loc % 2 ^ 32 * 2 ^ 32) } } ∧
      (r.mbx m).ended = true ∧ bytesAt (r.mbx m).rsp 0 4 = bytesAt b.run 0 4 ∧ bytesAt (r.mbx m).rsp 6 1 = 12 ∧ (∀ k, k ≠ m → r.mbx k = p.mbx k) ∧
      (∀ k, k < 17 → r.fg (MBX_STATUS_STATE k) = p.fg (MBX_STATUS_STATE k))) ∧
    (4 ≤ b.run.length → let r := ((p.mbxEnd m e result).mbx m).rsp
      bytesAt r 0 4 = bytesAt b.run 0 4 ∧ bytesAt r 4 2 = result.length % 2 ^ 16 ∧ bytesAt r 6 1 = e.code % 2 ^ 8 ∧ bytesAt r 7 1 = e.reason % 2 ^ 8 ∧
      bytesAt r 8 1 = p.mbxHedge m % 2 ^ 8 ∧ r.drop 16 = result)

/-- The commands that only read (R409, R414, R471, R587, R629, R653, R721, R762, R783, R791): each ends with OK, changes nothing else, and lays out in its results the values that its row of the command table names. -/
def Obligations.MailboxQueries : Prop :=
  ∀ (s : State) (m mw h : Nat), s.part.mbxHedge m = h → s.part.hedgeBad m = false → (vfBox m = true → s.part.hedgeExists m = true) →
    let p := s.part
    let on := fun op => p.serves m op = true
    let bit (b : Bool) := if b then 1 else 0
    let n := p.arg m 0 1
    let k := p.arg m 1 1
    (on 0x0101 → Replies s (.identify m) m [(0, 2, 0x1D5A), (2, 2, 0x7260), (0, 32, leNat (p.ident.map (BitVec.ofNat 8 ·))), (128, 1, p.service), (129, 1, p.fg GBL_STATUS_STAGE)]) ∧
    (on 0x0102 → Replies s (.status m) m [(0, 1, p.service), (1, 1, p.fg GBL_STATUS_STAGE), (2, 1, p.fg LCH_LIFECYCLE_STATE), (3, 1, p.fg GBL_RESET_CAUSE_CAUSE),
      (4, 2, maskOf (upTo 16 p.hedgeExists)), (8, 4, p.fg LCH_BOOT_ATTEMPTS_COUNT), (16, 8, p.time)]) ∧
    (on 0x0103 → ∀ r ∈ cmdTable, ∃ x, Replies s (.opcodes m) m [(0, 480, x)] ∧ (x.testBit (256 * (r.op / 256 - 1) + r.op % 256) = true ↔ r.caller m = true ∧ p.offers r m = true)) ∧
    (on 0x0205 → let H := p.hedge h
      Replies s (.hedgeQuery m) m ([(0, 1, bit (p.hedgeExists h)), (1, 1, bit H.pinned), (2, 1, p.fg DBG_OBSERVED_OBSERVED / 2 ^ h % 2), (3, 1, bit H.image.isSome),
        (4, 1, H.streamPorts), (5, 1, bit H.loopPort), (6, 2, p.fg (TEL_CADENCE_FLOOR h)), (8, 4, H.channels), (16, 8, maskOf (p.brackensOf h)),
        (32, 32, maskOf (p.qpsOf h))] ++ (List.range 8).map fun j => (24 + j, 1, (p.plotsOf h j).length))) ∧
    (on 0x0304 → ∀ q o, p.cmdQp m 0 = some q → (p.qp q).owner = some o → p.arg m 0 2 ≤ (if vfBox m then 31 else 255) → let Q := p.qp q
      Replies s (.queueQuery m) m [(0, 2, p.arg m 0 2), (2, 2, Q.vector), (4, 4, Q.sqSize), (8, 8, Q.sqBase), (16, 8, Q.cqBase), (24, 4, Q.cqSize), (28, 1, o), (29, 1, p.fg (DB_STATE_STATE q))]) ∧
    (on 0x0403 → (∀ im, (p.hedge h).image = some im →
        Replies s (.imageQuery m) m [(0, 1, 1), (1, 1, im.row), (2, 1, im.col), (3, 1, im.rows), (4, 1, im.cols), (8, 32, leNat im.digest)]) ∧
      ((p.hedge h).image = none → Replies s (.imageQuery m) m [(0, 8, 0), (8, 32, 0)])) ∧
    (on 0x0504 → n ≤ 7 → p.hedgeExists h = true → Replies s (.memoryQuery m) m [(0, 1, p.fg (SLC_STATUS_STATE n)), (8, 8, maskOf ((p.plotsOf h n).map (· % 36))),
      (16, 8, maskOf (((p.plotsOf h n).filter fun j => p.flag (SLC_PLOT_STALE j)).map (· % 36)))]) ∧
    (on 0x0603 → n ≤ 7 → k ≤ 15 → p.regionForeign m n k = false → let r := p.region n k
      Replies s (.kvcQuery m) m [(0, 1, n), (1, 1, k), (2, 1, bit r.enable), (3, 1, r.fmt), (4, 1, r.code), (5, 1, r.first), (6, 1, r.plots), (8, 4, r.count), (16, 8, r.index), (24, 8, r.data), (32, 8, r.wptr)]) ∧
    (on 0x0704 → n ≤ 63 → (vfBox m = true → (p.fg (ATU_WIN_CFG_HEDGE_MASK n)).testBit h = true) →
      Replies s (.atuQuery m) m [(0, 1, n), (1, 1, p.fg (ATU_WIN_CFG_ENABLE n)), (2, 1, p.fg (ATU_WIN_CFG_TYPE n) + 16 * p.fg (ATU_WIN_CFG_PSLOT n)),
        (3, 1, p.fg (ATU_WIN_CFG_PRIORITY n)), (4, 2, p.fg (ATU_WIN_CFG_HEDGE_MASK n)), (8, 8, (p.reg (ATU_WIN_BASE n)).toNat), (16, 8, (p.reg (ATU_WIN_LIMIT n)).toNat),
        (24, 8, (p.reg (ATU_WIN_TARGET n)).toNat), (32, 8, (p.reg (ATU_WIN_LOST n)).toNat)]) ∧
    (on 0x0806 → p.sor.rails = true → Replies s (.sorusStatus m) m [(0, 1, p.fg SOR_CTRL_REF_SEL + 128 * p.fg SOR_STATUS_REF_SETTLED),
      (1, 1, p.fg SOR_TRIG_SOURCE + 8 * p.fg SOR_TRIG_ENABLE + 16 * bit p.pairAligned + 32 * p.fg SOR_STATUS_BUSY), (4, 4, (p.hedge h).channels)]) ∧
    (on 0x0901 → (p.loopHere = true → Replies s (.lichenLoopStatus m) m [(0, 1, p.loopSource + 128 * bit p.loopStandby),
        (1, 1, bit p.loop.openLoop + 2 * bit p.loop.noCompliance + 4 * bit (p.loopSource == 0 && p.loop.stale) + 8 * bit (p.loopSource == 0 && p.loop.absent) + 16 * bit p.sensorFault),
        (2, 2, p.fg LCH_LOOP_AUX_HEADROOM_MV), (4, 4, p.loop.setUa), (8, 4, p.fg LCH_LOOP_CURRENT_READ_UA)]) ∧
      (p.loopHere = false → Replies s (.lichenLoopStatus m) m [(0, 1, 0), (1, 1, 32), (2, 2, 0), (4, 4, 0), (8, 4, 0)])) ∧
    (on 0x0906 → 1 ≤ p.arg m 0 2 → p.arg m 0 2 ≤ 127 → p.nvmBusy = false → ∀ r : CoreRec, p.core.log ++ p.core.ret = [r] → r.seq = p.arg m 4 4 →
      ∃ x, exec (.lichenLogRead m) s = toPart s (p.mbxEnd m stOk x) ∧ x.take 2 = natLe 2 1 ∧ x.drop 8 = r.encode) ∧
    (on 0x0A02 → n ≤ 8 → (vfBox m = true → 1 ≤ n ∧ p.portOwner (n - 1) = some m) → Replies s (.denbenPortStatus m) m
      ([(0, 1, p.fg (FRM_STATUS_DEFECTS n)), (1, 1, 2 ^ p.fg (FRM_STATUS_WIDTH n))] ++ (List.range 8).map fun i => (4 + 4 * i, 4, (p.reg (FRM_LAT n i)).toNat))) ∧
    (on 0x0B06 → (vfBox m = true → p.tw.mirrored.testBit h = true) → Replies s (.twinStatus m) m [(0, 1, p.role + 4 * p.fg TWN_STATUS_REQUEST),
      (2, 2, bit (p.tw.partner.any fun q => q.digest != p.pairDigest) + 2 * bit (p.tw.partner.any fun q => q.major != 2) + 4 * bit (p.flag TWN_STATUS_TIME_DISCORD) +
        8 * bit p.tw.split + 16 * bit (p.fg TWN_RESULT_DISCORDS_COUNT != 0) + 32 * bit (p.flag TWN_STATUS_LINK_DOWN) + 64 * bit (p.flag TWN_STATUS_FENCE_FAULT) +
        128 * bit (p.flag TWN_STATUS_SYNCED)), (4, 4, p.term), (8, 4, p.fg TWN_EPOCH_ACKED_EPOCH)]) ∧
    (on 0x0C01 → Replies s (.telemetryRead m mw) m ([(0, 1, p.active), (1, 1, p.fg TEL_VL_STATUS_BAND), (2, 1, p.fg TEL_VL_STATUS_TJ_MAX), (4, 4, mw), (8, 2, p.vl.vdd)] ++
      (List.range 8).map fun j => (16 + j, 1, p.fg (SLC_STATUS_TEMP j)))) ∧
    (on 0x0C02 → Replies s (.telemetryHedge m) m [(0, 1, p.fg (TEL_CADENCE_DEFICIT h)),
      (2, 2, ((p.brackensOf h).filter fun b => p.flag (TEL_TEMPO_MIN_VALID b)).foldl (fun n b => min n (p.fg (TEL_TEMPO_MIN_MIN_RATE b))) 0xFFFF), (4, 2, p.fg (TEL_CADENCE_FLOOR h))]) ∧
    (on 0x0E01 → Replies s (.lifecycleRead m) m [(0, 1, p.fg LCH_LIFECYCLE_STATE), (1, 1, p.fg LCH_LIFECYCLE_PENDING), (4, 4, (p.core.governing.map fun g => g.2.seq).getD 0)]) ∧
    (on 0x0F02 → Replies s (.firmwareStatus m) m [(0, 1, Tab.get 0 0 p.boot.slots), (1, 1, Tab.get 0 1 p.boot.slots), (2, 1, p.fg GBL_BOOT_NEXT), (3, 1, p.fg GBL_STATUS_RUNNING),
      (4, 4, Tab.get 0 0 p.boot.versions), (8, 4, Tab.get 0 1 p.boot.versions)])

/-- HEDGE and QUEUE commands (R343, R345, R348, R369, R370, R415 to R418, R443, R516 to R519, R63): a hedge is created with nothing but its flags, is destroyed with all that it owns once the requests with its PASIDs have completed, and gains or gives up the resources named; its cadence is set; a queue pair is assigned to a hedge or freed, created with its rings at entry 0, PHASE 1 and armed and no counter cleared, and destroyed. -/
def Obligations.HedgeAndQueueCommands : Prop :=
  ∀ (s : State) (m h : Nat), s.part.mbxHedge m = h → h < 16 → s.part.hedgeBad m = false →
    let p := s.part
    let a := p.arg m
    let on := fun op => p.serves m op = true
    (on 0x0201 → a 0 1 ≤ 1 → p.hedgeExists h = false → ∃ q, EndsOk s (.hedgeCreate m) m q ∧
      q.hedge h = { exist := true, pinned := a 0 1 == 1 } ∧ (∀ g, g ≠ h → q.hedge g = p.hedge g) ∧ q.fg ⟨DBG_OBSERVED, h, 1⟩ = 0 ∧
      q.flag (ATU_HEDGE_PINNED h) = (a 0 1 == 1) ∧ q.flag (EVT_CFG_ENABLE h) = false ∧ q.fg (TEL_CADENCE_FLOOR h) = 0) ∧
    (p.hedgeExists h = true →
      (on 0x0202 → h ≠ 0 → (p.mbx m).step = 0 →
        (p.pasidsOf h = [] → ∃ d : Dev, exec (.hedgeDestroy m) s = toDev s (d.onP fun p => p.mbxEnd m stOk []) ∧
          d.p.hedge h = {} ∧ d.p.brackensOf h = [] ∧ d.p.allPlots h = [] ∧ d.p.qpsOf h = [] ∧ d.p.flag (EVT_CFG_ENABLE h) = false) ∧
        ∃ e : Dev, e.p.allPlots h = [] ∧ e.p.qpsOf h = [] ∧ (∀ i < 4, e.p.reg (ATU_PASID h i) = 0) ∧ (e.p.mbx m).step = 1 ∧ (e.p.mbx m).waits = p.pasidsOf h ∧
          ((p.pasidsOf h).any (e.p.pasidReads h) = true → exec (.hedgeDestroy m) s = toDev s e)) ∧
      (on 0x0203 → a 2 1 ≤ 1 → let r : Res := ⟨a 8 8, a 4 4, a 1 1, a 2 1 == 1⟩
        p.resForeign h r = false →
        (a 0 1 = 0 → (∀ b < 64, (a 8 8).testBit b = true → p.brkOwner b = none → (p.fg GBL_BRK_FAIL_FAILED).testBit b = false) →
          ∃ q, EndsOk s (.hedgeAssign m) m q ∧ (∀ b < 64, q.brkOwner b = if (a 8 8).testBit b then some h else p.brkOwner b) ∧
            q.hedge h = { p.hedge h with channels := (p.hedge h).channels ||| a 4 4, streamPorts := (p.hedge h).streamPorts ||| a 1 1, loopPort := (p.hedge h).loopPort || a 2 1 == 1 } ∧
            ∀ g, g ≠ h → q.hedge g = p.hedge g) ∧
        (a 0 1 = 1 → (p.hedge h).image = none →
          ∃ q, EndsOk s (.hedgeAssign m) m q ∧ (∀ b < 64, q.ownsBrk h b = (p.ownsBrk h b && !(a 8 8).testBit b)) ∧
            (∀ c < 32, (q.hedge h).channels.testBit c = ((p.hedge h).channels.testBit c && !(a 4 4).testBit c)) ∧
            (∀ k < 8, (q.hedge h).streamPorts.testBit k = ((p.hedge h).streamPorts.testBit k && !(a 1 1).testBit k)) ∧
            (q.hedge h).loopPort = ((p.hedge h).loopPort && !(a 2 1 == 1)) ∧ ∀ g, g ≠ h → q.hedge g = p.hedge g)) ∧
      (on 0x0204 → a 2 1 ≤ 1 → ∃ q, EndsOk s (.hedgeCadence m) m q ∧ q.fg (TEL_CADENCE_FLOOR h) = a 0 2 ∧ q.flag (TEL_CADENCE_ENABLE h) = (a 2 1 == 1)) ∧
      (on 0x0301 → a 2 2 ≤ 255 → (p.qp (a 2 2)).exist = false →
        (a 0 1 = 0 → (p.qp (a 2 2)).owner = none → (p.qpsOf h).length < 32 → ∃ q, EndsOk s (.queueAssign m) m q ∧
          (q.qp (a 2 2)).owner = some h ∧ ∀ k, k ≠ a 2 2 → q.qp k = p.qp k) ∧
        (a 0 1 = 1 → (p.qp (a 2 2)).owner = some h → ∃ q, EndsOk s (.queueAssign m) m q ∧ q.qp (a 2 2) = {} ∧ ∀ k, k ≠ a 2 2 → q.qp k = p.qp k)) ∧
      (∀ n, p.cmdQp m 0 = some n → a 0 2 ≤ (if vfBox m then 31 else 255) → (p.qp n).owner = some h →
        (on 0x0302 → (p.qp n).exist = false → (if h = 0 then 4 ≤ a 2 2 ∧ a 2 2 ≤ 511 else 3 ≤ a 2 2 ∧ a 2 2 ≤ 31) →
          ringSizeOk (a 4 4) = true → ringSizeOk (a 24 4) = true → a 8 8 % 4096 = 0 → a 16 8 % 4096 = 0 →
          ∃ (q : Part) (r : List Byte), exec (.queueCreate m) s = toPart s (q.mbxEnd m stOk r) ∧
            bytesAt r 0 2 = ((p.qpsOf h).takeWhile (· != n)).length % 2 ^ 16 ∧
            q.qp n = { owner := some h, exist := true, vector := a 2 2, sqSize := a 4 4, sqBase := a 8 8, cqBase := a 16 8, cqSize := a 24 4 } ∧
            (∀ k, k ≠ n → q.qp k = p.qp k) ∧ q.fg (DB_SQ_HEAD_HEAD n) = 0 ∧ q.fg (DB_CQ_TAIL_TAIL n) = 0 ∧ q.fg (DB_CQ_TAIL_PHASE n) = 1 ∧
            q.fg (DB_STATE_STATE n) = 1 ∧ q.fg (DB_STATE_ARMED n) = 1 ∧ q.fg (DB_STATE_PENDING n) = 0 ∧ q.fg (DB_STATE_HEDGE n) = h ∧
            ∀ k, k ≠ DB_SQ_HEAD n → k ≠ DB_CQ_TAIL n → k ≠ DB_STATE n → q.reg k = p.reg k) ∧
        (on 0x0303 → (p.qp n).exist = true → ∃ q, EndsOk s (.queueDestroy m) m q ∧ q.qp n = { owner := some h } ∧
          (∀ k, k ≠ n → q.qp k = p.qp k) ∧ q.reg (DB_STATE n) = Tab.get 0 (DB_STATE n) resetRegs ∧ ∀ id, q.npOf (.send n id) = none))) ∧
    (on 0x0202 → h ≠ 0 → (p.mbx m).step ≠ 0 →
      ((p.mbx m).waits.any (p.pasidReads h) = true → exec (.hedgeDestroy m) s = .next s) ∧
      ((p.mbx m).waits.any (p.pasidReads h) = false → ∃ d : Dev, exec (.hedgeDestroy m) s = toDev s (d.onP fun p => p.mbxEnd m stOk []) ∧
        d.p.hedge h = {} ∧ d.p.flag (EVT_CFG_ENABLE h) = false))

/-- IMAGE, MEMORY, KVC and ATU commands (R202 to R206, R209, R214 to R217, R247 to R249, R312, R326, R419 to R421, R438 to R443, R459, R464): a bind reads its image by outbound requests, and one whose digest agrees binds it; one that finds an image bound, or that Moss does not take, sets IMAGE and names no rule; an unbind clears its fronds and keeps its plots; plots, plot-map entries, codec regions and claims, windows and PASID slots are set as the arguments say, a disabled COHERENT window's lines leave the cache, and translations of a range are removed. -/
def Obligations.ImageMemoryAndWindowCommands : Prop :=
  ∀ (s : State) (m h t : Nat) (b : Bind) (r : NpReq) (data : List Byte) (bad : List (Nat × Nat)) (g : SilImage) (d : Dev), s.part.mbxHedge m = h → h < 16 → s.part.hedgeBad m = false → s.part.hedgeExists h = true →
    let p := s.part
    let a := p.arg m
    let on := fun op => p.serves m op = true
    let first : Bind := { mbx := m, hedge := h, row := a 0 1, col := a 1 1, addr := a 8 8, size := a 16 8, stage := 0 }
    let free := fun (l : List Nat) => ∀ j ∈ l, p.plotOwner j = none ∨ p.plotOwner j = some h
    let waits := fun (q : Part) => q.updMbx m fun b => { b with step := 1 }
    let js := ((List.range 36).filter ((a 8 8).testBit ·)).map (36 * a 1 1 + ·)
    (on 0x0401 → p.bindOf m = none →
      (∀ im, (p.hedge h).image = some im → exec (.imageBind m) s = toPart s ((p.setVfIrq h 2).mbxEnd m ⟨6, 2⟩ (List.replicate 8 0))) ∧
      ((p.hedge h).image = none → p.service ≤ 1 → a 0 1 ≠ 0 ∨ a 1 1 ≠ 0 → exec (.imageBind m) s = toPart s ((p.setVfIrq h 2).mbxEnd m stMoss (List.replicate 8 0))) ∧
      ((p.hedge h).image = none → 2 ≤ p.service ∨ a 0 1 = 0 ∧ a 1 1 = 0 → 0 < a 16 8 →
        s.dev.hostRead (.mp m) 0 (a 8 8) (min (min (a 16 8) (4096 - a 8 8 % 4096)) p.maxRead) = (.tag t, d) →
        exec (.imageBind m) s = toDev s (d.onP fun p => p.setBind m (some { first with tag := some t })))) ∧
    (on 0x0401 → p.bindOf m = some b → b.tag = some t → p.np t = some r → r.phase = .back data bad → (∀ x ∈ bad, x.1 = 0) →
      b.stage = 1 → b.size ≤ b.got.length + data.length → parseImage b.size b.first = .ok g → imageDigest (b.got ++ data) = g.digest →
      (p.service ≤ 1 → g.mossOk b.row b.col = true) →
      ∃ (e : Dev) (x : List Byte), exec (.imageFetchDone m) s = toDev s (e.onP fun p => p.mbxEnd m stOk x) ∧
        bytesAt x 0 32 = leNat g.digest % 2 ^ 256 ∧ bytesAt x 32 2 = g.floor % 2 ^ 16 ∧ (e.p.hedge b.hedge).image.isSome = true ∧ e.p.bindOf m = none) ∧
    (on 0x0402 → (p.hedge h).image.isSome = true → ∃ q, EndsOk s (.imageUnbind m) m q ∧ (q.hedge h).image = none ∧
      (∀ j < 288, q.plotOwner j = p.plotOwner j) ∧ ∀ f, p.ownsBrk h (f / 64) = true → f < 4096 → q.frond f = {} ∧ ∀ st < 256, q.route (f / 64) st = none) ∧
    (on 0x0501 → a 1 1 ≤ 7 → a 8 8 < 2 ^ 36 → free js →
      (a 0 1 = 0 → ∃ q, EndsOk s (.memoryPlots m) m q ∧ ∀ j < 288, q.plotOwner j = if j ∈ js then some h else p.plotOwner j) ∧
      (a 0 1 = 1 → ∃ e : Dev, exec (.memoryPlots m) s = toDev s (e.onP fun p => p.mbxEnd m stOk []) ∧
        ∀ j < 288, e.p.plotOwner j = if j ∈ js then none else p.plotOwner j)) ∧
    (on 0x0502 → a 2 2 < 288 → a 4 1 ≤ 1 → (a 0 1 = 0 → ∃ q, EndsOk s (.memoryMap m) m q ∧ RegsOnly p q (· = (SLC_PMAP_PF_PLOT (a 1 1)).reg) ∧
        q.fg (SLC_PMAP_PF_PLOT (a 1 1)) = a 2 2 ∧ q.fg (SLC_PMAP_PF_VALID (a 1 1)) = a 4 1) ∧
      (1 ≤ a 0 1 → a 0 1 ≤ 15 → a 1 1 ≤ 15 → p.plotOwner (a 2 2) = some (a 0 1) → ∃ q, EndsOk s (.memoryMap m) m q ∧
        RegsOnly p q (· = (SLC_PMAP_VF_PLOT (a 0 1) (a 1 1)).reg) ∧ q.fg (SLC_PMAP_VF_PLOT (a 0 1) (a 1 1)) = a 2 2 ∧ q.fg (SLC_PMAP_VF_VALID (a 0 1) (a 1 1)) = a 4 1)) ∧
    (on 0x0503 → a 0 1 ≤ 2 → p.nvmBusy = false → EndsOk s (.memoryBar2Size m) m (({ p with ep := { p.ep with bar2Nvm := a 0 1 } } : Part).incE LCH_NVM_WRITES_COUNT)) ∧
    (on 0x0601 → p.regionForeign m (a 0 1) (a 1 1) = false → a 0 1 ≤ 7 → a 1 1 ≤ 15 →
      (a 2 1 = 0 → EndsOk s (.kvcRegion m) m (p.fs (KVC_RGN_CFG_ENABLE (a 0 1) (a 1 1)) 0)) ∧
      (a 2 1 = 1 → a 3 1 < 4 → a 4 1 < 16 → a 8 4 < 2 ^ 24 → a 16 8 < 2 ^ 34 → a 24 8 < 2 ^ 34 → a 32 8 < 2 ^ 34 → a 5 1 < 64 → a 6 1 < 64 →
        let ok := p.regionLegal (a 0 1) (a 1 1) (p.argRegion m)
        ((p.region (a 0 1) (a 1 1)).enable = false → ∃ q : Part, exec (.kvcRegion m) s = toPart s (q.mbxEnd m (if ok then stOk else stBadArg) []) ∧
          q.region (a 0 1) (a 1 1) = { enable := ok, hedge := h, fmt := a 3 1, code := a 4 1, first := a 5 1, plots := a 6 1, index := a 16 8, count := a 8 4, data := a 24 8, wptr := a 32 8 }) ∧
        ((p.region (a 0 1) (a 1 1)).enable = true → ok = true → EndsWith s (.kvcRegion m) m stInUse))) ∧
    (on 0x0602 → a 0 1 ≤ 7 → ∃ q, EndsOk s (.kvcClaim m) m q ∧ ∀ k, q.reg k =
      if 8 * h ≤ (k - KVC_SMAP (a 0 1) 0) / 4 ∧ (k - KVC_SMAP (a 0 1) 0) / 4 < 8 * h + 8 ∧ k % 4 = 0 ∧ KVC_SMAP (a 0 1) 0 ≤ k then
        BitVec.ofNat 64 (a (8 + (k - KVC_SMAP (a 0 1) 0 - 32 * h)) 4) else p.reg k) ∧
    (on 0x0701 → a 0 1 ≤ 63 → a 2 1 &&& 0xC8 = 0 →
      (a 1 1 = 0 → ∃ q, EndsOk s (.atuWindow m) m q ∧ q.flag (ATU_WIN_CFG_ENABLE (a 0 1)) = false ∧
        (p.flag (ATU_WIN_CFG_ENABLE (a 0 1)) = true → p.fg (ATU_WIN_CFG_TYPE (a 0 1)) = 3 → let lo := (p.reg (ATU_WIN_TARGET (a 0 1))).toNat
          ∀ k, lo / 64 ≤ k → 64 * k < lo + ((p.reg (ATU_WIN_LIMIT (a 0 1))).toNat - (p.reg (ATU_WIN_BASE (a 0 1))).toNat + 1) → q.line k = none)) ∧
      (a 1 1 = 1 → (a 2 1 % 8 = 3 → p.ep.cxl = true ∧ p.cohWindows < 16) → p.flag (ATU_WIN_CFG_ENABLE (a 0 1)) = false →
        windowOk (a 8 8) (a 16 8) (a 24 8) (a 4 2) (a 2 1 % 8) (a 2 1 / 16 % 4) (a 3 1) = true → ∃ q, EndsOk s (.atuWindow m) m q ∧
        q.flag (ATU_WIN_CFG_ENABLE (a 0 1)) = true ∧ (q.reg (ATU_WIN_BASE (a 0 1))).toNat = a 8 8 ∧ (q.reg (ATU_WIN_LIMIT (a 0 1))).toNat = a 16 8 ∧ (q.reg (ATU_WIN_TARGET (a 0 1))).toNat = a 24 8 ∧
        q.fg (ATU_WIN_CFG_TYPE (a 0 1)) = a 2 1 % 8 ∧ q.fg (ATU_WIN_CFG_PSLOT (a 0 1)) = a 2 1 / 16 % 4 ∧ q.fg (ATU_WIN_CFG_PRIORITY (a 0 1)) = a 3 1 ∧ q.fg (ATU_WIN_CFG_HEDGE_MASK (a 0 1)) = a 4 2)) ∧
    ((p.mbx m).step = 0 → on 0x0702 → (a 0 1 ≤ 3 → a 4 4 ≤ 0xFFFFF → p.flag (ATU_PASID_VALID h (a 0 1)) = false → p.pasidHeld (a 4 4) = false →
        ∃ q, EndsOk s (.atuPasid m) m q ∧ q.flag (ATU_PASID_VALID h (a 0 1)) = true ∧ q.fg (ATU_PASID_PASID h (a 0 1)) = a 4 4) ∧
      (0x10 ≤ a 0 1 → a 0 1 ≤ 0x13 → p.pasidReads h (p.fg (ATU_PASID_PASID h (a 0 1 % 16))) = false → p.flag (ATU_PASID_VALID h (a 0 1 % 16)) = true →
        ∃ q, EndsOk s (.atuPasid m) m q ∧ q.reg (ATU_PASID h (a 0 1 % 16)) = 0 ∧
          ∀ e ∈ q.hs.atu.atc, ¬ (e.fn = h ∧ e.pasid = p.fg (ATU_PASID_PASID h (a 0 1 % 16)))) ∧
      (0x10 ≤ a 0 1 → a 0 1 ≤ 0x13 → p.pasidReads h (p.fg (ATU_PASID_PASID h (a 0 1 % 16))) = true → p.flag (ATU_PASID_VALID h (a 0 1 % 16)) = true →
        exec (.atuPasid m) s = toPart s (waits (p.pasidOff h (a 0 1 % 16))))) ∧
    ((p.mbx m).step = 0 → on 0x0703 → (vfBox m = true → p.pasidOwn h (a 0 4) = true) → a 8 8 % 4096 = 0 → a 16 8 % 4096 = 0 → a 0 4 ≤ 0xFFFFF → p.hs.atu.np = [] → p.hs.atu.posted = [] → p.hs.atu.xl = [] →
      ∃ q, EndsOk s (.atuInvalidate m) m q ∧ q.hs.atu.atc = p.hs.atu.atc.filter fun e =>
        !(decide (e.fn = h ∧ e.pasid = a 0 4) && (decide (a 16 8 = 0) || overlaps (a 8 8) (a 16 8) (e.page / 2 ^ e.bits * 2 ^ e.bits) (2 ^ e.bits))))

/-- SORUS and LICHEN commands (R15, R559, R577, R581, R584, R585, R587, R622 to R624, R626, R638, R642, R805): settings, triggers and alarms are written as the arguments say; a slow read answers its sample words with TSEQ zero; a test or a calibration takes its converters at its first part and frees them at its end, and a calibration needs a life-cycle state in which trims may be written; a command that an absent die cannot answer returns TIMEOUT; a loop configuration waits for loop NVM, and a calibration drives and records its two points. -/
def Obligations.SorusAndLichenCommands : Prop :=
  ∀ (s : State) (m n mask : Nat) (pins : List (List (Int × Int))) (trims : List (List (Nat × Nat))),
    let p := s.part
    let a := p.arg m
    let on := fun op => p.serves m op = true
    let step := (p.mbx m).step
    let waits := fun (q : Part) => q.updMbx m fun b => { b with step := 1 }
    (on 0x0801 → a 0 1 ≤ 31 → a 8 8 < 256 → a 8 8 / 16 % 4 ≠ 3 → a 8 8 / 64 % 4 ≠ 3 → p.sor.rails = true → ∃ q, EndsOk s (.sorusConfig m) m q ∧
      q.reg (SOR_CH (a 0 1)) = BitVec.ofNat 64 (a 8 8) ∧ (∀ k, k ≠ SOR_CH (a 0 1) → q.reg k = p.reg k) ∧
      (p.sor.busy.testBit (a 0 1 / 4) = true → q.sorWord (SOR_CH (a 0 1)) = p.sorWord (SOR_CH (a 0 1)))) ∧
    (on 0x0802 → a 0 1 ≤ 5 → a 1 1 ≤ 1 → (a 0 1 = 3 ∨ a 0 1 = 4 → p.minPeriod ≤ a 4 4 ∧ p.fg SOR_TRIG_PHASE_PHASE < a 4 4) → p.sor.rails = true → ∃ q, EndsOk s (.sorusTrigger m) m q ∧
      q.fg SOR_TRIG_SOURCE = a 0 1 ∧ q.flag SOR_TRIG_ENABLE = (a 1 1 == 1) ∧ q.fg SOR_TRIG_PAIR_HOLD = p.fg SOR_TRIG_PAIR_HOLD ∧
      q.fg SOR_TRIG_PERIOD_PERIOD = (if a 0 1 = 3 ∨ a 0 1 = 4 then a 4 4 else p.fg SOR_TRIG_PERIOD_PERIOD) ∧
      RegsOnly { p with sor := q.sor } q (fun k => k = SOR_TRIG ∨ k = SOR_TRIG_PERIOD ∨ k = SOR_STATUS)) ∧
    (on 0x0803 → a 0 2 = n → a 4 4 = mask → 1 ≤ n → n ≤ 900 → mask ≠ 0 → p.hedgeBad m = false →
      (vfBox m = true → mask &&& (p.hedge (p.mbxHedge m)).channels = mask) → p.fg SOR_TRIG_SOURCE = 0 → convsOf mask &&& p.sor.busy = 0 → p.sor.rails = true →
      ∃ (q : Part) (r : List Byte), exec (.sorusSlowRead m pins) s = toPart s (q.mbxEnd m stOk r) ∧ r.length = 4 + 4 * n ∧ bytesAt r 0 4 = n ∧
        (∀ i < n, bytesAt r (4 + 4 * i) 4 % 512 = 1 + 2 * (channelsOf mask).getD (i % (channelsOf mask).length) 0) ∧ q.fg SOR_TSEQ_TSEQ = p.fg SOR_TSEQ_TSEQ) ∧
    (∀ c, c = Instr.sorusOpenWireTest m pins ∧ on 0x0804 ∨ c = Instr.sorusCalibrate m trims ∧ on 0x0805 ∧ (p.lifeCycle = 2 ∨ p.lifeCycle = 4) → step = 0 → a 0 4 ≠ 0 →
      p.flag SOR_STATUS_REF_SETTLED = true → convsOf (a 0 4) &&& p.sor.busy = 0 → p.sor.rails = true →
      exec c s = toPart s (waits ((p.setFlag SOR_STATUS_BUSY true).updSor fun x => { x with busy := convsOf (a 0 4), user := some m }))) ∧
    (on 0x0805 → step = 0 → a 0 4 ≠ 0 → p.lifeCycle ≠ 2 → p.lifeCycle ≠ 4 → EndsWith s (.sorusCalibrate m trims) m stLife) ∧
    (on 0x0806 → p.hedgeBad m = false → p.sor.rails = false → ∃ q : Part, exec (.sorusStatus m) s = toPart s (q.mbxEnd m stTimeout [])) ∧
    (on 0x0804 → step ≠ 0 → p.sor.rails = true → ∃ (q : Part) (r : List Byte), exec (.sorusOpenWireTest m pins) s = toPart s (q.mbxEnd m stOk r) ∧
      q.sor.busy = 0 ∧ q.sor.inUse = [] ∧ q.flag SOR_STATUS_BUSY = false ∧ r.length = 32 ∧
      ∀ c < 32, if (a 0 4).testBit c then bytesAt r c 1 % 2 = 1 else bytesAt r c 1 = 0) ∧
    (on 0x0805 → step ≠ 0 → p.sor.rails = true → ∃ q, EndsOk s (.sorusCalibrate m trims) m q ∧ q.sor.busy = 0 ∧ q.sor.inUse = [] ∧ q.flag SOR_STATUS_BUSY = false ∧
      ∀ k < 8, ∀ g < 4, let t := (trims.getD k []).getD g (0, 0)
        if (convsOf (a 0 4)).testBit k then q.fg (SOR_TRIM_OFFSET k g) = t.1 % 2 ^ 16 ∧ q.fg (SOR_TRIM_GAIN k g) = t.2 % 2 ^ 16 ∧ (q.fg SOR_STATUS_CAL_SELF).testBit k = true
        else q.reg (SOR_TRIM k g) = p.reg (SOR_TRIM k g)) ∧
    (on 0x0902 → step = 0 → (loopCfgOk (p.argConfig m) = false → EndsWith s (.lichenLoopConfig m) m stRange) ∧
      (loopCfgOk (p.argConfig m) = true → p.loopHere = true →
        exec (.lichenLoopConfig m) s = toPart s (waits (p.queueWrite ⟨{ p.lastCfg with loop := p.argConfig m }, none, some m, false⟩)))) ∧
    (on 0x0907 → step = 0 → (hartCfgOk (p.argConfig m) = false → EndsWith s (.lichenHartConfig m) m stRange) ∧
      (hartCfgOk (p.argConfig m) = true → p.loopHere = true →
        exec (.lichenHartConfig m) s = toPart s (waits (p.queueWrite ⟨{ p.lastCfg with hart := p.argConfig m }, none, some m, false⟩)))) ∧
    (on 0x0903 → step = 0 → p.loopHere = true →
      let v := a 4 4
      let q := fun c => (p.updLoop fun l => { l with cal := c }).loopSettle
      (p.fg LCH_LIFECYCLE_STATE ≠ 4 → a 0 1 = 0 → EndsWith s (.lichenLoopCalibrate m) m stLife) ∧
      (p.fg LCH_LIFECYCLE_STATE = 4 →
        (a 0 1 = 0 → 3 ≤ p.loop.level → EndsOk s (.lichenLoopCalibrate m) m (q (some { point := 4000, last := p.clock }))) ∧
        (∀ c, p.loop.cal = some c →
          (a 0 1 = 1 → c.point = 4000 → 3900 ≤ v → v ≤ 4100 → EndsOk s (.lichenLoopCalibrate m) m (q (some { c with four := some v, last := p.clock }))) ∧
          (a 0 1 = 2 → EndsOk s (.lichenLoopCalibrate m) m (q (some { c with point := 20000, last := p.clock }))) ∧
          (a 0 1 = 3 → c.point = 20000 → 19900 ≤ v → v ≤ 20100 → EndsOk s (.lichenLoopCalibrate m) m (q (some { c with twenty := some v, last := p.clock }))) ∧
          (a 0 1 = 4 → ∀ x y, c.four = some x → c.twenty = some y →
            exec (.lichenLoopCalibrate m) s = toPart s (waits ((q none).queueWrite ⟨(q none).lastCfg, some (x, y), some m, false⟩))) ∧
          (a 0 1 = 5 → EndsOk s (.lichenLoopCalibrate m) m (q none))))) ∧
    (on 0x0904 → a 0 1 ≤ 4 → a 1 1 ≤ 2 → a 2 1 ≤ 1 → (a 0 1 = 4 → a 2 1 = 0) → p.nvmBusy = false → ∃ q, EndsOk s (.lichenAlarmConfig m) m q ∧
      q.alarmAct (a 0 1) = a 1 1 ∧ q.alarmPol (a 0 1) = (a 2 1 == 1) ∧ ∀ j < 5, j ≠ a 0 1 → q.alarmAct j = p.alarmAct j ∧ q.alarmPol j = p.alarmPol j) ∧
    (on 0x0905 → (a 0 1 = 0 → Replies s (.lichenRtc m) m [(0, 8, p.rtcNow)]) ∧
      (a 0 1 = 1 → ∃ q : Part, exec (.lichenRtc m) s = toPart s (q.mbxEnd m stOk (natLe 8 (a 8 8))) ∧ q.rtcNow = a 8 8 ∧ q.flag LCH_CORE_STATUS_RTC_VALID = true))

/-- DENBEN and TWIN commands (R689, R709, R710, R717, R719, R720, R726, R728 to R730, R736, R755, R758, R760): a port takes its settings and a serial port its channel; a retrain or a width request starts; the pair's configuration, roles and mirror regions are set as the arguments say; a veto and a resynchronization act on a hold and on a formed pair. -/
def Obligations.DenbenAndTwinCommands : Prop :=
  ∀ (s : State) (m h : Nat),
    let p := s.part
    let a := p.arg m
    let on := fun op => p.serves m op = true
    let step := (p.mbx m).step
    let waits := fun (q : Part) => q.updMbx m fun b => { b with step := 1 }
    let b := ((p.mbx m).args.drop 8 ++ List.replicate 16 0).take 16
    let f := fun i => bytesAt b i 1
    let pair := p.role = 1 ∨ p.role = 2
    (on 0x0A01 → a 0 1 ≤ 8 → fawOk b = true → settingsOk (a 0 1) b = true → ∃ q, EndsOk s (.denbenPortConfig m) m q ∧ let k := a 0 1
      q.fg (FRM_CTRL_ENABLE k) = f 0 ∧ 2 ^ q.fg (FRM_CTRL_MAX_WIDTH k) = f 1 ∧ q.fg (FRM_CTRL_FAW_TOL k) = f 2 ∧ q.fg (FRM_CTRL_FAW_N k) = f 3 ∧
      q.fg (FRM_CTRL_FAW_M k) = f 4 ∧ q.fg (FRM_CTRL_AUTO_WIDTH k) = f 5 ∧ q.fg (FRM_CTRL_FORCE_AIS k) = f 6 ∧ q.fg (FRM_CTRL_SLIP_STREAM k) = f 7 ∧
      (∀ r, r ≠ FRM_CTRL k → q.reg r = p.reg r) ∧ ∀ j, j ≠ 0 → q.frm j = p.frm j) ∧
    (on 0x0A03 → a 0 1 ≤ 3 → a 1 1 ≤ 8 → a 2 1 ≤ 1 →
      (a 3 1 = 0 → ∃ q, EndsOk s (.denbenDccMap m) m q ∧ q.fg (FRM_DCC_ENABLE (a 0 1)) = 0 ∧ RegsOnly p q fun k => ∃ e < 4, k = FRM_DCC e) ∧
      (a 3 1 = 1 → (∀ e < 4, e ≠ a 0 1 → p.flag (FRM_DCC_ENABLE e) = true → ¬ (p.fg (FRM_DCC_PORT e) = a 1 1 ∧ p.fg (FRM_DCC_CHANNEL e) = a 2 1)) → ¬ (a 1 1 = 0 ∧ a 2 1 = 1 ∧ pair) →
        ∃ q, EndsOk s (.denbenDccMap m) m q ∧ q.fg (FRM_DCC_PORT (a 0 1)) = a 1 1 ∧ q.fg (FRM_DCC_CHANNEL (a 0 1)) = a 2 1 ∧ q.fg (FRM_DCC_ENABLE (a 0 1)) = 1 ∧
        q.flag (FRM_DCC_SUSPENDED (a 0 1)) = false ∧ RegsOnly p q fun k => ∃ e < 4, k = FRM_DCC e) ∧
      (a 3 1 = 1 → a 1 1 = 0 → a 2 1 = 1 → pair → EndsWith s (.denbenDccMap m) m stInUse)) ∧
    (on 0x0A04 → step = 0 → a 0 1 ≤ 8 → (a 1 1 = 0 → EndsOk s (.denbenRetrain m) m (p.startRetrain (a 0 1) 0)) ∧
      (a 0 1 ≠ 0 → a 1 1 = 1 → EndsOk s (.denbenRetrain m) m p) ∧
      (∀ w ≤ 3, a 0 1 = 0 → a 1 1 = 2 ^ w → w ≤ p.fg (FRM_CTRL_MAX_WIDTH 0) →
        (p.widthBusy 0 = false → EndsOk s (.denbenRetrain m) m (p.widthRequest w (p.lanesFor (2 ^ w)) 2)) ∧
        (p.widthBusy 0 = true → exec (.denbenRetrain m) s = toPart s (waits p)))) ∧
    (on 0x0B01 → a 0 1 ≤ 2 → 200 ≤ a 4 4 → a 4 4 ≤ 1000000 → 50 ≤ a 8 4 → a 8 4 ≤ 100000 → 50 ≤ a 12 4 → a 12 4 ≤ 1000000 → ¬ pair →
      ∃ q : Part, exec (.twinConfig m) s = toPart s (q.mbxEnd m stOk q.pairDigest) ∧ q.tw.delay = a 4 4 ∧ q.tw.epochUs = a 8 4 ∧ q.tw.limitNs = a 12 4 ∧
        q.twinMode = a 0 1 ∧ q.role = (if a 0 1 = 0 then 0 else 3)) ∧
    (on 0x0B02 → step = 0 → p.role ≠ 0 →
      (a 0 1 = 1 → p.role = 1 → Replies s (.twinRole m) m [(0, 4, p.term)]) ∧
      (a 0 1 = 1 → p.role = 3 → p.partnerRole 1 = true → p.tw.split = false → EndsWith s (.twinRole m) m stPartner) ∧
      (a 0 1 = 1 → p.role = 3 → p.partnerRole 1 = false ∨ p.tw.split = true → p.tw.promote = none →
        exec (.twinRole m) s = toPart s (waits (p.updTwin fun t => { t with promote := some ⟨0, p.nextTerm, some m⟩ }))) ∧
      (a 0 1 = 2 → p.role ≠ 2 → ∃ q : Part, exec (.twinRole m) s = toPart s (q.mbxEnd m stOk (natLe 4 p.term)) ∧ q.role = 3 ∧ q.fg TWN_STATUS_REQUEST = 2) ∧
      (a 0 1 = 3 → ∃ q : Part, exec (.twinRole m) s = toPart s (q.mbxEnd m stOk (natLe 4 p.term)) ∧ q.role = 3 ∧ q.fg TWN_STATUS_REQUEST = 0)) ∧
    (on 0x0B03 → p.mbxHedge m = h → h < 16 → p.hedgeMissing m = false → ¬ pair →
      (a 1 1 = 0 → a 0 1 ≤ 63 → ∃ q, EndsOk s (.twinMirror m) m q ∧ RegsOnly p q (fun k => k = TWN_MIR (a 0 1) ∨ k = TWN_MIR_HI (a 0 1)) ∧ q.mirRegion (a 0 1) = none) ∧
      (a 1 1 = 1 → a 0 1 ≤ 63 → p.mirOk h (a 0 1) (a 2 2) (a 8 8) (a 16 8) = true → ∃ q, EndsOk s (.twinMirror m) m q ∧
        RegsOnly p q (fun k => k = TWN_MIR (a 0 1) ∨ k = TWN_MIR_HI (a 0 1)) ∧ q.mirRegion (a 0 1) = some (a 2 2, a 8 8, a 16 8, h)) ∧
      (a 1 1 = 2 ∨ a 1 1 = 3 → ∃ x, EndsOk s (.twinMirror m) m (p.updTwin fun t => { t with mirrored := x }) ∧
        ∀ g, x.testBit g = if g = h then a 1 1 == 2 else p.tw.mirrored.testBit g)) ∧
    (on 0x0B04 → (p.flag TWN_STATUS_HOLD = false → EndsWith s (.twinVeto m) m stState) ∧
      (p.flag TWN_STATUS_HOLD = true → ∃ q, EndsOk s (.twinVeto m) m q ∧ q.role = 3 ∧ q.flag TWN_STATUS_HOLD = false ∧ q.tw.formed = false)) ∧
    (on 0x0B05 → step = 0 → a 0 1 ≤ 1 → (p.role = 0 ∨ p.role = 3 → EndsWith s (.twinResync m) m stState) ∧
      (pair → p.tw.formed = true → let q := waits (p.updTwin fun t => { t with resync := some m })
        (p.role = 1 → a 0 1 = 0 → exec (.twinResync m) s = toPart s (q.updTwin fun t => { t with copy := true })) ∧
        (p.role = 1 → a 0 1 = 1 → exec (.twinResync m) s = toPart s (q.fs TWN_STATUS_REQUEST 2)) ∧
        (p.role = 2 → a 0 1 = 1 → exec (.twinResync m) s = toPart s (q.setFlag TWN_STATUS_SYNCED false)) ∧
        (p.role = 2 → a 0 1 = 0 → exec (.twinResync m) s = toPart s (q.fs TWN_STATUS_REQUEST 1))))

/-- Debug access (R188, R316, R534, R537 to R545, R548): DEBUG commands move store ranges to and from host memory, halt, resume and step a frond, and start and stop captures; apertures read and write one store word, a program store only while its frond is stopped or halted, and a path that does not reach the debug block changes nothing; the register mirror reads without an effect on the register; JTAG reaches all of it; each access to a hedge's resource sets OBSERVED first. -/
def Obligations.DebugAccess : Prop :=
  ∀ (s : State) (m f st off len width t : Nat) (path : Path) (v coin : Dword) (op : FOp) (b : Bind) (r : NpReq) (data : List Byte) (bad : List (Nat × Nat)) (d : Dev), f < 4096 → f % 64 < 48 → st ≤ 2 →
    let p := s.part
    let a := p.arg m
    let on := fun op => p.serves m op = true
    let F := p.frond f
    let seen := p.observeBrk (f / 64)
    let good := ∀ w, F.eccAt st w = 0
    let byte := fun (G : Frond) x => BitVec.ofNat 8 ((G.word st (x / 8)).toNat >>> (8 * (x % 8)))
    let range := a 0 2 = f ∧ a 2 1 = st ∧ a 4 4 = off ∧ a 8 4 = len ∧ off + len ≤ 8 * storeWords st
    let first : Bind := { mbx := m, hedge := 0, row := 0, col := 0, addr := a 16 8, size := len, stage := 0 }
    let waits := fun (q : Part) => q.updMbx m fun b => { b with step := 1 }
    (on 0x0D01 → range → (p.mbx m).step = 0 → good → 0 < len → len ≤ 4096 - a 16 8 % 4096 →
      ({ s.dev with p := seen } : Dev).hostWrite (.mp m) 0 (a 16 8) ((List.range len).map fun i => byte F (off + i)) = (.done, d) →
      exec (.debugStoreRead m) s = toDev s (d.onP fun p => p.mbxEnd m stOk [])) ∧
    (on 0x0D02 → range → (p.mbx m).step = 0 → 0 < len → p.bindOf m = none →
      ({ s.dev with p := seen } : Dev).hostRead (.mp m) 0 (a 16 8) (min (min len (4096 - a 16 8 % 4096)) seen.maxRead) = (.tag t, d) →
      exec (.debugStoreWrite m) s = toDev s (d.onP fun p => waits (p.setBind m (some { first with tag := some t })))) ∧
    (on 0x0D02 → range → (p.mbx m).step ≠ 0 → p.bindOf m = some b → b.tag = some t → p.np t = some r → r.phase = .back data bad → (∀ x ∈ bad, x.1 = 0) →
      b.size = len → b.got.length + data.length = len → good → (st = 2 → F.running = false ∨ F.halted = true) →
      ∃ q, EndsOk s (.debugStoreWrite m) m q ∧ (∀ g, g ≠ f → q.frond g = p.frond g) ∧ (st = 2 → (q.frond f).needLoad = false) ∧
        ∀ x, byte (q.frond f) x = if off ≤ x ∧ x < off + len then (b.got ++ data).getD (x - off) 0 else byte F x) ∧
    (on 0x0D03 → a 0 2 = f → a 2 1 ≤ 2 → (a 2 1 ≠ 0 → F.halted = true) → (a 2 1 = 2 → a 4 4 = 1 ∧ F.running = true ∧ F.nextOp = some op) →
      ∃ (q : Part) (x : List Byte), exec (.debugFrond m) s = toPart s (q.mbxEnd m stOk x) ∧
        q = (if a 2 1 = 0 then seen.updFrond f Frond.halt else if a 2 1 = 1 then seen.updFrond f fun F => { F with halted := false }
          else ((seen.updFrond f fun F => { F with halted := false }).frondFetch f op).updFrond f Frond.halt) ∧
        bytesAt x 0 2 = (q.frond f).pc % 2 ^ 16 ∧ (bytesAt x 4 4 % 2 = 1 ↔ (q.frond f).poison.isSome = true) ∧ (bytesAt x 4 4 / 2 % 2 = 1 ↔ (q.frond f).seen = true) ∧ bytesAt x 4 4 / 2 ^ 16 = f) ∧
    (on 0x0D04 → (a 0 1 = 0 → ∃ q, EndsOk s (.debugTrace m) m q ∧ q.dbg = { p.dbg with trace := none }) ∧
      (a 0 1 = 1 → 0 < a 16 8 → a 16 8 % 4096 = 0 → a 16 8 ≤ 2 ^ 30 → p.dbg.trace = none → ∃ q, EndsOk s (.debugTrace m) m q ∧
        q.dbg = { p.dbg with trace := some { mask := a 2 2, addr := a 8 8, size := a 16 8 } } ∧ ∀ h < 16, (a 2 2).testBit h = true → (q.fg DBG_OBSERVED_OBSERVED).testBit h = true)) ∧
    (on 0x0D05 → (a 0 1 = 0 → ∃ q, EndsOk s (.debugProfile m) m q ∧ q.dbg = { p.dbg with profile := none }) ∧
      (a 0 1 = 1 → p.dbg.profile = none → ∃ q, EndsOk s (.debugProfile m) m q ∧ q.dbg = { p.dbg with profile := some { brackens := a 8 8, addr := a 16 8 } } ∧
        ∀ b < 64, (a 8 8).testBit b = true → ∀ h < 16, p.brkOwner b = some h → (q.fg DBG_OBSERVED_OBSERVED).testBit h = true)) ∧
    (p.debugOpen path = true → p.selFrond path = f → off < 8 * storeWords st → 8 * (off % 8) + width ≤ 64 →
      (F.eccAt st (off / 8) = 0 → exec (.storeApertureRead path st off width) s = toPart s (seen.emit (.value (pathKey path) off (((F.word st (off / 8)).toNat >>> (8 * (off % 8))) % 2 ^ width)))) ∧
      (F.eccAt st (off / 8) = 2 → exec (.storeApertureRead path st off width) s = toPart s ((seen.fs DBG_STATUS_UE 1).emit (.value (pathKey path) off (2 ^ width - 1)))) ∧
      (F.eccAt st (off / 8) = 0 ∨ width = 64 →
        ∀ c, (c = Instr.storeApertureWrite path st off width v ∧ st < 2) ∨ (c = Instr.programApertureWrite path off width v ∧ st = 2 ∧ (F.running = false ∨ F.halted = true)) →
        exec c s = toPart s (seen.updFrond f fun F => F.setWord st (off / 8) (if width = 64 then v else setBits (F.word st (off / 8)) (8 * (off % 8)) width v.toNat))) ∧
      (st = 2 → F.running = true → F.halted = false → exec (.programApertureWrite path off width v) s = toPart s (seen.fs DBG_STATUS_REJECTED 1))) ∧
    (off < 0x800000 → regAccess off width = true → p.debugOpen path = true →
      let q := match p.regHedge off with
        | some h => p.observe h
        | none => p
      exec (.registerMirrorRead path off width) s = toPart s (q.emit (.value (pathKey path) (0x1800000 + off)
        (if path = .jtag then ({ q with hold := Tab.put none 16 (Tab.get none 17 q.hold) q.hold } : Part).peek .mp 0 off width else q.peek path 0 off width)))) ∧
    (p.debugOpen path = false → exec (.storeApertureRead path st off width) s = toPart s p ∧ exec (.storeApertureWrite path st off width v) s = toPart s p ∧
      exec (.programApertureWrite path off width v) s = toPart s p ∧ exec (.registerMirrorRead path off width) s = toPart s p) ∧
    (regAccess off width = true → p.core.rails = true →
      (∀ o, apertureAt off = some (st, o) → p.selFrond .jtag = f → F.eccAt st (o / 8) = 0 →
        exec (.jtagDbgAccess off width none coin) s = toPart s (seen.emit (.value 17 (0x1000000 + off) (((F.word st (o / 8)).toNat >>> (8 * (o % 8))) % 2 ^ width))) ∧
        (width = 64 → st < 2 ∨ F.running = false ∨ F.halted = true → exec (.jtagDbgAccess off width (some v) coin) s = toPart s (seen.updFrond f fun F => F.setWord st (o / 8) v))) ∧
      (apertureAt off = none → off < 0x800000 → exec (.jtagDbgAccess off width none coin) s = toPart s (p.emit (.value 17 (0x1000000 + off) (p.peek .jtag 0 (0x1000000 + off) width)))) ∧
      (off < 0x100000 → exec (.jtagDbgAccess off width (some v) coin) s = toPart s (p.debugWrite (0x1000000 + off) width v coin)) ∧
      (0x800000 ≤ off → off < 0x1000000 → exec (.jtagDbgAccess off width (some v) coin) s = toPart s p))

/-- LIFECYCLE and FIRMWARE commands, and the transitions that the core domain ends (R334, R422, R423, R661, R664, R665, R669, R670, R672 to R674, R779, R783): a transition writes the slot that does not govern, with SEQ one above; its commit shows the new state and, for DECOMMISSIONED, takes the keys and the term; a key is stored; power that fails while a record is written leaves that slot without one; a push erases its slot, reads and checks its image, and leaves the slot valid, also where a reset has taken its mailbox. -/
def Obligations.LifecycleAndFirmware : Prop :=
  ∀ (s : State) (m fails g t : Nat) (x : LcSlot) (mb : Option Nat) (w : Push) (b : Bind) (r : NpReq) (data : List Byte) (bad : List (Nat × Nat)),
    let p := s.part
    let a := p.arg m
    let on := fun op => p.serves m op = true
    let step := (p.mbx m).step
    let old := p.fg LCH_LIFECYCLE_STATE
    let slot := fun (q : Part) i => if i = 0 then q.core.slotA else q.core.slotB
    let ready := p.vstby = true ∧ p.flag LCH_CORE_STATUS_HOLD_OK = true ∧ p.core.run = none ∧ p.flag LCH_LIFECYCLE_PENDING = false
    let ended := fun (c : Instr) (mb : Option Nat) => ∃ e : Dev, exec c s = toDev s (match mb with
        | some m => e.onP fun p => p.mbxEnd m stOk [BitVec.ofNat 8 x.state]
        | none => e) ∧
      e.p.core.run = none ∧ slot e.p g = some { x with committed := true } ∧ slot e.p (1 - g) = slot p (1 - g) ∧ e.p.fg LCH_LIFECYCLE_STATE = x.state ∧
      e.p.flag LCH_LIFECYCLE_PENDING = false ∧ e.p.flag LCH_LIFECYCLE_BUSY = false ∧
      (x.state = 5 → Tab.get [] 2 e.p.core.keys = [] ∧ Tab.get [] 3 e.p.core.keys = [] ∧ e.p.term = 0 ∧ (p.service ≠ 0 → e.p.service = 1 ∧ ∀ h, 1 ≤ h → h ≤ 15 → e.p.hedgeExists h = false))
    (on 0x0E02 → step = 0 →
      (lifeAllowed old (a 0 1) = false → EndsWith s (.lifecycleTransition m fails) m stLife) ∧
      (lifeAllowed old (a 0 1) = true → ¬ ready → EndsWith s (.lifecycleTransition m fails) m stState) ∧
      (lifeAllowed old (a 0 1) = true → ready → p.core.governing = some (g, x) →
        (fails ≤ 1 → ∃ q : Part, exec (.lifecycleTransition m fails) s = toPart s (q.updMbx m fun b => { b with step := 1 }) ∧ q.core.run = some (1 - g, some m) ∧
          slot q (1 - g) = some ⟨a 0 1, (x.seq + 1) % 2 ^ 32, old, false⟩ ∧ slot q g = some x ∧ q.flag LCH_LIFECYCLE_BUSY = true ∧ q.fg LCH_LIFECYCLE_STATE = old) ∧
        (2 ≤ fails → ∃ q : Part, exec (.lifecycleTransition m fails) s = toPart s (q.mbxEnd m stInternal []) ∧ slot q (1 - g) = none ∧ slot q g = some x ∧ q.fg LCH_LIFECYCLE_STATE = old))) ∧
    (on 0x0E03 → a 8 1 = 4 → onCurve (a 9 48) (a 57 48) = true → a 0 1 = 2 ∨ a 0 1 = 3 → (old ≠ 2 → EndsWith s (.lifecycleKeyWrite m) m stLife) ∧
      (old = 2 → p.nvmBusy = false → ∃ q, EndsOk s (.lifecycleKeyWrite m) m q ∧
        ∀ k, Tab.get [] k q.core.keys = if k = a 0 1 then natLe 48 (a 9 48) ++ natLe 48 (a 57 48) else Tab.get [] k p.core.keys)) ∧
    (x.state ≤ 6 → p.core.governing = some (g, x) → x.committed = false →
      (p.core.run = some (g, mb) → ended .lifecycleCommit mb) ∧
      (p.core.run = none → p.vstby = true → p.flag LCH_CORE_STATUS_HOLD_OK = true → p.flag LCH_LIFECYCLE_PENDING = true → ended .lifecycleRedo none)) ∧
    (∀ torn, ∃ q : Part, exec (.corePowerUp torn) s = toPart s q ∧ q.core.run = none ∧ q.flag LCH_LIFECYCLE_BUSY = false ∧
      (torn = false ∨ p.core.run = none → slot q 0 = slot p 0 ∧ slot q 1 = slot p 1) ∧
      (∀ i ≤ 1, torn = true → p.core.run = some (i, mb) → slot q i = none ∧ slot q (1 - i) = slot p (1 - i)) ∧
      (q.core.governing = none → q.fg LCH_LIFECYCLE_STATE = 6) ∧
      (q.core.governing = some (g, x) → x.state ≤ 6 → q.fg LCH_LIFECYCLE_STATE = x.state ∧ q.flag LCH_LIFECYCLE_PENDING = !x.committed)) ∧
    (on 0x0F01 → step = 0 → a 0 1 ≤ 2 → a 1 1 ≤ 1 → (a 0 1 = 2 → a 1 1 = 0) → p.fg GBL_STATUS_RUNNING ≠ a 0 1 + 1 ∨ a 0 1 = 2 → (a 1 1 = 1 → p.service ≤ 1) → p.boot.push = none →
      256 < a 16 8 → a 16 8 ≤ 256 + slotLimit (a 0 1) → ∃ q : Part, exec (.firmwarePush m) s = toPart s q ∧
        q.boot.push = some { slot := a 0 1, boot := a 1 1 == 1, addr := a 8 8, size := a 16 8, mbx := some m } ∧ (q.mbx m).step = 1 ∧ (a 0 1 ≤ 1 → Tab.get 0 (a 0 1) q.boot.slots = 0) ∧
        ∀ k, k ≠ a 0 1 → Tab.get 0 k q.boot.slots = Tab.get 0 k p.boot.slots) ∧
    (on 0x0F01 → step ≠ 0 → p.boot.push = some w → w.mbx = some m →
      (w.img = none → (p.func 0).resetting = false → p.bindOf m = some b → b.tag = some t → p.np t = some r → r.phase = .back data bad → (∀ y ∈ bad, y.1 = 0) → b.size ≤ b.got.length + data.length →
        let c := p.imageCheck w.slot w.size (b.got ++ data)
        (c = 0 → ∃ q : Part, exec (.firmwarePush m) s = toPart s q ∧ q.boot.push = some { w with img := some (b.got ++ data) }) ∧
        (c ≠ 0 → ∃ q : Part, exec (.firmwarePush m) s = toPart s (q.mbxEnd m (if c ≤ 3 then stBadArg else stAuth) []) ∧ q.boot.push = none ∧ q.boot.slots = p.boot.slots)) ∧
      (∀ img, w.img = some img → w.slot ≤ 1 → ∃ q : Part, exec (.firmwarePush m) s = toPart s (q.mbxEnd m stOk (natLe 4 (imageIdent img).1)) ∧ q.boot.push = none ∧
        Tab.get 0 w.slot q.boot.slots = 1 ∧ Tab.get 0 w.slot q.boot.versions = (imageIdent img).1 ∧ q.fg GBL_BOOT_NEXT = if w.boot then w.slot else p.fg GBL_BOOT_NEXT)) ∧
    (∀ img, p.serves m 0x0F01 = false → p.boot.push = some w → w.mbx = none → w.img = some img → w.slot ≤ 1 → w.boot = false →
      ∃ q : Part, exec (.firmwarePush m) s = toPart s q ∧ q.boot.push = none ∧ Tab.get 0 w.slot q.boot.slots = 1 ∧ Tab.get 0 w.slot q.boot.versions = (imageIdent img).1) ∧
    (on 0x0F03 → a 0 1 ≤ 1 → (Tab.get 0 (a 0 1) p.boot.slots = 0 → EndsWith s (.firmwareSelect m) m stState) ∧
      (Tab.get 0 (a 0 1) p.boot.slots ≠ 0 → p.nvmBusy = false → ∃ q, EndsOk s (.firmwareSelect m) m q ∧ q.fg GBL_BOOT_NEXT = a 0 1 ∧ q.fg GBL_BOOT_FAILS = p.fg GBL_BOOT_FAILS))

/-- Triggers and sampling (R557, R559 to R564, R572, R573, R586, R805): a trigger of the source in force counts TSEQ and is remembered; one that comes sooner than the minimum period is missed and counted; while triggers are disabled, or the die is absent, none arises; a sample ring takes a record of 64 bytes with TSEQ, DROPPED and TIME in the slot that TSEQ names, and no other byte changes; and a voltage that lies on a code gives that code. -/
def Obligations.SorusTriggers : Prop :=
  ∀ (s : State) (t r j n range : Nat) (pins : List (Int × Int)) (c : Instr) (code : Int) (pin : Int × Int),
    let p := s.part
    let P := p.at t
    let src := P.fg SOR_TRIG_SOURCE
    let fires := (∃ rise : Bool, c = .trigInEdge t rise pins ∧ src = if rise then 1 else 2) ∨
      (c = .softwareTrigger t pins ∧ p.available 8 = true ∧ p.pfOpen = true ∧ P.sor.rails = true ∧ src = 5) ∨
      (c = .periodicTrigger t pins ∧ (src = 3 ∨ src = 4 ∧ P.pairAligned = false ∧ P.flag SOR_TRIG_PAIR_HOLD = false) ∧ P.scheduled P.time = true) ∨
      (c = .pairTrigger t pins ∧ P.pairAligned = true ∧ P.scheduled P.pairTime = true)
    let armed := P.flag SOR_TRIG_ENABLE = true ∧ P.sor.rails = true ∧ ∀ x, P.sor.changed = some x → x + 100 ≤ P.time
    let seq := (P.fg SOR_TSEQ_TSEQ + 1) % 2 ^ 32
    (fires → P.flag SOR_TRIG_ENABLE = false ∨ P.sor.rails = false → exec c s = toPart s P) ∧
    (p.available 8 = true → p.pfOpen = true → P.sor.rails = false → exec (.softwareTrigger t pins) s = toPart s (P.sorusAbsent false SOR_TRIG_SW 4 true)) ∧
    (fires → armed → (∃ x, P.sor.last = some x ∧ P.time < x + P.minPeriod) → exec c s = toPart s (P.incS SOR_TRIG_MISSED)) ∧
    (fires → armed → (∀ x, P.sor.last = some x → x + P.minPeriod ≤ P.time) → ∃ e : Dev, exec c s = toDev s e ∧
      e.p.fg SOR_TSEQ_TSEQ = seq ∧ e.p.sor.last = some P.time ∧ e.p.time = P.time ∧ (P.service < 2 → e.mem = s.dev.mem) ∧
      (2 ≤ P.service → r < 4 → (∀ q < 4, P.flag (SOR_RING_CFG_ENABLE q) = true ↔ q = r) → Tab.get none r P.sor.ringAt = some j → P.sliceUp (j / 36) = true →
        Tab.get 0 r P.sor.dropped = n → P.fg (SOR_RING_OFS_OFFSET r) % 64 = 0 →
        (∃ k < 8, P.sorF (SOR_CONV_ENABLE k) = 1 ∧ P.sorF (SOR_CONV_SCAN k) = 0 ∧ P.sor.busy.testBit k = false ∧ (P.fg (SOR_RING_CH_CHANNELS r)).testBit (4 * k + P.sorF (SOR_CONV_SELECT k)) = true) →
        let a := j * 2 ^ 30 + P.fg (SOR_RING_OFS_OFFSET r) + 64 * (seq % 2 ^ P.fg (SOR_RING_CFG_SIZE_LOG2 r))
        PlainMem { s.dev with p := P } a 64 → e.bytes (a + 0x20) 4 = natLe 4 seq ∧ e.bytes (a + 0x24) 4 = natLe 4 n ∧ e.bytes (a + 0x28) 8 = natLe 8 P.time ∧ e.bytes (a + 0x30) 16 = List.replicate 16 0 ∧
          ∀ x, (x < a ∨ a + 64 ≤ x) → e.byte x = s.dev.byte x)) ∧
    (range < 4 → 0 < p.vref → (pin.1 - pin.2) * 131072 * 40960000 = code * (nominalNv range * p.vref) → -131072 ≤ code → code ≤ 131071 →
      (∀ v ∈ [pin.1, pin.2], -10500000000 ≤ v ∧ v ≤ 10500000000) → p.sampleCode range pin = ((code, false), p))

/-- References, the trigger and channel registers, sample rings and trims (R15, R17, R507, R554 to R556, R559, R561, R570, R571, R581, R583, R584, R590, R805): a write to the absent die fails, and one that enables a ring counts whole or not at all. -/
def Obligations.SorusReferencesAndRegisters : Prop :=
  ∀ (s : State) (t refin avdd sel source c range mag owP owN r ch k g offset gain : Nat) (enable hold : Bool) (v : Word),
    let p := s.part
    let P := p.at t
    let x := v.toNat
    (let Q := P.refSeen refin avdd
      let n := p.fg SOR_CTRL_REF_SEL
      Q.sor.refinOut = (if 2500 ≤ refin ∧ refin ≤ 4500 then p.sor.refinOut else P.time) ∧ Q.sor.avddOut = (if 4750 ≤ avdd ∧ avdd ≤ 5250 then p.sor.avddOut else P.time) ∧
      (p.sor.rails = true → Q.refInWindow = true →
        (if n = 0 then p.sor.selAt + 10000000 else max p.sor.selAt (if n = 1 then Q.sor.refinOut else Q.sor.avddOut) + 1000000) ≤ P.time →
        exec (.refSettle t refin avdd) s = toPart s (Q.setFlag SOR_STATUS_REF_SETTLED true))) ∧
    ((p.refSeen refin avdd).refInWindow = false → p.flag SOR_STATUS_REF_SETTLED = true →
      exec (.refWindowLoss refin avdd) s = toPart s (((p.refSeen refin avdd).setFlag SOR_STATUS_REF_SETTLED false).refEvent)) ∧
    (P.flag SOR_STATUS_REF_SETTLED = false → P.sor.late = false → P.sor.selAt + 20000000 ≤ P.time →
      exec (.refSettleTimeout t) s = toPart s ((P.updSor fun y => { y with late := true }).refEvent)) ∧
    (p.available 8 = true → p.pfOpen = true → p.sor.rails = false →
      let gone := fun k => toPart s (p.sorusAbsent false k 4 true)
      exec (.sorCtrlWrite sel) s = gone SOR_CTRL ∧ exec (.sorTrigWrite source enable hold) s = gone SOR_TRIG ∧ exec (.sorChannelWrite c range mag owP owN) s = gone (SOR_CH c) ∧
      (r < 4 → exec (.sorRingCfgWrite r v) s = gone (SOR_RING_CFG r) ∧ exec (.sorRingChWrite r ch) s = gone (SOR_RING_CH r)) ∧
      (k < 8 → g < 4 → exec (.sorTrimWrite k g offset gain) s = gone (SOR_TRIM k g))) ∧
    (p.available 8 = true → p.pfOpen = true → p.sor.rails = true →
      (sel < 3 → ∃ q, exec (.sorCtrlWrite sel) s = toPart s q ∧ q.fg SOR_CTRL_REF_SEL = sel ∧ q.flag SOR_STATUS_REF_SETTLED = false ∧ q.sor.selAt = p.time ∧ q.fg SOR_STATUS_REF_MV = q.vref / 10000 % 2 ^ 16) ∧
      (3 ≤ sel → exec (.sorCtrlWrite sel) s = toPart s p) ∧
      (let src := if source ≤ 5 then source else p.fg SOR_TRIG_SOURCE
        ∃ q : Part, exec (.sorTrigWrite source enable hold) s = toPart s q ∧ q.fg SOR_TRIG_SOURCE = src ∧ q.flag SOR_TRIG_ENABLE = enable ∧ q.flag SOR_TRIG_PAIR_HOLD = hold ∧
          q.flag SOR_STATUS_TRIG_RUNNING = (enable && src != 0) ∧
          q.sor.changed = (if src = p.fg SOR_TRIG_SOURCE ∧ enable = p.flag SOR_TRIG_ENABLE then p.sor.changed else some p.time)) ∧
      (c < 32 → range < 4 → mag < 4 → owP < 4 → owN < 4 → ∃ q : Part, exec (.sorChannelWrite c range mag owP owN) s = toPart s q ∧
        q.fg (SOR_CH_RANGE c) = range ∧ q.fg (SOR_CH_OW_MAG c) = mag ∧ q.fg (SOR_CH_OW_P c) = (if owP < 3 then owP else p.fg (SOR_CH_OW_P c)) ∧
        q.fg (SOR_CH_OW_N c) = (if owN < 3 then owN else p.fg (SOR_CH_OW_N c)) ∧ (∀ k, k ≠ SOR_CH c → q.reg k = p.reg k) ∧
        (p.sor.busy.testBit (c / 4) = true → q.sorWord (SOR_CH c) = p.sorWord (SOR_CH c))) ∧
      (r < 4 → p.flag (SOR_RING_CFG_ENABLE r) = false → ∃ q : Part, RegsOnly p q (fun k => k = SOR_RING_CFG r ∨ k = SOR_RING_CH r) ∧ q.flag (SOR_RING_CFG_ENABLE r) = false ∧
        q.fg (SOR_RING_CFG_HEDGE r) = bitsOfNat x 1 4 ∧ q.fg (SOR_RING_CFG_SLICE r) = bitsOfNat x 8 3 ∧
        q.fg (SOR_RING_CFG_RANK r) = (if bitsOfNat x 12 6 < 36 then bitsOfNat x 12 6 else p.fg (SOR_RING_CFG_RANK r)) ∧
        q.fg (SOR_RING_CFG_SIZE_LOG2 r) = (if 6 ≤ bitsOfNat x 24 5 ∧ bitsOfNat x 24 5 ≤ 24 then bitsOfNat x 24 5 else p.fg (SOR_RING_CFG_SIZE_LOG2 r)) ∧
        q.fg (SOR_RING_CH_CHANNELS r) = p.fg (SOR_RING_CH_CHANNELS r) &&& (p.hedge (bitsOfNat x 1 4)).channels ∧
        (x.testBit 0 = false → exec (.sorRingCfgWrite r v) s = toPart s q) ∧
        (x.testBit 0 = true → exec (.sorRingCfgWrite r v) s = toPart s
          (if q.fg (SOR_RING_CFG_RANK r) = bitsOfNat x 12 6 ∧ q.fg (SOR_RING_CFG_SIZE_LOG2 r) = bitsOfNat x 24 5 ∧ (q.ringPlot r).isSome = true ∧ p.fg (SOR_RING_OFS_OFFSET r) % 64 = 0 ∧ p.fg (SOR_RING_OFS_OFFSET r) + 64 * 2 ^ q.fg (SOR_RING_CFG_SIZE_LOG2 r) ≤ 2 ^ 30 then
            (q.setFlag (SOR_RING_CFG_ENABLE r) true).updSor fun y => { y with ringAt := Tab.put none r (q.ringPlot r) y.ringAt }
          else p))) ∧
      (r < 4 → p.flag (SOR_RING_CFG_ENABLE r) = true → exec (.sorRingCfgWrite r v) s = toPart s (if x.testBit 0 then p else p.setFlag (SOR_RING_CFG_ENABLE r) false)) ∧
      (r < 4 → exec (.sorRingChWrite r ch) s = toPart s (p.fs (SOR_RING_CH_CHANNELS r) (ch &&& (p.hedge (p.fg (SOR_RING_CFG_HEDGE r))).channels))) ∧
      (k < 8 → g < 4 → offset < 2 ^ 16 → gain < 2 ^ 16 →
        (p.lifeCycle = 4 ∨ p.lifeCycle = 2 → ∃ q : Part, exec (.sorTrimWrite k g offset gain) s = toPart s q ∧ RegsOnly p q (fun i => i = SOR_TRIM k g ∨ i = SOR_STATUS) ∧
          q.fg (SOR_TRIM_OFFSET k g) = offset ∧ q.fg (SOR_TRIM_GAIN k g) = gain ∧ (q.fg SOR_STATUS_CAL_SELF).testBit k = true) ∧
        (p.lifeCycle ≠ 4 → p.lifeCycle ≠ 2 → exec (.sorTrimWrite k g offset gain) s = toPart s p))) ∧
    (∃ q : Part, exec .sorusRailsLost s = toPart s q ∧ q.sor.rails = false ∧ q.flag SOR_STATUS_REF_SETTLED = false) ∧
    (p.sor.rails = false → ∃ q : Part, exec .sorusRailsReturn s = toPart s q ∧ q.sor.rails = true ∧ q.fg SOR_STATUS_CAL_SELF = 0 ∧
      ∀ k < 8, ∀ g < 4, q.reg (SOR_TRIM k g) = Tab.get 0 (SOR_TRIM k g) p.sor.factory)

/-- The loop current is that of the lowest level whose condition holds (R597, R598, R600, R602): each level with the current that the configuration, the calibration, the fixed current, an action or the last accepted input gives it. -/
def Obligations.LoopLevels : Prop :=
  ∀ (p : Part) (c : LoopCal) (ua : Nat) (v : Word),
    let q := p.loopSettle
    let at' := fun level ua => q.loop.level = level ∧ q.loop.setUa = ua ∧ q.fg LCH_LOOP_CURRENT_SET_UA = ua % 2 ^ 16 ∧ q.fg LCH_LOOP_STATUS_LEVEL = level
    let source := fun n => p.hcfg 1 1 ≠ 0 ∧ p.alarmAction = 0 ∧ p.loop.cal = none ∧ p.loop.fixed = none ∧ p.loopSource = n
    (p.loop.running = false → q.loop.level = 0 ∧ q.loop.setUa = 3550) ∧
    (p.loop.running = true →
      (∃ g, q.loop.given = some g ∧ (4 ≤ q.loop.level → q.loop.setUa = g)) ∧
      (p.hcfg 1 1 = 0 → at' 1 4000) ∧
      (p.hcfg 1 1 ≠ 0 → (p.alarmAction = 1 → at' 2 (p.lcfg 0x10 2)) ∧ (p.alarmAction = 2 → at' 2 (p.lcfg 0x12 2)) ∧
        (p.alarmAction = 0 → (p.loop.cal = some c → at' 3 c.point) ∧ (p.loop.cal = none → p.loop.fixed = some ua → at' 4 ua))) ∧
      (source 2 → at' 4 (p.lcfg 0x14 2)) ∧
      (source 1 → (p.sensorFault = true → at' 5 (p.actionUa (p.lcfg 1 1))) ∧
        (p.sensorFault = false → Tab.get none (p.lcfg 0x20 1) p.loop.sens = some v →
          q.loop.level = 5 ∧ (p.rangeUa v).1.1 ≤ q.loop.setUa ∧ q.loop.setUa ≤ (p.rangeUa v).1.2 ∧ q.loop.saturated = (p.rangeUa v).2)) ∧
      (source 0 → (p.loop.absent = true → at' 6 (p.actionUa (p.lcfg 2 1))) ∧ (p.loop.absent = false → p.loop.stale = true → at' 7 (p.actionUa (p.lcfg 1 1))) ∧
        (p.loop.absent = false → p.loop.stale = false → (p.loopStandby = true → p.loop.dcc = some ua → at' 8 ua) ∧
          (p.loopStandby = false → p.loop.pv = some v → q.loop.level = 8 ∧ (p.rangeUa v).1.1 ≤ q.loop.setUa ∧ q.loop.setUa ≤ (p.rangeUa v).1.2 ∧ q.loop.saturated = (p.rangeUa v).2)))) ∧
    (∀ lrv urv x : Int, f32Int (p.lcfg 8 4) = lrv → f32Int (p.lcfg 12 4) = urv → f32Int v.toNat = x → lrv < urv →
      let r := p.rangeUa v
      (lrv ≤ x → x ≤ urv → r.2 = false ∧ ((r.1.1 : Int) - 4000) * (urv - lrv) ≤ 16000 * (x - lrv) ∧ 16000 * (x - lrv) ≤ ((r.1.2 : Int) - 4000) * (urv - lrv) ∧ r.1.2 ≤ r.1.1 + 1) ∧
      (16000 * (x - lrv) < -200 * (urv - lrv) → r = ((3800, 3800), true)) ∧ (16500 * (urv - lrv) < 16000 * (x - lrv) → r = ((20500, 20500), true)))

/-- The loop domain (R594 to R596, R601 to R613, R618, R621, R624, R625, R627, R628, R630): its reset, which loses a copy that is being written and no other, and its start, the admission of its jobs, inputs, staleness, host-absent, faults, sensors, calibration and configuration writes. -/
def Obligations.LoopDomain : Prop :=
  ∀ (s : State) (t mv read k v : Nat) (x : Word) (reply : List Byte) (replies : List (List Byte)) (w : LoopWrite) (ws : List LoopWrite) (bad : Int × Bool),
    let p := s.part
    let P := p.at t
    let l := p.loop
    let up := l.running = true
    let absent := let q := (p.updLoop fun l => { l with absent := true }).loopSettle
      toPart s (if q.loop.running then q.record 0x0B04 (q.loop.setUa + 2 ^ 16) else q)
    (∃ q : Part, exec .loopDomainReset s = toPart s q ∧ q.loop.running = false ∧ q.loop.level = 0 ∧ q.loop.setUa = 3550 ∧ q.loop.writes = [] ∧ q.loop.replies = [] ∧
      q.loop.cal = none ∧ q.loop.fixed = none ∧ q.loop.pv = none ∧ q.loop.governing = l.governing ∧
      (l.writes.any (·.admitted) = false → q.loop.copyA = l.copyA ∧ q.loop.copyB = l.copyB) ∧
      (l.writes.any (·.admitted) = true → ∀ g, l.governing = some g → (if g.1 then q.loop.copyB else q.loop.copyA) = none) ∧ (∀ w ∈ l.writes, ∀ m, w.mbx = some m → (q.mbx m).ended = true)) ∧
    (l.running = false → ∃ q : Part, exec .loopDomainStart s = toPart s q ∧ q.loop.running = true ∧ q.loop.cold = true ∧ q.loop.stale = false ∧ q.loop.absent = p.qsDown ∧
      (p.fg LCH_LOOP_RESTARTS_COUNT < 2 ^ 24 - 1 → q.fg LCH_LOOP_RESTARTS_COUNT = p.fg LCH_LOOP_RESTARTS_COUNT + 1) ∧
      q.loop.cfg = (if p.core.loopDefaults then defaultCfg else (l.governing.map fun g => g.2.2).getD defaultCfg) ∧ q.core.loopDefaults = false ∧
      (l.governing = none → q.loop.changed = true) ∧ q.flag LCH_LOOP_STATUS_LOOP_PRESENT = true) ∧
    (let Q := P.fs LCH_LOOP_AUX_CSTORE_MV mv;
      (l.running = false → exec (.cstoreJobAdmit t mv) s = toPart s P) ∧ (up → mv < 6000 → exec (.cstoreJobAdmit t mv) s = toPart s Q) ∧
      (up → 6000 ≤ mv →
        (l.replies = reply :: replies → exec (.cstoreJobAdmit t mv) s = toPart s
          (if Q.spentNow + 120 ≤ 400 then ((Q.spend 120).updLoop fun l => { l with replies := replies }).emit (.serial 16 reply) else Q)) ∧
        (l.replies = [] → l.writes = w :: ws → w.admitted = false → exec (.cstoreJobAdmit t mv) s = toPart s
          (if Q.spentNow + 40 ≤ 400 then (Q.spend 40).updLoop fun l => { l with writes := { w with admitted := true } :: ws } else Q)) ∧
        (l.replies = [] → l.writes = [] ∨ l.writes = w :: ws ∧ w.admitted = true → Q.dueInput = some k → Q.spentNow + convCharge (p.lcfg (0x18 + 4 * k) 1) ≤ 400 → ∃ q : Part, exec (.cstoreJobAdmit t mv) s = toPart s q ∧
          q.loop.converting = l.converting ++ [k] ∧ q.spentNow = Q.spentNow + convCharge (p.lcfg (0x18 + 4 * k) 1)))) ∧
    (∀ ua pv, l.dccNext = some (ua, pv) → p.loopStandby = true → p.hs.br.lv = none → exec (.loopInputAccept t) s = toPart s (if P.tooSoon then P else P.sourceTake ua pv)) ∧
    (p.hs.br.lv = some v → v < 2 ^ 32 → up → l.dccNext = none →
      let took : Part := { P with hs := { P.hs with br := { P.hs.br with lv := none } } }
      (p.loopStandby = true → exec (.loopInputAccept t) s = toPart s took) ∧
      (p.loopStandby = false → finite32 v = false → exec (.loopInputAccept t) s = toPart s (took.incS LCH_LV_REJECTED)) ∧
      (p.loopStandby = false → finite32 v = true → (∃ a, l.accepted = some a ∧ P.clock < a + 1000000) → exec (.loopInputAccept t) s = toPart s P) ∧
      (p.loopStandby = false → finite32 v = true → (∀ a, l.accepted = some a → a + 1000000 ≤ P.clock) → ∃ q : Part, exec (.loopInputAccept t) s = toPart s q ∧
        q.hs.br.lv = none ∧ q.loop.pv = some (BitVec.ofNat 32 v) ∧ q.loop.accepted = some P.clock ∧ q.loop.timer = P.clock ∧ q.loop.stale = false ∧
        q.loop.absent = (l.absent && p.qsDown) ∧ q.fg LCH_LV_ACCEPTED_TOTAL = (p.fg LCH_LV_ACCEPTED_TOTAL + 1) % 2 ^ 32 ∧ q.fg LCH_LOOP_PV_PV = v)) ∧
    (up → l.timer + p.lcfg 4 4 * 1000000 ≤ P.clock → exec (.loopStale t) s = toPart s ((P.updLoop fun l => { l with stale := true }).loopSettle)) ∧
    (l.absent = false → exec .coreFrameTimeout s = absent ∧ (p.qsDown = true → exec .loopHostAbsent s = absent)) ∧
    (up → let R := p.fs LCH_LOOP_CURRENT_READ_UA read;
      (l.openLoop = false → 2 * read < l.setUa → exec (.openLoop read) s = toPart s (((R.updLoop fun l => { l with openLoop := true }).loopView).record 0x0B01 (read + l.setUa * 2 ^ 16))) ∧
      (l.openLoop = true → l.setUa ≤ 2 * read → exec (.openLoopClear read) s = toPart s ((R.updLoop fun l => { l with openLoop := false }).loopView))) ∧
    (up → let R := p.fs LCH_LOOP_AUX_HEADROOM_MV mv;
      (l.noCompliance = false → mv < 800 → exec (.noCompliance mv) s = toPart s (((R.updLoop fun l => { l with noCompliance := true }).loopView).record 0x0B02 (mv + l.setUa * 2 ^ 16))) ∧
      (l.noCompliance = true → 900 ≤ mv → exec (.noComplianceClear mv) s = toPart s ((R.updLoop fun l => { l with noCompliance := false }).loopView))) ∧
    (up → k < 2 → l.converting.contains k = true → Tab.get (0, false) k l.bad = bad → ∃ q : Part, exec (.sensorConversion k x) s = toPart s q ∧
      Tab.get none k q.loop.sens = some x ∧ q.loop.converting = l.converting.erase k ∧
      (let out := beyondRange (p.lcfg (0x18 + 4 * k) 1) x;
        (Tab.get (0, false) k q.loop.bad).2 = (if out = true ∧ 1 ≤ bad.1 then true else if out = false ∧ bad.1 ≤ -1 then false else bad.2))) ∧
    (∀ c, l.cal = some c → c.last + 600000000000 ≤ P.clock → exec (.calibrationTimeout t) s = toPart s ((P.updLoop fun l => { l with cal := none }).loopSettle)) ∧
    (up → l.writes = w :: ws → w.admitted = true → ∃ q : Part, exec .loopNvmWriteDone s = toPart s (match w.mbx with
        | some m => q.mbxEnd m stOk []
        | none => q) ∧
      q.loop.writes = ws ∧ q.loop.cfg = w.cfg ∧ (∃ a i, q.loop.governing = some (a, i, w.cfg) ∧ ∀ b j c, l.governing = some (b, j, c) → a = !b ∧ i = j + 1) ∧
      q.loop.trims = (w.trims <|> l.trims) ∧ (p.fg LCH_LOOP_NVM_WRITES_COUNT < 2 ^ 24 - 1 → q.fg LCH_LOOP_NVM_WRITES_COUNT = p.fg LCH_LOOP_NVM_WRITES_COUNT + 1) ∧
      (bytesAt w.cfg.loop 0 1 ≠ p.loopSource → q.loop.timer = p.clock ∧ q.loop.fixed = none)) ∧
    (l.running = false → exec .loopPresentLoss s = toPart s (p.setFlag LCH_LOOP_STATUS_LOOP_PRESENT false)) ∧
    (up → exec .hartFrameError s = toPart s (p.incS LCH_HART_ERRORS))

/-- HART commands (R594, R614 to R621): each read answers with the values that its row names, after its command, response code 0 and the device status; a write that write protect, a host write or its range forbids answers with its response code and changes nothing, and one that the part accepts waits for loop NVM, sets configuration changed and is reported; an unknown command answers 64. The bytes that HART 7 lays out beyond this manual are the model's (notes/assumptions/23.md). -/
def Obligations.HartCommands : Prop :=
  ∀ (s : State) (addr mode fail absent staleMs down up ua units input cmd i : Nat) (data tag codes : List Byte) (qv sens0 sens1 lrv urv : Word), s.part.loop.running = true →
    let p := s.part
    let l := p.loop
    let reply := fun (q : Part) (n rc : Nat) (data : List Byte) =>
      toPart s (q.updLoop fun l => { l with replies := l.replies ++ [[BitVec.ofNat 8 n, BitVec.ofNat 8 rc, BitVec.ofNat 8 q.hartStatus] ++ data], cold := false })
    let lv := l.level
    let held := lv = 1 ∨ lv = 3 ∨ lv = 4 ∨ l.fixed.isSome = true
    let reads : List (Instr × Nat × List Byte) :=
      [(.hartCmd0, 0, p.hartIdentity), (.hartCmd1, 1, u8 (p.lcfg 0x16 1) ++ natBe 4 p.hartPv), (.hartCmd2, 2, natBe 4 p.hartMa ++ natBe 4 p.hartPercent),
       (.hartCmd3 qv, 3, natBe 4 p.hartMa ++ u8 (p.lcfg 0x16 1) ++ natBe 4 p.hartPv ++ u8 (p.sensUnits 0) ++ natBe 4 (p.hartSens 0) ++ u8 (p.sensUnits 1) ++ natBe 4 (p.hartSens 1) ++ u8 32 ++ natBe 4 qv.toNat),
       (.hartCmd7, 7, u8 (p.hcfg 0 1) ++ u8 (p.hcfg 1 1)), (.hartCmd8, 8, hartBytes 16 4), (.hartCmd12, 12, l.cfg.message), (.hartCmd13, 13, (l.cfg.hart.drop 8).take 6 ++ (l.cfg.hart.drop 0x30).take 15),
       (.hartCmd14, 14, hartBytes 32 3 ++ u8 (p.lcfg 0x16 1) ++ hartBytes 36 12),
       (.hartCmd15, 15, u8 ([239, 1, 0].getD (p.lcfg 1 1) 250) ++ u8 0 ++ u8 (p.lcfg 0x16 1) ++ natBe 4 (p.lcfg 12 4) ++ natBe 4 (p.lcfg 8 4) ++ natBe 4 0 ++ u8 (if p.writeProtect then 1 else 0) ++ u8 250 ++ u8 0),
       (.hartCmd16, 16, natBe 3 l.cfg.assembly), (.hartCmd20, 20, (l.cfg.hart.drop 0x10).take 32),
       (.hartCmd48, 48, u8 p.loopFaults ++ List.replicate 5 0 ++ hartBytes 6 1 ++ List.replicate 3 0 ++ u8 (if l.saturated then 1 else 0) ++ List.replicate 2 0 ++ u8 (if held then 1 else 0)),
       (.hartReadLoopConfiguration, 128, u8 p.loopSource ++ u8 (p.lcfg 1 1) ++ u8 (p.lcfg 2 1) ++ natBe 4 (p.lcfg 4 4) ++ natBe 2 (p.lcfg 0x10 2) ++ natBe 2 (p.lcfg 0x12 2) ++ natBe 2 (p.lcfg 0x14 2)),
       (.hartReadLoopDiagnostics, 131, natBe 2 l.setUa ++ natBe 2 (p.fg LCH_LOOP_CURRENT_READ_UA) ++ natBe 2 (p.fg LCH_LOOP_AUX_HEADROOM_MV) ++ natBe 2 (p.fg LCH_LOOP_AUX_CSTORE_MV) ++ u8 p.loopFaults ++ natBe 3 (p.fg LCH_LOOP_RESTARTS_COUNT)),
       (.hartReadAcceleratorLink, 132, u8 lv ++ u8 (if l.absent then 1 else 0) ++ u8 (if l.stale then 1 else 0) ++ u8 (p.fg TWN_STATUS_ROLE) ++ natBe 4 p.hartPv ++
         natBe 4 ((l.accepted.map fun a => (p.clock - a) / 1000000).getD (2 ^ 32 - 1))),
       (.hartReadSensorConfiguration, 133, (l.cfg.loop.drop 0x18).take 9),
       (.hartReadAlarmInputs, 136, (List.range 4).flatMap fun i => u8 (if (p.fg LCH_CORE_STATUS_ALARM).testBit i then 1 else 0) ++ u8 (p.alarmAct i))]
    let cfg := p.lastCfg
    let hart := fun off bs => if hartCfgOk (putBytes cfg.hart off bs) then some { cfg with hart := putBytes cfg.hart off bs } else none
    let loop := fun bs => if loopCfgOk bs then some { cfg with loop := bs } else none
    let at' := fun off bs (c : List Byte) => putBytes c off bs
    let writes : List (Instr × Nat × Option LoopCfg × List Byte) :=
      [(.hartCmd6 addr mode, 6, hart 0 (u8 addr ++ u8 mode), u8 addr ++ u8 mode),
       (.hartCmd17 data, 17, if 24 ≤ data.length then some { cfg with message := data.take 24 } else none, data.take 24),
       (.hartCmd19 data, 19, if 3 ≤ data.length then some { cfg with assembly := beNat (data.take 3) } else none, data.take 3),
       (.hartCmd22 data, 22, if 32 ≤ data.length then hart 0x10 (data.take 32) else none, data.take 32),
       (.hartWriteFailureConfig fail absent staleMs down up, 129, loop (at' 0x12 (natLe 2 up) (at' 0x10 (natLe 2 down) (at' 4 (natLe 4 staleMs) (at' 2 (u8 absent) (at' 1 (u8 fail) cfg.loop))))),
         u8 fail ++ u8 absent ++ natBe 4 staleMs ++ natBe 2 down ++ natBe 2 up),
       (.hartWriteSensorConfiguration sens0 sens1 input, 134, loop (at' 0x20 (u8 input) (at' 0x1C (natLe 4 sens1.toNat) (at' 0x18 (natLe 4 sens0.toNat) cfg.loop))), natLe 4 sens0.toNat ++ natLe 4 sens1.toNat ++ u8 input),
       (.hartWriteRangeValues lrv urv units, 135, loop (at' 0x16 (u8 units) (at' 12 (natLe 4 urv.toNat) (at' 8 (natLe 4 lrv.toNat) cfg.loop))), natBe 4 lrv.toNat ++ natBe 4 urv.toNat ++ u8 units)]
    let busy := l.writes.any (·.mbx.isSome) = true
    let accepted := fun (q : Part) n => ((q.updLoop fun l => { l with changed := true, counter := (l.counter + 1) % 2 ^ 16 }).record 0x0B05 n)
    let store := fun c n => accepted (p.queueWrite ⟨c, none, none, false⟩) n
    (∀ r ∈ reads, exec r.1 s = reply p r.2.1 0 r.2.2) ∧
    (∀ w ∈ writes, (p.writeProtect = true → exec w.1 s = reply p w.2.1 7 []) ∧ (p.writeProtect = false →
      (busy → exec w.1 s = reply p w.2.1 32 []) ∧ (¬ busy → (w.2.2.1 = none → exec w.1 s = reply p w.2.1 2 []) ∧ ∀ c, w.2.2.1 = some c → exec w.1 s = reply (store c w.2.1) w.2.1 0 w.2.2.2))) ∧
    (p.writeProtect = false → ¬ busy → 21 ≤ data.length → let h := putBytes cfg.hart 8 (data.take 6)
      hartCfgOk h = true → hartCfgOk (putBytes h 0x30 ((data.drop 6).take 15)) = true →
      exec (.hartCmd18 data) s = reply (store { cfg with hart := putBytes h 0x30 ((data.drop 6).take 15) } 18) 18 0 (data.take 21)) ∧
    (exec (.hartCmd11 tag) s = (if tag = (l.cfg.hart.drop 8).take 6 then reply p 11 0 p.hartIdentity else toPart s p)) ∧
    (exec (.hartCmd21 tag) s = (if tag = (l.cfg.hart.drop 0x10).take 32 then reply p 21 0 p.hartIdentity else toPart s p)) ∧
    (∃ (q : Part) (x : List Byte), exec (.hartCmd9 codes qv) s = reply q 9 0 x ∧ q.loop = l ∧
      (i < 8 → i < codes.length → let c := codes.getD i 0
        bytesAt x (1 + 8 * i) 1 = c.toNat ∧ bytesAt x (3 + 8 * i) 1 = (p.hartVar c.toNat qv).1 % 2 ^ 8 ∧ (x.drop (4 + 8 * i)).take 4 = natBe 4 (p.hartVar c.toNat qv).2)) ∧
    (exec .hartCmd38 s = (if p.writeProtect then reply p 38 7 [] else reply (p.updLoop fun l => { l with changed := false }) 38 0 (natBe 2 l.counter))) ∧
    (p.writeProtect = true → exec (.hartSetFixedCurrent ua) s = reply p 130 7 []) ∧
    (p.writeProtect = false → ¬ busy →
      (ua = 0 ∨ 3500 ≤ ua ∧ ua ≤ 23000 → exec (.hartSetFixedCurrent ua) s = reply (((p.updLoop fun l => { l with
        fixed := if ua = 0 then none else some ua, changed := true, counter := (l.counter + 1) % 2 ^ 16 }).loopSettle).record 0x0B05 130) 130 0 (natBe 2 ua)) ∧
      (ua ≠ 0 → ua < 3500 ∨ 23000 < ua → exec (.hartSetFixedCurrent ua) s = reply p 130 2 [])) ∧
    (hartKnown.contains cmd = false → exec (.hartUnimplementedCommand cmd) s = reply p cmd 64 [])

/-- The core domain (R631, R633 to R636, R640, R641, R643 to R646, R647 to R651, R654 to R659, R668): its supplies and the cell test, alarm samples, the over-temperature latch, the way of its records to NVM and to the operator ring, the watchdog, and cores that JTAG halts. -/
def Obligations.CoreDomain : Prop :=
  ∀ (s : State) (uf mv closed t c : Nat) (temp : Int) (timeout : Option Nat) (r : CoreRec) (rs : List CoreRec),
    let p := s.part
    let k := p.core
    let bit (n : Nat) : Fld := ⟨LCH_CORE_STATUS, n, 1⟩
    let vbat := (p.updCore fun c => { c with vbat := mv }).fs LCH_CORE_STATUS_VBAT (mv / 20)
    let armed := p.flag LCH_WDT_ARMED
    (p.vstby = true → ∃ q : Part, exec .vstbyFall s = toPart s q ∧ q.vstby = false ∧ q.flag LCH_CORE_STATUS_HOLD_OK = false ∧ q.core.rails = false ∧ q.boot.stage = 0 ∧
      q.loop.absent = true ∧ (2200 ≤ k.vbat → q.flag LCH_CORE_STATUS_ON_CELL = true ∧ q.core.dead = k.dead) ∧ (k.vbat < 2200 → q.core.dead = true ∧ q.core.ret = [])) ∧
    (p.vstby = false → ∃ q : Part, exec (.vstbyRise uf mv) s = toPart s q ∧ q.vstby = true ∧ q.flag LCH_CORE_STATUS_ON_CELL = false ∧ q.core.cellFailed = false ∧ q.core.cycled = true ∧
      q.flag LCH_CORE_STATUS_HOLD_OK = decide (2 * 250 * 10 ^ 6 + uf * 2400 ^ 2 ≤ uf * mv ^ 2) ∧ q.core.dead = false ∧
      (k.dead = true → q.flag LCH_CORE_STATUS_RTC_VALID = false ∧ q.rtcNow = 0 ∧ q.core.ret = []) ∧ (k.dead = false → q.rtcNow = p.rtcNow ∧
        (k.run ≠ none → q.core.ret = k.ret.map CoreRec.cellOnly ∧ q.core.log = k.log) ∧
        (k.run = none → k.log.length + k.ret.length ≤ 1536 → q.core.ret = [] ∧ q.core.log = k.log ++ k.ret.map CoreRec.cellOnly))) ∧
    (p.vstby = true ∨ 2200 ≤ mv → exec (.vbatLoss mv) s = toPart s vbat) ∧
    (p.vstby = false → mv < 2200 → ∃ q : Part, exec (.vbatLoss mv) s = toPart s q ∧ q.core.dead = true ∧ q.core.ret = [] ∧ q.reg LCH_CORE_STATUS = 0) ∧
    (k.dead = true → exec (.cellTest mv) s = toPart s p) ∧
    (k.dead = false → 2700 ≤ mv → exec (.cellTest mv) s = toPart s ((vbat.setFlag LCH_CORE_STATUS_CELL_LOW false).updCore fun c => { c with cellOk := !p.vstby && !c.cellFailed })) ∧
    (k.dead = false → mv < 2700 → ∃ q : Part, exec (.cellTest mv) s = toPart s q ∧ q.flag LCH_CORE_STATUS_CELL_LOW = true ∧ q.core.cellFailed = (k.cellFailed || !p.vstby) ∧
      (p.flag LCH_CORE_STATUS_CELL_LOW = true → q.core.ret = if p.vstby then k.ret else k.ret.map CoreRec.cellOnly) ∧
      (p.flag LCH_CORE_STATUS_CELL_LOW = false → k.ret.length < 63 → ∃ x, q.core.ret = (if p.vstby then k.ret else k.ret.map CoreRec.cellOnly) ++ [x] ∧
        x.code = 0x0C05 ∧ x.seq = p.fg LCH_LOG_SEQ_SEQ ∧ x.rtc = p.rtcNow ∧ x.detail = mv + if p.vstby then 0 else 2 ^ 16)) ∧
    (k.dead = false → ∃ q : Part, exec (.alarmSample closed) s = toPart s q ∧ ∀ i < 4, let now := closed.testBit i != p.alarmPol i
      let old := p.flag (bit (8 + i))
      q.flag (bit (8 + i)) = (if now ≠ old ∧ 2 ≤ Tab.get 0 i k.diff then now else old) ∧
      Tab.get 0 i q.core.diff = (if now = old ∨ 2 ≤ Tab.get 0 i k.diff then 0 else Tab.get 0 i k.diff + 1)) ∧
    (k.dead = false → p.flag LCH_CORE_STATUS_OVERTEMP = false → 120 ≤ temp ∨ 115 ≤ (BitVec.ofNat 8 (p.fg TEL_VL_STATUS_TJ_MAX)).toInt →
      ∃ q : Part, exec (.overtempLatchTrip temp) s = toPart s q ∧ q.flag LCH_CORE_STATUS_OVERTEMP = true ∧ q.flag (bit 12) = true ∧ q.boot.stage = 0 ∧ .pin pinOvertemp 0 ∈ q.out) ∧
    (p.flag LCH_CORE_STATUS_OVERTEMP = true → temp < 90 → p.ep.perst = true ∨ k.cycled = true →
      ∃ q : Part, exec (.overtempLatchRelease temp) s = toPart s q ∧ q.flag LCH_CORE_STATUS_OVERTEMP = false ∧ q.flag (bit 12) = false ∧ .pin pinOvertemp 1 ∈ q.out) ∧
    (p.vstby = true ∨ k.cellOk = true ∧ k.cellFailed = false → k.run = none → k.ret = r :: rs → ∃ q : Part, exec .recordNvmWrite s = toPart s q ∧ q.core.ret = rs ∧
      q.core.log = (if 1536 ≤ k.log.length then k.log.drop 1 else k.log) ++ [r] ∧ q.fg LCH_CORE_STATUS_RET_COUNT = rs.length % 2 ^ 6) ∧
    (1 ≤ p.service → p.ringTakes opRing = true → k.log.find? (fun r => seqAbove r.seq (p.fg LCH_LOG_DELIVERED_SEQ)) = some r →
      let h := if 0x0B01 ≤ r.code ∧ r.code ≤ 0x0B03 then p.lvOwner else none
      exec .logDelivery s = toPart s ((p.raise (r.code / 256 * 256) r.code h (r.detail + rtcSeconds r.rtc * 2 ^ 32) (h.toList ++ [opRing])).fs LCH_LOG_DELIVERED_SEQ r.seq)) ∧
    (armed = true → k.halted = 0 → let ms := match timeout with
        | some n => if 100 ≤ n ∧ n ≤ 60000 then n else p.fg LCH_WDT_TIMEOUT_MS
        | none => p.fg LCH_WDT_TIMEOUT_MS
      ms ≠ 0 → ∃ q : Part, exec (.watchdogKick timeout) s = toPart s q ∧ q.fg LCH_WDT_TIMEOUT_MS = ms ∧ q.core.expiry = some (p.clock + ms * 1000000)) ∧
    (armed = true → p.boot.stage ≠ 0 → (∃ e, k.expiry = some e ∧ e ≤ (p.at t).clock) → ∃ q : Part, exec (.watchdogReset t) s = toPart s q ∧ q.core.cause = 4 ∧
      q.flag LCH_WDT_ARMED = false ∧ q.boot.stage = (if p.qsDown then 0 else 1) ∧ q.loop.absent = true ∧
      (p.fg GBL_STATUS_RUNNING ≠ 0 → p.flag GBL_BOOT_CONFIRMED = false → p.fg GBL_BOOT_FAILS < 254 → q.fg GBL_BOOT_FAILS = p.fg GBL_BOOT_FAILS + 1)) ∧
    (c < 4 → k.rails = true → ∃ q : Part, exec (.jtagCoreHalt c) s = toPart s q ∧ q.core.halted.testBit c = true ∧ q.core.expiry = none ∧ q.flag LCH_WDT_PAUSED = armed ∧
      ∀ e, k.expiry = some e → q.core.left = e - p.clock) ∧
    (c < 4 → k.rails = true → k.halted = 2 ^ c → ∃ q : Part, exec (.jtagCoreResume c) s = toPart s q ∧ q.core.halted = 0 ∧ q.flag LCH_WDT_PAUSED = false ∧
      (armed = true → k.left ≠ 0 → q.core.expiry = some (p.clock + k.left)))

/-- Denben frames (R681 to R683, R686, R687, R689, R692, R696): a transmitter sends one frame in each frame period, with the alignment word, its frame number, the BIP of the frame before and good CRCs; a receiver in alignment loses it after FAW_M errored alignment words and declares dLOF, counts a frame whose overhead CRC fails and keeps the last good fields, and takes the peer's serial number from a good one; a receiver without alignment gains it after FAW_N good words. -/
def Obligations.DenbenFrames : Prop :=
  ∀ (s : State) (k t : Nat) (raw : List Byte), k < 9 →
    let p := s.part
    let P := p.at t
    let f := p.frm k
    let d := scramble raw
    let errors := fawErrors raw
    let covered := (d.drop 0x48).take 0xB4
    (P.denbenUp = false → exec (.frameTransmit k t) s = toPart s P ∧ exec (.frameReceive k t raw) s = toPart s P) ∧
    (P.denbenUp = true → p.flag (FRM_CTRL_ENABLE k) = true → f.fn < 64 → ∃ (q : Part) (b : List Byte) (pre post : List Out), exec (.frameTransmit k t) s = toPart s q ∧
      q.out = P.out ++ pre ++ .frame k b :: post ∧ (q.frm k).fn = (f.fn + 1) % 64 ∧ (q.frm k).bip = bip16 b ∧
      (q.frm k).mfc = (if f.fn = 63 then (f.mfc + 1) % 2 ^ 32 else f.mfc) ∧
      let d := scramble b
      d.take 8 = fawBytes ∧ bytesAt d 0x48 1 = f.fn ∧ bytesAt d 0x4A 2 = f.bip % 2 ^ 16 ∧ bytesAt d 0x4C 4 = f.mfc % 2 ^ 32 ∧ bytesAt d 0x60 8 = p.ep.serial % 2 ^ 64 ∧
        bytesAt d 0xFC 4 = crc32c ((d.drop 0x48).take 0xB4) % 2 ^ 32 ∧ bytesAt d 0x5C 4 = crc32c (d.drop 0x100) % 2 ^ 32) ∧
    (P.denbenUp = true → raw.length = 8448 → f.word = none → f.agreed = none → f.quiet = none →
      (f.aligned = true → p.defects k = 0 → f.par.1 < errors → P.fg ⟨FRM_CNT k 1, 0, 31⟩ < 2 ^ 31 - 2 → ∃ q : Part, exec (.frameReceive k t raw) s = toPart s q ∧
        q.fg ⟨FRM_CNT k 1, 0, 31⟩ = P.fg ⟨FRM_CNT k 1, 0, 31⟩ + 1 ∧
        (f.badFaw + 1 < f.par.2.2 → (q.frm k).aligned = true ∨ k = 0) ∧ (f.par.2.2 ≤ f.badFaw + 1 → (q.frm k).aligned = false ∧ q.defects k = 4)) ∧
      (f.aligned = true → p.defects k = 0 → errors ≤ f.par.1 → crc32c covered ≠ bytesAt d 0xFC 4 → P.fg ⟨FRM_CNT k 2, 0, 31⟩ < 2 ^ 31 - 2 → ∃ q : Part, exec (.frameReceive k t raw) s = toPart s q ∧
        q.fg ⟨FRM_CNT k 2, 0, 31⟩ = P.fg ⟨FRM_CNT k 2, 0, 31⟩ + 1 ∧ (q.frm k).echoTx = f.echoTx ∧ (q.frm k).expect = f.expect ∧ q.reg (FRM_PEER_SERIAL k) = p.reg (FRM_PEER_SERIAL k) ∧ (q.frm k).errored = true) ∧
      (f.aligned = true → k ≠ 0 → p.defects k = 0 → errors ≤ f.par.1 → crc32c covered = bytesAt d 0xFC 4 → ∃ q : Part, exec (.frameReceive k t raw) s = toPart s q ∧
        q.fg (FRM_PEER_SERIAL_SERIAL k) = bytesAt covered 0x18 8 ∧ (q.frm k).echoTx = bytesAt covered 0x30 8 ∧ (q.frm k).echoRx = t ∧ (q.frm k).bipPrev = some (bip16 raw)) ∧
      (f.aligned = false → k ≠ 0 → p.lanesLocked k = true → errors ≤ f.par.1 → f.par.2.1 ≤ f.confirm + 1 → ∃ q : Part, exec (.frameReceive k t raw) s = toPart s q ∧
        (q.frm k).aligned = true ∧ (q.defects k).testBit 2 = false))

/-- Denben lanes, widths, retrains, serial channels and the reference clock (R684, R688, R692, R711 to R713, R715, R717, R718, R808). -/
def Obligations.DenbenLinks : Prop :=
  ∀ (s : State) (k t lane fn ctrl skew sig w d ch rxd a : Nat) (ok : Bool) (b : Byte) (bs : List Byte), k < 9 →
    let p := s.part
    let P := p.at t
    let f := p.frm k
    let lanes := p.fg (FRM_STATUS_LANES k)
    let best := widestIn (p.fg (FRM_CTRL_MAX_WIDTH 0)) (p.bothGood 0)
    let asked := fun c cause => ∃ q : Part, exec c s = toPart s q ∧ q = { P with den := q.den } ∧
      (q.frm 0).op = 1 ∧ (q.frm 0).opW = w ∧ (q.frm 0).opL = lowLanes (2 ^ w) (p.bothGood 0) ∧ (q.frm 0).token = ((p.frm 0).token + 1) % 16 ∧ (q.frm 0).cause = cause
    let auto := P.denbenUp = true ∧ p.flag (FRM_CTRL_AUTO_WIDTH 0) = true ∧ (p.frm 0).op ≠ 1 ∧ p.widthBusy 0 = false ∧ best = some w
    (P.denbenUp = true → lane < 8 → (k = 0 ∨ lane = 0) → f.word = none → ∃ q : Part, exec (.laneMarker k t lane ok fn ctrl skew) s = toPart s q ∧
      let n : Int := max (-4) (min 3 (if ok then max 0 (Tab.get 0 lane f.marks) + 1 else min 0 (Tab.get 0 lane f.marks) - 1))
      Tab.get 0 lane (q.frm k).marks = n ∧ (q.frm k).skew = skew ∧
      (q.fg (FRM_LANES_LOCK k)).testBit lane = (if n = 3 then true else if n = -4 then false else (p.fg (FRM_LANES_LOCK k)).testBit lane) ∧
      ∀ j < 8, j ≠ lane → (q.fg (FRM_LANES_LOCK k)).testBit j = (p.fg (FRM_LANES_LOCK k)).testBit j) ∧
    (p.den.up = true → p.qsDown = false → let sig' := if p.den.refclk then (if k = 0 then sig % 256 else sig % 2) else 0
      ∃ q : Part, exec (.dlosTimer k t sig) s = toPart s q ∧ q.fg (FRM_LANES_NO_SIGNAL k) = 255 - sig' ∧ q.fg (FRM_LANES_GOOD k) = p.fg (FRM_LANES_LOCK k) &&& sig' ∧
        (f.quiet = none → lanes &&& sig' = 0 → (q.defects k).testBit 0 = true) ∧ (lanes &&& sig' ≠ 0 → (q.defects k).testBit 0 = false)) ∧
    (auto → p.lanesBad 0 ≠ 0 → asked (.widthRequest t) 0) ∧ (auto → p.fg (FRM_STATUS_WIDTH 0) < w → asked (.widthRestore t) 1) ∧
    (P.denbenUp = true → f.defectAt = some a → a + 10000000 ≤ P.time → p.widthBusy k = false → ∃ q : Part, exec (.retrainDefectTimeout k t) s = toPart s q ∧
      q.flag (FRM_STATUS_RETRAINING k) = true ∧ q.fg (FRM_LANES_LOCK k) = 0 ∧ q.fg (FRM_STATUS_WIDTH k) = p.fg (FRM_CTRL_MAX_WIDTH k) ∧ (q.frm k).aligned = false ∧ (q.frm k).op = 0 ∧
      (q.frm k).retrainSend = 2 ∧ (q.frm k).fn = 0 ∧ (q.frm k).mfc = f.mfc ∧ (p.fg (FRM_RETRAINS_COUNT k) < 2 ^ 24 - 1 → q.fg (FRM_RETRAINS_COUNT k) = p.fg (FRM_RETRAINS_COUNT k) + 1)) ∧
    (p.flag (FRM_STATUS_RETRAINING k) = true → f.failedAt = none → f.attemptAt + 10000000 ≤ P.time →
      exec (.retrainAttemptTimeout k t) s = toPart s (P.updFrm k fun f => { f with failedAt := some P.time, waitMs := if f.waitMs = 0 then 1 else min 1000 (2 * f.waitMs) })) ∧
    (p.flag (FRM_STATUS_RETRAINING k) = true → f.failedAt = some a → a + f.waitMs * 1000000 ≤ P.time → ∃ q : Part, exec (.retrainRetry k t) s = toPart s q ∧
      (q.frm k).failedAt = none ∧ (q.frm k).attemptAt = P.time ∧ q.fg (FRM_LANES_LOCK k) = 0 ∧ q.fg (FRM_STATUS_WIDTH k) = p.fg (FRM_CTRL_MAX_WIDTH k) ∧ (q.frm k).fn = 0 ∧ (q.frm k).mfc = f.mfc) ∧
    (d < 4 → Tab.get none d p.den.live = some (k, ch) → p.flag (FRM_DCC_SUSPENDED d) = false → Tab.get [] d p.den.toTxd = b :: bs → ∃ q : Part, exec (.dccExchange d rxd) s = toPart s q ∧
      q.out = p.out ++ [.serial d [b]] ∧ Tab.get [] d q.den.toTxd = bs ∧
      ((Tab.get [] d p.den.fromRxd).length < 4 → Tab.get [] d q.den.fromRxd = Tab.get [] d p.den.fromRxd ++ [BitVec.ofNat 8 rxd] ∧ q.regs = p.regs) ∧
      (4 ≤ (Tab.get [] d p.den.fromRxd).length → Tab.get [] d q.den.fromRxd = Tab.get [] d p.den.fromRxd ∧
        (p.rxDown k = false → f.quiet = none → p.fg ⟨FRM_CNT k 6, 0, 31⟩ < 2 ^ 31 - 2 → q.fg ⟨FRM_CNT k 6, 0, 31⟩ = p.fg ⟨FRM_CNT k 6, 0, 31⟩ + 1))) ∧
    (∃ q : Part, exec (.twinRefclkLoss t) s = toPart s q ∧ q.den.refclk = false ∧ (p.den.up = true → p.qsDown = false → f.quiet = none → (q.defects k).testBit 0 = true)) ∧
    exec (.twinRefclkReturn t) s = toPart s { P with den := { P.den with refclk := true } }

/-- The pair (R607, R725, R726, R733 to R741, R751, R753, R754, R756 to R761): heartbeats, fence pulses and what their absence begins; a STATUS message forms a pair as standby or as primary, resolves a split brain by term and then by serial number, dissolves the pair when a partner leaves it, and exchanges roles; LOOP messages and source currents; a round of shared time; a disagreement that lasts; the end of the hold; and the part acts as PRIMARY once its term is written. -/
def Obligations.TwinPair : Prop :=
  ∀ (s : State) (t a : Nat) (x : Int) (m : List Byte) (ms : List (List Byte)) (pr : Promote),
    let p := s.part
    let P := p.at t
    let w := p.tw
    let own := p.twinMode ≠ 0
    let last := fun (o : Option Nat) => max (o.getD 0) w.since
    let goes := fun c (Q : Part → Prop) => ∃ q : Part, exec c s = toPart s q ∧ Q q
    let role := fun (q : Part) (r : Nat) => q.fg TWN_STATUS_ROLE = r
    let q : Partner := ⟨bytesAt m 1 1, bytesAt m 2 1, bytesAt m 3 1 % 4, bytesAt m 3 1 / 16 % 4, bytesAt m 4 4, (m.drop 8).take 32, bytesAt m 0x28 1⟩
    let same := q.major = 2 ∧ q.digest = p.pairDigest
    let heard := fun (Q : Part → Prop) => own → w.messages = m :: ms → bytesAt m 0 1 = 1 → goes .dccPStatusMessage fun r => r.tw.messages = ms ∧ r.tw.partner = some q ∧ r.tw.partnerTerm = q.term ∧ Q r
    let offset : Int := (BitVec.ofNat 64 (p.fg TWN_PAIR_OFFSET_OFFSET)).toInt
    let err := x + w.partnerOffset - offset
    let acked := p.fg TWN_EPOCH_ACKED_EPOCH
    (own → exec (.heartbeatTick t) s = toPart s (P.updTwin fun w => { w with heartbeat := (w.heartbeat + 1) % 2 ^ 32 })) ∧
    (own → p.fg GBL_STATUS_SERVICE ≠ 0 → p.core.halted = 0 → exec (.fencePulse t) s = toPart s (P.emit (.pin 6 1))) ∧
    (own → goes (.fenceInEdge t) fun q => q.tw = { w with fenceAt := some P.time, fenceAbsent := false } ∧ q.flag TWN_STATUS_FENCE_FAULT = false ∧ q.flag TWN_STATUS_LINK_DOWN = w.missing) ∧
    (own → w.missing = false → last w.beatAt + 160000 ≤ P.time → goes (.heartbeatMissing t) fun q => q.tw.missing = true ∧ q.tw.versionRaised = false ∧ role q p.role ∧
      (w.fenceAbsent = false → q.flag TWN_STATUS_LINK_DOWN = true) ∧
      (w.fenceAbsent = true → (p.role = 2 → q.flag TWN_STATUS_HOLD = true ∧ q.tw.holdAt = P.time) ∧ (p.role ≠ 2 → q.tw.formed = false))) ∧
    (own → w.fenceAbsent = false → last w.fenceAt + 100000 ≤ P.time → goes (.fenceAbsent t) fun q => q.tw.fenceAbsent = true ∧ role q p.role ∧
      (w.missing = false → q.flag TWN_STATUS_FENCE_FAULT = true) ∧
      (w.missing = true → (p.role = 2 → q.flag TWN_STATUS_HOLD = true ∧ q.tw.holdAt = P.time) ∧ (p.role ≠ 2 → q.tw.formed = false))) ∧
    (p.role = 3 → p.fg TWN_STATUS_REQUEST = 2 → q.role = 1 → same → p.twinPortGood = true → heard fun r => role r 2 ∧ r.fg LCH_TERM_TERM = q.term ∧ r.flag TWN_STATUS_SYNCED = false ∧ r.tw.formed = true) ∧
    (p.role = 1 → w.formed = false → q.role = 2 ∨ q.role = 3 ∧ q.request = 2 → same → p.twinPortGood = true → heard fun r => role r 1 ∧ r.tw.formed = true ∧ r.tw.copy = true ∧
      (w.opened = false → r.fg TWN_EPOCH_EPOCH = 1 ∧ r.fg TWN_EPOCH_ACKED_EPOCH = 0)) ∧
    (p.role = 1 → p.fg TWN_STATUS_REQUEST = 0 → q.role = 1 → q.request ≠ 2 ∨ w.formed = false → let peer := p.fg (FRM_PEER_SERIAL_SERIAL 0)
      (p.term < q.term ∨ p.term = q.term ∧ p.ep.serial < peer → heard fun r => role r 3 ∧ r.tw.formed = false) ∧
      (q.term < p.term ∨ p.term = q.term ∧ peer ≤ p.ep.serial → heard fun r => role r 1 ∧ r.tw.splitNow = true)) ∧
    (p.role = 2 → q.role = 3 ∨ q.role = 0 → w.missing = false → heard fun r => role r 3 ∧ r.tw.formed = false) ∧
    (p.role = 1 → w.formed = true → q.role = 0 ∨ q.role = 3 ∧ q.request ≠ 2 → heard fun r => role r 1 ∧ r.tw.formed = false) ∧
    (p.role = 2 → w.formed = true → w.promote = none → q.role = 1 → q.request = 2 → heard fun r => role r 2 ∧ r.tw.promote = some ⟨7, (max p.term q.term + 1) % 2 ^ 32, none⟩) ∧
    (own → w.messages = m :: ms → bytesAt m 0 1 = 2 → let L := p.updTwin fun w => { w with messages := ms, partnerOffset := (BitVec.ofNat 64 (bytesAt m 0x10 8)).toInt }
      let pass := p.loopStandby = true ∧ bytesAt m 1 1 = 1 ∧ w.passedSeq ≠ some (bytesAt m 4 4)
      (¬ pass → exec .dccPLoopMessage s = toPart s L) ∧
      (pass → p.loop.running = true → p.tooSoon = true → exec .dccPLoopMessage s =
        toPart s ((L.updTwin fun w => { w with passedSeq := some (bytesAt m 4 4) }).updLoop fun l => { l with dccNext := some (bytesAt m 2 2, bytesAt m 8 4) })) ∧
      (pass → p.loop.running = true → p.tooSoon = false → goes .dccPLoopMessage fun q => q.tw = { L.tw with passedSeq := some (bytesAt m 4 4) } ∧ q.loop.pv = some (BitVec.ofNat 32 (bytesAt m 8 4)) ∧ q.loop.dcc = some (bytesAt m 2 2) ∧ q.loop.timer = p.clock ∧ q.loop.stale = false)) ∧
    (p.role = 1 → let valid := p.flag LCH_LOOP_STATUS_LOOP_PRESENT && p.loop.given.isSome
      let ua := p.loop.given.getD 0
      exec (.sourceCurrentRead t) s = (if ua = w.srcUa ∧ valid = w.srcValid ∧ P.time < w.srcAt + 1000000 then toPart s P
        else toPart s (P.updTwin fun w => { w with srcUa := ua, srcValid := valid, srcSeq := (w.srcSeq + 1) % 2 ^ 32, srcAt := P.time }))) ∧
    (p.role = 2 → w.formed = true → w.missing = false → w.thetas = [2 * x] → goes (.syncRound t) fun q =>
      let step := if w.synced1 then max (-1000) (min 1000 err) else err
      q.fg TWN_PAIR_OFFSET_OFFSET = (BitVec.ofInt 64 (offset + step)).toNat ∧ q.fg TWN_TIME_ERR_ERR = (BitVec.ofInt 32 err).toNat ∧ q.tw.synced1 = true ∧
      ((w.limitNs : Int) < err ∨ err < -(w.limitNs : Int) → q.tw.badRounds = w.badRounds + 1 ∧ q.tw.goodRounds = 0 ∧ (2 ≤ w.badRounds → q.flag TWN_STATUS_TIME_DISCORD = true)) ∧
      (-(w.limitNs : Int) ≤ err → err ≤ w.limitNs → q.tw.goodRounds = w.goodRounds + 1 ∧ q.tw.badRounds = 0 ∧ (2 ≤ w.goodRounds → q.flag TWN_STATUS_TIME_DISCORD = false))) ∧
    (w.differ = some a → w.partner.isSome = true → w.formed = true → a + 1000000000 ≤ P.time → goes (.configDiscordTimeout t) fun q => q.tw.formed = false ∧ role q (if p.role = 2 then 3 else p.role)) ∧
    (p.flag TWN_STATUS_HOLD = true → w.holdAt + (if w.planned then p.fg TWN_CTRL_PLANNED_HOLD * 1000000 else w.delay * 1000) ≤ P.time → goes (.failoverHoldEnd t) fun q => q.flag TWN_STATUS_HOLD = false ∧
      (p.flag TWN_STATUS_SYNCED = true → w.promote = none → role q p.role ∧ q.tw.promote = some ⟨2, p.nextTerm, none⟩) ∧
      (p.flag TWN_STATUS_SYNCED = false → role q 3 ∧ q.tw.formed = false)) ∧
    (w.promote = some pr → goes .termWriteDone fun q => q.tw.promote = none ∧ role q 1 ∧ q.fg LCH_TERM_TERM = pr.term % 2 ^ 32 ∧
      (pr.cause = 0 → q.fg TWN_STATUS_REQUEST = 0 ∧ ∀ k, pr.mbx = some k → (q.mbx k).ended = true ∧ ∃ h, (q.mbx k).rsp = h ++ natLe 4 (pr.term % 2 ^ 32)) ∧
      (pr.cause ≠ 0 → q.fg TWN_EPOCH_EPOCH = (acked + 1) % 2 ^ 32 ∧ q.fg TWN_LAG_EPOCHS = 0 ∧ (pr.cause = 2 → q.tw.formed = false) ∧ (pr.cause ≠ 2 → q.tw.copy = true ∧ q.tw.dirty = [] ∧ q.fg TWN_STATUS_REQUEST = 0)))

/-- Mirroring (R335, R741 to R747, R749, R750): a PRIMARY closes an epoch with one DATA record for each page written in it, or for every mirrored page where a full copy starts, a QUEUE record for each mirrored queue pair, a STALE record for each plot and a CLOSE with the counts; a STANDBY writes the DATA records into its regions, holds the QUEUE records, makes plots stale, acknowledges a CLOSE whose counts match and loses SYNCED at one whose counts do not; in LOCKSTEP results of one unit are compared. -/
def Obligations.TwinMirrorRecords : Prop :=
  ∀ (s : State) (t : Nat) (r : List Byte) (rest : List (List Byte)) (v : UnitRes),
    let d := s.dev
    let p := s.part
    let w := p.tw
    let e := p.fg TWN_EPOCH_EPOCH
    let pages := if w.copy then p.regionPages else w.dirty.filter fun g => p.mirrored (4096 * g)
    let a := bytesAt r 2 2 * 2 ^ 30 + bytesAt r 4 4
    let n := bytesAt r 1 1
    let head := fun type => w.inbox = r :: rest ∧ bytesAt r 0 1 = type
    let P := p.updTwin fun w => { w with inbox := rest }
    let agree := bytesAt r 0xC 4 = w.gotGranules ∧ bytesAt r 0x10 2 = w.gotQueues
    let resync := (bytesAt r 1 1).testBit 0 = true
    let u : UnitRes := ⟨bytesAt r 1 1, bytesAt r 2 1, bytesAt r 4 4, (r.drop 0x20).take 32, bytesAt r 8 4⟩
    (p.twinMode ≠ 0 → p.role = 1 → (p.at t).pairTime % (w.epochUs * 1000) = 0 → ∃ D : Dev, exec (.epochClose t) s = toDev s D ∧ D.mem = d.mem ∧
      D.p.fg TWN_EPOCH_EPOCH = (e + 1) % 2 ^ 32 ∧ D.p.fg TWN_LAG_EPOCHS = min 65535 (p.fg TWN_LAG_EPOCHS + 1) ∧ D.p.tw.dirty = [] ∧ D.p.tw.stale = [] ∧ D.p.tw.ended = (if p.twinMode = 2 ∨ w.copy = true ∧ w.formed = true then [] else w.ended) ∧
      (w.formed = false → D.p.tw.outbox = w.outbox) ∧
      (w.formed = true → p.twinMode = 1 → D.p.tw.copy = false ∧ ∃ data : List (List Byte), data.length = pages.length ∧
        D.p.tw.outbox = w.outbox ++ data ++ p.mirroredQps.map (fun q => p.queueRecord e q) ++ w.stale.map (fun j => unitOf [(0, [3]), (2, natLe 2 j), (8, natLe 4 e)]) ++
          [closeRecord w.copy e (64 * pages.length) p.mirroredQps.length] ∧
        ∀ i, i < pages.length → let x := 4096 * pages.getD i 0
          let b := data.getD i []
          bytesAt b 0 1 = 1 ∧ bytesAt b 1 1 = 64 ∧ bytesAt b 2 2 = x / 2 ^ 30 % 2 ^ 16 ∧ bytesAt b 4 4 = x % 2 ^ 30 ∧ bytesAt b 8 4 = e ∧
          ((∀ g < 64, p.sliceUp (sliceOf (x + 64 * g)) = true ∧ p.gran (x / 64 + g) = 0) → bytesAt b 0x10 8 = 0 ∧ b.drop 64 = d.bytes x 4096))) ∧
    (p.role = 2 → head 1 → r.length = 64 * (n + 1) → a % 64 = 0 → bytesAt r 0x10 8 = 0 → w.resync = none →
      (∀ x, a ≤ x → x < a + 64 * n → p.mirrored x = true ∧ p.unfilled x = false ∧ p.sliceUp (sliceOf x) = true) → ∃ D : Dev, exec .mirrorDataRecord s = toDev s D ∧
      Stored d D a (r.drop 64) ∧ D.p.tw = { w with inbox := rest, gotGranules := w.gotGranules + n }) ∧
    (p.role = 2 → head 2 → exec .mirrorQueueRecord s = toPart s (P.updTwin fun w => { w with gotQueues := w.gotQueues + 1, heldRecs := w.heldRecs ++ [⟨bytesAt r 2 2, bytesAt r 4 2, bytesAt r 6 2, bytesAt r 0xC 1 % 2, (List.range n).map fun i => (r.drop (64 * (i + 1))).take 64⟩] })) ∧
    (p.role = 2 → head 3 → bytesAt r 2 2 < 288 → ∃ D : Dev, exec .mirrorStaleRecord s = toDev s D ∧ D.p.flag (SLC_PLOT_STALE (bytesAt r 2 2)) = true ∧ D.p.tw = { w with inbox := rest } ∧
      ∀ x < 288 * 2 ^ 30, D.byte x = if x / 2 ^ 30 = bytesAt r 2 2 then 0 else d.byte x) ∧
    (p.role = 2 → head 4 → ∃ q : Part, exec .mirrorCloseRecord s = toPart s q ∧ q.tw.inbox = rest ∧ q.tw.heldRecs = [] ∧ q.tw.gotGranules = 0 ∧ q.tw.gotQueues = 0 ∧
      (agree → (resync ∨ p.flag TWN_STATUS_SYNCED = true) → q.flag TWN_STATUS_SYNCED = true ∧ q.fg TWN_EPOCH_ACKED_EPOCH = bytesAt r 8 4 ∧ q.tw.ack = bytesAt r 8 4 ∧ q.tw.ackedRecs = w.heldRecs) ∧
      (agree → ¬ resync → p.flag TWN_STATUS_SYNCED = false → q.flag TWN_STATUS_SYNCED = false ∧ q.tw.ack = w.ack ∧ q.reg TWN_EPOCH_ACKED = p.reg TWN_EPOCH_ACKED) ∧
      (¬ agree → q.flag TWN_STATUS_SYNCED = false ∧ q.tw.ack = w.ack ∧ q.reg TWN_EPOCH_ACKED = p.reg TWN_EPOCH_ACKED)) ∧
    (p.twinMode = 2 → head 5 →
      (w.mine.find? u.same = none → exec .mirrorResultRecord s = toPart s (P.updTwin fun w => { w with theirs := w.theirs ++ [u] })) ∧
      (w.mine.find? u.same = some v → let M := P.updTwin fun w => { w with mine := w.mine.filter fun x => !u.same x }
        (u.digest = v.digest → exec .mirrorResultRecord s = toPart s M) ∧
        (u.digest ≠ v.digest → p.fg ⟨TWN_RESULT_DISCORDS, 0, 31⟩ < 2 ^ 31 - 2 → ∃ q : Part, exec .mirrorResultRecord s = toPart s q ∧ q.tw.mine = M.tw.mine ∧ q.fg ⟨TWN_RESULT_DISCORDS, 0, 31⟩ = p.fg ⟨TWN_RESULT_DISCORDS, 0, 31⟩ + 1)))

/-- Bring-up (R42, R240, R241, R766 to R775, R778, R785 to R790, R794, R803, R804): the stages S1 to S7 and what each sets, S3 with the order of its slots, its failures and waits, a silent core domain, the retest of a bracken, confirmation after 60 s, the delivery of boot events, a brown-out of the fabric, rails that settle and a rail that dips. -/
def Obligations.BringUp : Prop :=
  ∀ (s : State) (t failed b mv : Nat) (link : Bool) (facts : List (Nat × Nat × Nat)) (r : BootRec) (rs : List BootRec),
    let p := s.part
    let P := p.at t
    let k := p.boot
    let goes := fun c (Q : Part → Prop) => ∃ q : Part, exec c s = toPart s q ∧ Q q
    let fails := p.fg GBL_BOOT_FAILS
    let wait := fun (q : Part) n => q.boot.waitMs = min 60000 (100 * 2 ^ (n - 1)) ∧ q.boot.waitAt = P.time
    let one := k.force.getD (if fails % 2 = 0 then p.fg GBL_BOOT_NEXT else 1 - p.fg GBL_BOOT_NEXT)
    let valid := fun slot => (p.slotFound slot facts).check = 0
    let starts := fun (q : Part) slot => q.boot.stage = 3 ∧ q.fg GBL_STATUS_SERVICE = 1 ∧ q.fg GBL_STATUS_RUNNING = slot + 1 ∧ q.flag GBL_STATUS_WAIT_PUSH = false ∧ q.flag LCH_WDT_ARMED = true ∧
      q.ep.fwVersion = (p.slotFound slot facts).version ∧ q.ep.fwif = (p.slotFound slot facts).fwif ∧ q.boot.startedAt = P.time ∧ ∀ i ∈ [2, 4, 6, 8], q.ep.avail.testBit i = true
    let s3 := fun c => (one < 2 → valid one → goes c fun q => starts q one) ∧ (one < 2 → ¬ valid one → valid (1 - one) → goes c fun q => starts q (1 - one)) ∧
      (one < 2 → ¬ valid one → ¬ valid (1 - one) → fails < 254 → goes c fun q => q.boot.stage = 2 ∧ q.fg GBL_BOOT_FAILS = fails + 1 ∧ wait q (fails + 1) ∧ q.flag GBL_STATUS_WAIT_PUSH = true ∧ q.flag GBL_STATUS_RETRYING = true)
    let retest := Tab.get 0 b k.retest
    let run := p.fg GBL_STATUS_RUNNING
    (k.stage = 1 → p.ep.linkDisabled = false → goes (.stageS2 t link) fun q => q.boot.stage = 2 ∧ q.ep.crs = false ∧ q.fg GBL_STATUS_STAGE = max 2 (p.fg GBL_STATUS_STAGE) ∧
      (∀ m < 17, q.fg (MBX_STATUS_STATE m) = 0) ∧ (∀ i ∈ [1, 3, 0xD, 5, 9, 0xA], q.ep.avail.testBit i = true) ∧
      (link = true → q.ep.serial = p.ep.serialNvm ∧ q.ep.bar2Code = p.ep.bar2Nvm ∧ (fails ≠ 0 → wait q fails)) ∧
      (link = false → q.ep.serial = 0 ∧ q.ep.bar2Code = 0 ∧ q.flag GBL_STATUS_LICHEN_LINK = true ∧ q.boot.silentMs = 100)) ∧
    (k.stage = 2 → k.silentMs ≠ 0 → goes (.lichenLinkRetry t link) fun q => q.boot.stage = 2 ∧
      (link = true → q.boot.silentMs = 0 ∧ q.flag GBL_STATUS_LICHEN_LINK = false ∧ (fails ≠ 0 → wait q fails)) ∧ (link = false → q.boot.silentMs = min 60000 (2 * k.silentMs))) ∧
    (k.stage = 2 → k.silentMs = 0 → k.waitMs = 0 → s3 (.stageS3 t facts)) ∧
    (k.stage = 2 → k.silentMs = 0 → k.waitMs ≠ 0 → k.waitAt + k.waitMs * 1000000 ≤ max p.time t → s3 (.bootBackoffEnd t facts)) ∧
    (k.stage = 3 → k.rising = false → ∀ read, goes (.stageS4 t failed read) fun q => (∀ i < 64, (q.fg GBL_BRK_FAIL_FAILED).testBit i = failed.testBit i) ∧
      (∀ i < 64, Tab.get 0 i q.boot.retest = if failed.testBit i then 100 else 0) ∧ (q.out.drop P.out.length).take 2 = [.pmbus 0x27 1, .pmbus 0x21 (nominalMv 0)] ∧
      (read = some mv → inWindow 1 mv = true → k.back = 0 → q.boot.stage = 4 ∧ q.flag GBL_STATUS_LC_HOLD = p.lcHeld ∧ q.boot.granted = true ∧ q.ep.avail.testBit 0xB = true ∧
        (k.granted = false → failed.testBit 0 = false → q.brkOwner 0 = some 0)) ∧
      (read.any (inWindow 1) = false → q.boot.stage = 3 ∧ q.flag GBL_STATUS_RETRYING = true)) ∧
    (k.stage = 4 → p.lcHeld = false → Answers (exec (.stageS5 t failed) s) fun u => u.pending = s.pending ∧ u.part.boot.stage = 5 ∧ u.part.boot.trained = true ∧
      (k.trained = true → u.dev.mem = s.dev.mem) ∧
      (k.trained = false → (∀ n < 8, u.part.fg (SLC_STATUS_STATE n) = if failed.testBit n then 0 else 2) ∧ ∀ x < 288 * 2 ^ 30, u.dev.byte x = 0)) ∧
    (k.stage = 5 → goes (.stageS6 t) fun q => q.boot.stage = 6 ∧ q.den.up = true ∧ q.ep.avail.testBit 7 = true) ∧
    (k.stage = 6 → p.active ≠ 0 → goes (.stageS7 t) fun q => q.boot.stage = 7 ∧ q.fg GBL_STATUS_SERVICE = if p.degraded then 2 else 3) ∧
    (b < 64 → retest ≠ 0 →
      (goes (.brackenRetest t b true) fun q => (q.fg GBL_BRK_FAIL_FAILED).testBit b = false ∧ Tab.get 0 b q.boot.retest = 0 ∧
        (p.fg GBL_STATUS_SERVICE = 2 → p.fg GBL_STATUS_SLICES_DOWN = 0 → p.fg GBL_BRK_FAIL_FAILED = 2 ^ b → q.fg GBL_STATUS_SERVICE = 3)) ∧
      (goes (.brackenRetest t b false) fun q => (q.fg GBL_BRK_FAIL_FAILED).testBit b = true ∧ Tab.get 0 b q.boot.retest = min 60000 (2 * retest) ∧ q.brkOwner b = none)) ∧
    (run ≠ 0 → p.flag GBL_BOOT_CONFIRMED = false → p.core.halted = 0 → k.startedAt + 60000000000 ≤ max p.time t → goes (.bootConfirm t) fun q =>
      q.fg GBL_BOOT_FAILS = 0 ∧ q.fg GBL_BOOT_SAT = 0 ∧ q.fg GBL_BOOT_NEXT = (run - 1) % 2 ∧ q.flag GBL_BOOT_CONFIRMED = true) ∧
    (1 ≤ p.fg GBL_STATUS_SERVICE → p.ringTakes opRing = true → k.recs = r :: rs → k.lost = false → exec .bootEventDelivery s =
      toPart s (({ p with boot := { k with recs := rs, lost := false } }).raise 0x0F00 r.code none (r.low + r.time / 1000 % 2 ^ 32 * 2 ^ 32) [opRing])) ∧
    (k.stage ≠ 0 → goes .fabBrownout fun q => q.boot.stage = min k.stage 3 ∧ (4 ≤ k.stage → k.back ≤ k.stage → q.boot.back = k.stage) ∧ q.fab = {} ∧ (∀ h < 16, (q.hedge h).image = none) ∧
      q.fg TEL_VL_STATUS_ACTIVE = 0 ∧ q.fg TEL_VL_STATUS_TARGET = 0 ∧ q.flag TEL_VL_STATUS_GLIDING = false ∧ q.fg GBL_STATUS_SERVICE = min 1 (p.fg GBL_STATUS_SERVICE)) ∧
    (k.stage = 0 → p.vstby = true → p.flag LCH_CORE_STATUS_OVERTEMP = false → p.ep.perst = false → goes .railsSettled fun q => q.core.rails = true ∧ q.boot.stage = 1 ∧ q.time = 0 ∧
      q.fg GBL_RESET_CAUSE_CAUSE = p.core.cause % 2 ^ 4 ∧ (p.fg LCH_BOOT_ATTEMPTS_COUNT < 2 ^ 24 - 1 → q.fg LCH_BOOT_ATTEMPTS_COUNT = p.fg LCH_BOOT_ATTEMPTS_COUNT + 1)) ∧
    (k.stage ≠ 0 ∨ p.ep.perst = true ∨ p.vstby = false → exec .railsSettled s = toPart s (p.updCore fun c => { c with rails := true })) ∧
    Answers (exec .railDip s) (fun u => u.pending = s.pending ∧ u.dev.mem = [] ∧ u.part.boot.stage = 0 ∧ u.part.core.rails = false ∧ (k.stage ≠ 0 → u.part.core.cause = 0 ∧ u.part.fab = {} ∧ u.part.slc = {}))

/-- The SMBus target (R814): once S2 has ended and while nothing holds the part in reset, each command answers its value; otherwise the address is not acknowledged. A command beyond 0x08, or the data byte of a write, is never acknowledged. -/
def Obligations.SmbusReads : Prop :=
  ∀ (s : State) (watts : Nat),
    let p := s.part
    let reads : List (Instr × Nat × Nat) :=
      [(.smbusIdentity, 0, 0x72), (.smbusService, 1, p.fg GBL_STATUS_SERVICE + 16 * p.fg GBL_STATUS_STAGE), (.smbusTjMax, 2, p.fg TEL_VL_STATUS_TJ_MAX), (.smbusPower watts, 4, watts % 2 ^ 16),
       (.smbusVddFab, 5, p.vl.vdd % 2 ^ 16), (.smbusActivePoint, 6, p.fg TEL_VL_STATUS_ACTIVE), (.smbusLifeCycle, 7, p.fg LCH_LIFECYCLE_STATE),
       (.smbusFlags, 8, p.fg TEL_VL_STATUS_VOUT_FAULT + (if p.fg GBL_STATUS_SLICES_DOWN = 0 then 0 else 2) + 4 * p.fg LCH_LOOP_STATUS_LOOP_PRESENT + 8 * p.fg LCH_CORE_STATUS_CELL_LOW)]
    let temp := fun n => (BitVec.ofNat 8 (p.fg (SLC_STATUS_TEMP n))).toInt
    let nack := toPart s (p.emit (.completion 32 1 []))
    (2 ≤ p.boot.stage → p.qsDown = false → (∀ x ∈ reads, exec x.1 s = toPart s (p.emit (.value 32 x.2.1 x.2.2))) ∧
      ∃ v : Byte, exec .smbusStackTemperature s = toPart s (p.emit (.value 32 3 v.toNat)) ∧ (∀ n < 8, temp n ≤ v.toInt) ∧ ∃ n < 8, temp n = v.toInt) ∧
    (p.boot.stage < 2 ∨ p.qsDown = true → (∀ x ∈ reads, exec x.1 s = nack) ∧ exec .smbusStackTemperature s = nack) ∧
    exec .smbusOther s = nack

/-- One step (this model's queue of commands, notes/assumptions/2.md): with a command at the front of the queue, the step is that command's effect with the queue's rest, every command has an effect that leaves the queue alone; on an empty queue the part idles, and the queue stays empty. -/
def Obligations.StepRunsTheFrontCommand : Prop :=
  ∀ s : State, (∀ c rest, s.pending = c :: rest → step s = exec c { s with pending := rest }) ∧
    (s.pending = [] → step s = .next { dev := s.dev.idle, pending := [] }) ∧
    ∀ c, ∃ t, exec c s = .next t ∧ t.pending = s.pending

/-- The machine right after reset (R12, R234, R332, R658, R797): no command waits, no byte of the memory stacks is listed, every register reads the value of its Reset column, no stage of bring-up has run, and the part serves nothing; the invariant holds. -/
def Obligations.ResetState : Prop :=
  let s := State.reset
  s.pending = [] ∧ (∀ x, s.dev.byte x = 0) ∧ (∀ k, s.part.reg k = Tab.get 0 k resetRegs) ∧ s.part.boot.stage = 0 ∧ s.part.fg GBL_STATUS_SERVICE = 0 ∧ s.part.time = 0 ∧
    (∀ f, (s.part.frond f).running = false) ∧ s.part.fg TWN_STATUS_ROLE = 0 ∧ (∀ q, (s.part.qp q).exist = false) ∧ (∀ m < 17, s.part.fg (MBX_STATUS_STATE m) = 3) ∧ s.Inv

/-- Every step keeps the memory stacks (R211, R234) in their canonical form: addresses strictly rising, and no listed byte zero, whatever the command and its operands. -/
def Obligations.StepsKeepTheMemoryForm : Prop :=
  ∀ s t : State, s.Inv → step s = .next t → t.Inv
end

