-- ==== Sys2Proof/Laws/State.lean ====
section
/-!
SUPPORT. Sys2Proof/Laws/State.lean: what each update of the part leaves as it was, one lemma per field per update, so that no later proof unfolds a record update.
-/

namespace Sys2Proof.Machine

variable (p : Part) (d : Dev)

/-! ### setReg changes regs alone -/

@[simp] theorem Part.setReg_time (k : Nat) (v : Dword) : (p.setReg k v).time = p.time := rfl
@[simp] theorem Part.setReg_past (k : Nat) (v : Dword) : (p.setReg k v).past = p.past := rfl
@[simp] theorem Part.setReg_free (k : Nat) (v : Dword) : (p.setReg k v).free = p.free := rfl
@[simp] theorem Part.setReg_hold (k : Nat) (v : Dword) : (p.setReg k v).hold = p.hold := rfl
@[simp] theorem Part.setReg_out (k : Nat) (v : Dword) : (p.setReg k v).out = p.out := rfl
@[simp] theorem Part.setReg_rings (k : Nat) (v : Dword) : (p.setReg k v).rings = p.rings := rfl
@[simp] theorem Part.setReg_seqs (k : Nat) (v : Dword) : (p.setReg k v).seqs = p.seqs := rfl
@[simp] theorem Part.setReg_vl (k : Nat) (v : Dword) : (p.setReg k v).vl = p.vl := rfl
@[simp] theorem Part.setReg_perSec (k : Nat) (v : Dword) : (p.setReg k v).perSec = p.perSec := rfl
@[simp] theorem Part.setReg_hedges (k : Nat) (v : Dword) : (p.setReg k v).hedges = p.hedges := rfl
@[simp] theorem Part.setReg_ep (k : Nat) (v : Dword) : (p.setReg k v).ep = p.ep := rfl
@[simp] theorem Part.setReg_fab (k : Nat) (v : Dword) : (p.setReg k v).fab = p.fab := rfl
@[simp] theorem Part.setReg_slc (k : Nat) (v : Dword) : (p.setReg k v).slc = p.slc := rfl
@[simp] theorem Part.setReg_hs (k : Nat) (v : Dword) : (p.setReg k v).hs = p.hs := rfl
@[simp] theorem Part.setReg_tw (k : Nat) (v : Dword) : (p.setReg k v).tw = p.tw := rfl
@[simp] theorem Part.setReg_dbg (k : Nat) (v : Dword) : (p.setReg k v).dbg = p.dbg := rfl
@[simp] theorem Part.setReg_sor (k : Nat) (v : Dword) : (p.setReg k v).sor = p.sor := rfl
@[simp] theorem Part.setReg_loop (k : Nat) (v : Dword) : (p.setReg k v).loop = p.loop := rfl
@[simp] theorem Part.setReg_core (k : Nat) (v : Dword) : (p.setReg k v).core = p.core := rfl
@[simp] theorem Part.setReg_den (k : Nat) (v : Dword) : (p.setReg k v).den = p.den := rfl
@[simp] theorem Part.setReg_boot (k : Nat) (v : Dword) : (p.setReg k v).boot = p.boot := rfl

/-! ### fs changes regs alone -/

@[simp] theorem Part.fs_time (f : Fld) (v : Nat) : (p.fs f v).time = p.time := rfl
@[simp] theorem Part.fs_past (f : Fld) (v : Nat) : (p.fs f v).past = p.past := rfl
@[simp] theorem Part.fs_free (f : Fld) (v : Nat) : (p.fs f v).free = p.free := rfl
@[simp] theorem Part.fs_hold (f : Fld) (v : Nat) : (p.fs f v).hold = p.hold := rfl
@[simp] theorem Part.fs_out (f : Fld) (v : Nat) : (p.fs f v).out = p.out := rfl
@[simp] theorem Part.fs_rings (f : Fld) (v : Nat) : (p.fs f v).rings = p.rings := rfl
@[simp] theorem Part.fs_seqs (f : Fld) (v : Nat) : (p.fs f v).seqs = p.seqs := rfl
@[simp] theorem Part.fs_vl (f : Fld) (v : Nat) : (p.fs f v).vl = p.vl := rfl
@[simp] theorem Part.fs_perSec (f : Fld) (v : Nat) : (p.fs f v).perSec = p.perSec := rfl
@[simp] theorem Part.fs_hedges (f : Fld) (v : Nat) : (p.fs f v).hedges = p.hedges := rfl
@[simp] theorem Part.fs_ep (f : Fld) (v : Nat) : (p.fs f v).ep = p.ep := rfl
@[simp] theorem Part.fs_fab (f : Fld) (v : Nat) : (p.fs f v).fab = p.fab := rfl
@[simp] theorem Part.fs_slc (f : Fld) (v : Nat) : (p.fs f v).slc = p.slc := rfl
@[simp] theorem Part.fs_hs (f : Fld) (v : Nat) : (p.fs f v).hs = p.hs := rfl
@[simp] theorem Part.fs_tw (f : Fld) (v : Nat) : (p.fs f v).tw = p.tw := rfl
@[simp] theorem Part.fs_dbg (f : Fld) (v : Nat) : (p.fs f v).dbg = p.dbg := rfl
@[simp] theorem Part.fs_sor (f : Fld) (v : Nat) : (p.fs f v).sor = p.sor := rfl
@[simp] theorem Part.fs_loop (f : Fld) (v : Nat) : (p.fs f v).loop = p.loop := rfl
@[simp] theorem Part.fs_core (f : Fld) (v : Nat) : (p.fs f v).core = p.core := rfl
@[simp] theorem Part.fs_den (f : Fld) (v : Nat) : (p.fs f v).den = p.den := rfl
@[simp] theorem Part.fs_boot (f : Fld) (v : Nat) : (p.fs f v).boot = p.boot := rfl

/-! ### setFlag changes regs alone -/

@[simp] theorem Part.setFlag_time (f : Fld) (b : Bool) : (p.setFlag f b).time = p.time := rfl
@[simp] theorem Part.setFlag_past (f : Fld) (b : Bool) : (p.setFlag f b).past = p.past := rfl
@[simp] theorem Part.setFlag_free (f : Fld) (b : Bool) : (p.setFlag f b).free = p.free := rfl
@[simp] theorem Part.setFlag_hold (f : Fld) (b : Bool) : (p.setFlag f b).hold = p.hold := rfl
@[simp] theorem Part.setFlag_out (f : Fld) (b : Bool) : (p.setFlag f b).out = p.out := rfl
@[simp] theorem Part.setFlag_rings (f : Fld) (b : Bool) : (p.setFlag f b).rings = p.rings := rfl
@[simp] theorem Part.setFlag_seqs (f : Fld) (b : Bool) : (p.setFlag f b).seqs = p.seqs := rfl
@[simp] theorem Part.setFlag_vl (f : Fld) (b : Bool) : (p.setFlag f b).vl = p.vl := rfl
@[simp] theorem Part.setFlag_perSec (f : Fld) (b : Bool) : (p.setFlag f b).perSec = p.perSec := rfl
@[simp] theorem Part.setFlag_hedges (f : Fld) (b : Bool) : (p.setFlag f b).hedges = p.hedges := rfl
@[simp] theorem Part.setFlag_ep (f : Fld) (b : Bool) : (p.setFlag f b).ep = p.ep := rfl
@[simp] theorem Part.setFlag_fab (f : Fld) (b : Bool) : (p.setFlag f b).fab = p.fab := rfl
@[simp] theorem Part.setFlag_slc (f : Fld) (b : Bool) : (p.setFlag f b).slc = p.slc := rfl
@[simp] theorem Part.setFlag_hs (f : Fld) (b : Bool) : (p.setFlag f b).hs = p.hs := rfl
@[simp] theorem Part.setFlag_tw (f : Fld) (b : Bool) : (p.setFlag f b).tw = p.tw := rfl
@[simp] theorem Part.setFlag_dbg (f : Fld) (b : Bool) : (p.setFlag f b).dbg = p.dbg := rfl
@[simp] theorem Part.setFlag_sor (f : Fld) (b : Bool) : (p.setFlag f b).sor = p.sor := rfl
@[simp] theorem Part.setFlag_loop (f : Fld) (b : Bool) : (p.setFlag f b).loop = p.loop := rfl
@[simp] theorem Part.setFlag_core (f : Fld) (b : Bool) : (p.setFlag f b).core = p.core := rfl
@[simp] theorem Part.setFlag_den (f : Fld) (b : Bool) : (p.setFlag f b).den = p.den := rfl
@[simp] theorem Part.setFlag_boot (f : Fld) (b : Bool) : (p.setFlag f b).boot = p.boot := rfl

/-! ### clrS changes regs alone -/

@[simp] theorem Part.clrS_time (k : Nat) : (p.clrS k).time = p.time := rfl
@[simp] theorem Part.clrS_past (k : Nat) : (p.clrS k).past = p.past := rfl
@[simp] theorem Part.clrS_free (k : Nat) : (p.clrS k).free = p.free := rfl
@[simp] theorem Part.clrS_hold (k : Nat) : (p.clrS k).hold = p.hold := rfl
@[simp] theorem Part.clrS_out (k : Nat) : (p.clrS k).out = p.out := rfl
@[simp] theorem Part.clrS_rings (k : Nat) : (p.clrS k).rings = p.rings := rfl
@[simp] theorem Part.clrS_seqs (k : Nat) : (p.clrS k).seqs = p.seqs := rfl
@[simp] theorem Part.clrS_vl (k : Nat) : (p.clrS k).vl = p.vl := rfl
@[simp] theorem Part.clrS_perSec (k : Nat) : (p.clrS k).perSec = p.perSec := rfl
@[simp] theorem Part.clrS_hedges (k : Nat) : (p.clrS k).hedges = p.hedges := rfl
@[simp] theorem Part.clrS_ep (k : Nat) : (p.clrS k).ep = p.ep := rfl
@[simp] theorem Part.clrS_fab (k : Nat) : (p.clrS k).fab = p.fab := rfl
@[simp] theorem Part.clrS_slc (k : Nat) : (p.clrS k).slc = p.slc := rfl
@[simp] theorem Part.clrS_hs (k : Nat) : (p.clrS k).hs = p.hs := rfl
@[simp] theorem Part.clrS_tw (k : Nat) : (p.clrS k).tw = p.tw := rfl
@[simp] theorem Part.clrS_dbg (k : Nat) : (p.clrS k).dbg = p.dbg := rfl
@[simp] theorem Part.clrS_sor (k : Nat) : (p.clrS k).sor = p.sor := rfl
@[simp] theorem Part.clrS_loop (k : Nat) : (p.clrS k).loop = p.loop := rfl
@[simp] theorem Part.clrS_core (k : Nat) : (p.clrS k).core = p.core := rfl
@[simp] theorem Part.clrS_den (k : Nat) : (p.clrS k).den = p.den := rfl
@[simp] theorem Part.clrS_boot (k : Nat) : (p.clrS k).boot = p.boot := rfl

/-! ### addW changes regs alone -/

@[simp] theorem Part.addW_time (f : Fld) (n : Nat) : (p.addW f n).time = p.time := rfl
@[simp] theorem Part.addW_past (f : Fld) (n : Nat) : (p.addW f n).past = p.past := rfl
@[simp] theorem Part.addW_free (f : Fld) (n : Nat) : (p.addW f n).free = p.free := rfl
@[simp] theorem Part.addW_hold (f : Fld) (n : Nat) : (p.addW f n).hold = p.hold := rfl
@[simp] theorem Part.addW_out (f : Fld) (n : Nat) : (p.addW f n).out = p.out := rfl
@[simp] theorem Part.addW_rings (f : Fld) (n : Nat) : (p.addW f n).rings = p.rings := rfl
@[simp] theorem Part.addW_seqs (f : Fld) (n : Nat) : (p.addW f n).seqs = p.seqs := rfl
@[simp] theorem Part.addW_vl (f : Fld) (n : Nat) : (p.addW f n).vl = p.vl := rfl
@[simp] theorem Part.addW_perSec (f : Fld) (n : Nat) : (p.addW f n).perSec = p.perSec := rfl
@[simp] theorem Part.addW_hedges (f : Fld) (n : Nat) : (p.addW f n).hedges = p.hedges := rfl
@[simp] theorem Part.addW_ep (f : Fld) (n : Nat) : (p.addW f n).ep = p.ep := rfl
@[simp] theorem Part.addW_fab (f : Fld) (n : Nat) : (p.addW f n).fab = p.fab := rfl
@[simp] theorem Part.addW_slc (f : Fld) (n : Nat) : (p.addW f n).slc = p.slc := rfl
@[simp] theorem Part.addW_hs (f : Fld) (n : Nat) : (p.addW f n).hs = p.hs := rfl
@[simp] theorem Part.addW_tw (f : Fld) (n : Nat) : (p.addW f n).tw = p.tw := rfl
@[simp] theorem Part.addW_dbg (f : Fld) (n : Nat) : (p.addW f n).dbg = p.dbg := rfl
@[simp] theorem Part.addW_sor (f : Fld) (n : Nat) : (p.addW f n).sor = p.sor := rfl
@[simp] theorem Part.addW_loop (f : Fld) (n : Nat) : (p.addW f n).loop = p.loop := rfl
@[simp] theorem Part.addW_core (f : Fld) (n : Nat) : (p.addW f n).core = p.core := rfl
@[simp] theorem Part.addW_den (f : Fld) (n : Nat) : (p.addW f n).den = p.den := rfl
@[simp] theorem Part.addW_boot (f : Fld) (n : Nat) : (p.addW f n).boot = p.boot := rfl

/-! ### emit changes out alone -/

@[simp] theorem Part.emit_time (o : Out) : (p.emit o).time = p.time := rfl
@[simp] theorem Part.emit_past (o : Out) : (p.emit o).past = p.past := rfl
@[simp] theorem Part.emit_free (o : Out) : (p.emit o).free = p.free := rfl
@[simp] theorem Part.emit_regs (o : Out) : (p.emit o).regs = p.regs := rfl
@[simp] theorem Part.emit_hold (o : Out) : (p.emit o).hold = p.hold := rfl
@[simp] theorem Part.emit_rings (o : Out) : (p.emit o).rings = p.rings := rfl
@[simp] theorem Part.emit_seqs (o : Out) : (p.emit o).seqs = p.seqs := rfl
@[simp] theorem Part.emit_vl (o : Out) : (p.emit o).vl = p.vl := rfl
@[simp] theorem Part.emit_perSec (o : Out) : (p.emit o).perSec = p.perSec := rfl
@[simp] theorem Part.emit_hedges (o : Out) : (p.emit o).hedges = p.hedges := rfl
@[simp] theorem Part.emit_ep (o : Out) : (p.emit o).ep = p.ep := rfl
@[simp] theorem Part.emit_fab (o : Out) : (p.emit o).fab = p.fab := rfl
@[simp] theorem Part.emit_slc (o : Out) : (p.emit o).slc = p.slc := rfl
@[simp] theorem Part.emit_hs (o : Out) : (p.emit o).hs = p.hs := rfl
@[simp] theorem Part.emit_tw (o : Out) : (p.emit o).tw = p.tw := rfl
@[simp] theorem Part.emit_dbg (o : Out) : (p.emit o).dbg = p.dbg := rfl
@[simp] theorem Part.emit_sor (o : Out) : (p.emit o).sor = p.sor := rfl
@[simp] theorem Part.emit_loop (o : Out) : (p.emit o).loop = p.loop := rfl
@[simp] theorem Part.emit_core (o : Out) : (p.emit o).core = p.core := rfl
@[simp] theorem Part.emit_den (o : Out) : (p.emit o).den = p.den := rfl
@[simp] theorem Part.emit_boot (o : Out) : (p.emit o).boot = p.boot := rfl

/-! ### setTime changes time alone; at is setTime within one second -/

@[simp] theorem Part.setTime_past (t : Nat) : (p.setTime t).past = p.past := rfl
@[simp] theorem Part.setTime_free (t : Nat) : (p.setTime t).free = p.free := rfl
@[simp] theorem Part.setTime_regs (t : Nat) : (p.setTime t).regs = p.regs := rfl
@[simp] theorem Part.setTime_hold (t : Nat) : (p.setTime t).hold = p.hold := rfl
@[simp] theorem Part.setTime_out (t : Nat) : (p.setTime t).out = p.out := rfl
@[simp] theorem Part.setTime_rings (t : Nat) : (p.setTime t).rings = p.rings := rfl
@[simp] theorem Part.setTime_seqs (t : Nat) : (p.setTime t).seqs = p.seqs := rfl
@[simp] theorem Part.setTime_vl (t : Nat) : (p.setTime t).vl = p.vl := rfl
@[simp] theorem Part.setTime_perSec (t : Nat) : (p.setTime t).perSec = p.perSec := rfl
@[simp] theorem Part.setTime_hedges (t : Nat) : (p.setTime t).hedges = p.hedges := rfl
@[simp] theorem Part.setTime_ep (t : Nat) : (p.setTime t).ep = p.ep := rfl
@[simp] theorem Part.setTime_fab (t : Nat) : (p.setTime t).fab = p.fab := rfl
@[simp] theorem Part.setTime_slc (t : Nat) : (p.setTime t).slc = p.slc := rfl
@[simp] theorem Part.setTime_hs (t : Nat) : (p.setTime t).hs = p.hs := rfl
@[simp] theorem Part.setTime_tw (t : Nat) : (p.setTime t).tw = p.tw := rfl
@[simp] theorem Part.setTime_dbg (t : Nat) : (p.setTime t).dbg = p.dbg := rfl
@[simp] theorem Part.setTime_sor (t : Nat) : (p.setTime t).sor = p.sor := rfl
@[simp] theorem Part.setTime_loop (t : Nat) : (p.setTime t).loop = p.loop := rfl
@[simp] theorem Part.setTime_core (t : Nat) : (p.setTime t).core = p.core := rfl
@[simp] theorem Part.setTime_den (t : Nat) : (p.setTime t).den = p.den := rfl
@[simp] theorem Part.setTime_boot (t : Nat) : (p.setTime t).boot = p.boot := rfl

/-- Within one second, and while the Quickset die is in reset, nothing but device time moves (R389). -/
theorem Part.at_eq_setTime (t : Nat) (h : p.boot.stage = 0 ∨ (p.setTime t).time / secondNs = p.time / secondNs) : p.at t = p.setTime t := by
  unfold Part.at
  rcases h with h | h
  · simp [h]
  · simp [h, Part.ticks]

/-! ### updHedge changes hedges alone -/

@[simp] theorem Part.updHedge_time (h : Nat) (g : Hedge → Hedge) : (p.updHedge h g).time = p.time := rfl
@[simp] theorem Part.updHedge_past (h : Nat) (g : Hedge → Hedge) : (p.updHedge h g).past = p.past := rfl
@[simp] theorem Part.updHedge_free (h : Nat) (g : Hedge → Hedge) : (p.updHedge h g).free = p.free := rfl
@[simp] theorem Part.updHedge_regs (h : Nat) (g : Hedge → Hedge) : (p.updHedge h g).regs = p.regs := rfl
@[simp] theorem Part.updHedge_hold (h : Nat) (g : Hedge → Hedge) : (p.updHedge h g).hold = p.hold := rfl
@[simp] theorem Part.updHedge_out (h : Nat) (g : Hedge → Hedge) : (p.updHedge h g).out = p.out := rfl
@[simp] theorem Part.updHedge_rings (h : Nat) (g : Hedge → Hedge) : (p.updHedge h g).rings = p.rings := rfl
@[simp] theorem Part.updHedge_seqs (h : Nat) (g : Hedge → Hedge) : (p.updHedge h g).seqs = p.seqs := rfl
@[simp] theorem Part.updHedge_vl (h : Nat) (g : Hedge → Hedge) : (p.updHedge h g).vl = p.vl := rfl
@[simp] theorem Part.updHedge_perSec (h : Nat) (g : Hedge → Hedge) : (p.updHedge h g).perSec = p.perSec := rfl
@[simp] theorem Part.updHedge_ep (h : Nat) (g : Hedge → Hedge) : (p.updHedge h g).ep = p.ep := rfl
@[simp] theorem Part.updHedge_fab (h : Nat) (g : Hedge → Hedge) : (p.updHedge h g).fab = p.fab := rfl
@[simp] theorem Part.updHedge_slc (h : Nat) (g : Hedge → Hedge) : (p.updHedge h g).slc = p.slc := rfl
@[simp] theorem Part.updHedge_hs (h : Nat) (g : Hedge → Hedge) : (p.updHedge h g).hs = p.hs := rfl
@[simp] theorem Part.updHedge_tw (h : Nat) (g : Hedge → Hedge) : (p.updHedge h g).tw = p.tw := rfl
@[simp] theorem Part.updHedge_dbg (h : Nat) (g : Hedge → Hedge) : (p.updHedge h g).dbg = p.dbg := rfl
@[simp] theorem Part.updHedge_sor (h : Nat) (g : Hedge → Hedge) : (p.updHedge h g).sor = p.sor := rfl
@[simp] theorem Part.updHedge_loop (h : Nat) (g : Hedge → Hedge) : (p.updHedge h g).loop = p.loop := rfl
@[simp] theorem Part.updHedge_core (h : Nat) (g : Hedge → Hedge) : (p.updHedge h g).core = p.core := rfl
@[simp] theorem Part.updHedge_den (h : Nat) (g : Hedge → Hedge) : (p.updHedge h g).den = p.den := rfl
@[simp] theorem Part.updHedge_boot (h : Nat) (g : Hedge → Hedge) : (p.updHedge h g).boot = p.boot := rfl

/-! ### updRing changes rings alone -/

@[simp] theorem Part.updRing_time (r : Nat) (g : RingQ → RingQ) : (p.updRing r g).time = p.time := rfl
@[simp] theorem Part.updRing_past (r : Nat) (g : RingQ → RingQ) : (p.updRing r g).past = p.past := rfl
@[simp] theorem Part.updRing_free (r : Nat) (g : RingQ → RingQ) : (p.updRing r g).free = p.free := rfl
@[simp] theorem Part.updRing_regs (r : Nat) (g : RingQ → RingQ) : (p.updRing r g).regs = p.regs := rfl
@[simp] theorem Part.updRing_hold (r : Nat) (g : RingQ → RingQ) : (p.updRing r g).hold = p.hold := rfl
@[simp] theorem Part.updRing_out (r : Nat) (g : RingQ → RingQ) : (p.updRing r g).out = p.out := rfl
@[simp] theorem Part.updRing_seqs (r : Nat) (g : RingQ → RingQ) : (p.updRing r g).seqs = p.seqs := rfl
@[simp] theorem Part.updRing_vl (r : Nat) (g : RingQ → RingQ) : (p.updRing r g).vl = p.vl := rfl
@[simp] theorem Part.updRing_perSec (r : Nat) (g : RingQ → RingQ) : (p.updRing r g).perSec = p.perSec := rfl
@[simp] theorem Part.updRing_hedges (r : Nat) (g : RingQ → RingQ) : (p.updRing r g).hedges = p.hedges := rfl
@[simp] theorem Part.updRing_ep (r : Nat) (g : RingQ → RingQ) : (p.updRing r g).ep = p.ep := rfl
@[simp] theorem Part.updRing_fab (r : Nat) (g : RingQ → RingQ) : (p.updRing r g).fab = p.fab := rfl
@[simp] theorem Part.updRing_slc (r : Nat) (g : RingQ → RingQ) : (p.updRing r g).slc = p.slc := rfl
@[simp] theorem Part.updRing_hs (r : Nat) (g : RingQ → RingQ) : (p.updRing r g).hs = p.hs := rfl
@[simp] theorem Part.updRing_tw (r : Nat) (g : RingQ → RingQ) : (p.updRing r g).tw = p.tw := rfl
@[simp] theorem Part.updRing_dbg (r : Nat) (g : RingQ → RingQ) : (p.updRing r g).dbg = p.dbg := rfl
@[simp] theorem Part.updRing_sor (r : Nat) (g : RingQ → RingQ) : (p.updRing r g).sor = p.sor := rfl
@[simp] theorem Part.updRing_loop (r : Nat) (g : RingQ → RingQ) : (p.updRing r g).loop = p.loop := rfl
@[simp] theorem Part.updRing_core (r : Nat) (g : RingQ → RingQ) : (p.updRing r g).core = p.core := rfl
@[simp] theorem Part.updRing_den (r : Nat) (g : RingQ → RingQ) : (p.updRing r g).den = p.den := rfl
@[simp] theorem Part.updRing_boot (r : Nat) (g : RingQ → RingQ) : (p.updRing r g).boot = p.boot := rfl

/-! ### updFunc changes ep alone -/

@[simp] theorem Part.updFunc_time (f : Nat) (g : Func → Func) : (p.updFunc f g).time = p.time := rfl
@[simp] theorem Part.updFunc_past (f : Nat) (g : Func → Func) : (p.updFunc f g).past = p.past := rfl
@[simp] theorem Part.updFunc_free (f : Nat) (g : Func → Func) : (p.updFunc f g).free = p.free := rfl
@[simp] theorem Part.updFunc_regs (f : Nat) (g : Func → Func) : (p.updFunc f g).regs = p.regs := rfl
@[simp] theorem Part.updFunc_hold (f : Nat) (g : Func → Func) : (p.updFunc f g).hold = p.hold := rfl
@[simp] theorem Part.updFunc_out (f : Nat) (g : Func → Func) : (p.updFunc f g).out = p.out := rfl
@[simp] theorem Part.updFunc_rings (f : Nat) (g : Func → Func) : (p.updFunc f g).rings = p.rings := rfl
@[simp] theorem Part.updFunc_seqs (f : Nat) (g : Func → Func) : (p.updFunc f g).seqs = p.seqs := rfl
@[simp] theorem Part.updFunc_vl (f : Nat) (g : Func → Func) : (p.updFunc f g).vl = p.vl := rfl
@[simp] theorem Part.updFunc_perSec (f : Nat) (g : Func → Func) : (p.updFunc f g).perSec = p.perSec := rfl
@[simp] theorem Part.updFunc_hedges (f : Nat) (g : Func → Func) : (p.updFunc f g).hedges = p.hedges := rfl
@[simp] theorem Part.updFunc_fab (f : Nat) (g : Func → Func) : (p.updFunc f g).fab = p.fab := rfl
@[simp] theorem Part.updFunc_slc (f : Nat) (g : Func → Func) : (p.updFunc f g).slc = p.slc := rfl
@[simp] theorem Part.updFunc_hs (f : Nat) (g : Func → Func) : (p.updFunc f g).hs = p.hs := rfl
@[simp] theorem Part.updFunc_tw (f : Nat) (g : Func → Func) : (p.updFunc f g).tw = p.tw := rfl
@[simp] theorem Part.updFunc_dbg (f : Nat) (g : Func → Func) : (p.updFunc f g).dbg = p.dbg := rfl
@[simp] theorem Part.updFunc_sor (f : Nat) (g : Func → Func) : (p.updFunc f g).sor = p.sor := rfl
@[simp] theorem Part.updFunc_loop (f : Nat) (g : Func → Func) : (p.updFunc f g).loop = p.loop := rfl
@[simp] theorem Part.updFunc_core (f : Nat) (g : Func → Func) : (p.updFunc f g).core = p.core := rfl
@[simp] theorem Part.updFunc_den (f : Nat) (g : Func → Func) : (p.updFunc f g).den = p.den := rfl
@[simp] theorem Part.updFunc_boot (f : Nat) (g : Func → Func) : (p.updFunc f g).boot = p.boot := rfl

/-! ### setFrond changes fab alone -/

@[simp] theorem Part.setFrond_time (f : Nat) (F : Frond) : (p.setFrond f F).time = p.time := rfl
@[simp] theorem Part.setFrond_past (f : Nat) (F : Frond) : (p.setFrond f F).past = p.past := rfl
@[simp] theorem Part.setFrond_free (f : Nat) (F : Frond) : (p.setFrond f F).free = p.free := rfl
@[simp] theorem Part.setFrond_regs (f : Nat) (F : Frond) : (p.setFrond f F).regs = p.regs := rfl
@[simp] theorem Part.setFrond_hold (f : Nat) (F : Frond) : (p.setFrond f F).hold = p.hold := rfl
@[simp] theorem Part.setFrond_out (f : Nat) (F : Frond) : (p.setFrond f F).out = p.out := rfl
@[simp] theorem Part.setFrond_rings (f : Nat) (F : Frond) : (p.setFrond f F).rings = p.rings := rfl
@[simp] theorem Part.setFrond_seqs (f : Nat) (F : Frond) : (p.setFrond f F).seqs = p.seqs := rfl
@[simp] theorem Part.setFrond_vl (f : Nat) (F : Frond) : (p.setFrond f F).vl = p.vl := rfl
@[simp] theorem Part.setFrond_perSec (f : Nat) (F : Frond) : (p.setFrond f F).perSec = p.perSec := rfl
@[simp] theorem Part.setFrond_hedges (f : Nat) (F : Frond) : (p.setFrond f F).hedges = p.hedges := rfl
@[simp] theorem Part.setFrond_ep (f : Nat) (F : Frond) : (p.setFrond f F).ep = p.ep := rfl
@[simp] theorem Part.setFrond_slc (f : Nat) (F : Frond) : (p.setFrond f F).slc = p.slc := rfl
@[simp] theorem Part.setFrond_hs (f : Nat) (F : Frond) : (p.setFrond f F).hs = p.hs := rfl
@[simp] theorem Part.setFrond_tw (f : Nat) (F : Frond) : (p.setFrond f F).tw = p.tw := rfl
@[simp] theorem Part.setFrond_dbg (f : Nat) (F : Frond) : (p.setFrond f F).dbg = p.dbg := rfl
@[simp] theorem Part.setFrond_sor (f : Nat) (F : Frond) : (p.setFrond f F).sor = p.sor := rfl
@[simp] theorem Part.setFrond_loop (f : Nat) (F : Frond) : (p.setFrond f F).loop = p.loop := rfl
@[simp] theorem Part.setFrond_core (f : Nat) (F : Frond) : (p.setFrond f F).core = p.core := rfl
@[simp] theorem Part.setFrond_den (f : Nat) (F : Frond) : (p.setFrond f F).den = p.den := rfl
@[simp] theorem Part.setFrond_boot (f : Nat) (F : Frond) : (p.setFrond f F).boot = p.boot := rfl

/-! ### updFrond changes fab alone -/

@[simp] theorem Part.updFrond_time (f : Nat) (g : Frond → Frond) : (p.updFrond f g).time = p.time := rfl
@[simp] theorem Part.updFrond_past (f : Nat) (g : Frond → Frond) : (p.updFrond f g).past = p.past := rfl
@[simp] theorem Part.updFrond_free (f : Nat) (g : Frond → Frond) : (p.updFrond f g).free = p.free := rfl
@[simp] theorem Part.updFrond_regs (f : Nat) (g : Frond → Frond) : (p.updFrond f g).regs = p.regs := rfl
@[simp] theorem Part.updFrond_hold (f : Nat) (g : Frond → Frond) : (p.updFrond f g).hold = p.hold := rfl
@[simp] theorem Part.updFrond_out (f : Nat) (g : Frond → Frond) : (p.updFrond f g).out = p.out := rfl
@[simp] theorem Part.updFrond_rings (f : Nat) (g : Frond → Frond) : (p.updFrond f g).rings = p.rings := rfl
@[simp] theorem Part.updFrond_seqs (f : Nat) (g : Frond → Frond) : (p.updFrond f g).seqs = p.seqs := rfl
@[simp] theorem Part.updFrond_vl (f : Nat) (g : Frond → Frond) : (p.updFrond f g).vl = p.vl := rfl
@[simp] theorem Part.updFrond_perSec (f : Nat) (g : Frond → Frond) : (p.updFrond f g).perSec = p.perSec := rfl
@[simp] theorem Part.updFrond_hedges (f : Nat) (g : Frond → Frond) : (p.updFrond f g).hedges = p.hedges := rfl
@[simp] theorem Part.updFrond_ep (f : Nat) (g : Frond → Frond) : (p.updFrond f g).ep = p.ep := rfl
@[simp] theorem Part.updFrond_slc (f : Nat) (g : Frond → Frond) : (p.updFrond f g).slc = p.slc := rfl
@[simp] theorem Part.updFrond_hs (f : Nat) (g : Frond → Frond) : (p.updFrond f g).hs = p.hs := rfl
@[simp] theorem Part.updFrond_tw (f : Nat) (g : Frond → Frond) : (p.updFrond f g).tw = p.tw := rfl
@[simp] theorem Part.updFrond_dbg (f : Nat) (g : Frond → Frond) : (p.updFrond f g).dbg = p.dbg := rfl
@[simp] theorem Part.updFrond_sor (f : Nat) (g : Frond → Frond) : (p.updFrond f g).sor = p.sor := rfl
@[simp] theorem Part.updFrond_loop (f : Nat) (g : Frond → Frond) : (p.updFrond f g).loop = p.loop := rfl
@[simp] theorem Part.updFrond_core (f : Nat) (g : Frond → Frond) : (p.updFrond f g).core = p.core := rfl
@[simp] theorem Part.updFrond_den (f : Nat) (g : Frond → Frond) : (p.updFrond f g).den = p.den := rfl
@[simp] theorem Part.updFrond_boot (f : Nat) (g : Frond → Frond) : (p.updFrond f g).boot = p.boot := rfl

/-! ### updStream changes fab alone -/

@[simp] theorem Part.updStream_time (h s : Nat) (g : StreamCr → StreamCr) : (p.updStream h s g).time = p.time := rfl
@[simp] theorem Part.updStream_past (h s : Nat) (g : StreamCr → StreamCr) : (p.updStream h s g).past = p.past := rfl
@[simp] theorem Part.updStream_free (h s : Nat) (g : StreamCr → StreamCr) : (p.updStream h s g).free = p.free := rfl
@[simp] theorem Part.updStream_regs (h s : Nat) (g : StreamCr → StreamCr) : (p.updStream h s g).regs = p.regs := rfl
@[simp] theorem Part.updStream_hold (h s : Nat) (g : StreamCr → StreamCr) : (p.updStream h s g).hold = p.hold := rfl
@[simp] theorem Part.updStream_out (h s : Nat) (g : StreamCr → StreamCr) : (p.updStream h s g).out = p.out := rfl
@[simp] theorem Part.updStream_rings (h s : Nat) (g : StreamCr → StreamCr) : (p.updStream h s g).rings = p.rings := rfl
@[simp] theorem Part.updStream_seqs (h s : Nat) (g : StreamCr → StreamCr) : (p.updStream h s g).seqs = p.seqs := rfl
@[simp] theorem Part.updStream_vl (h s : Nat) (g : StreamCr → StreamCr) : (p.updStream h s g).vl = p.vl := rfl
@[simp] theorem Part.updStream_perSec (h s : Nat) (g : StreamCr → StreamCr) : (p.updStream h s g).perSec = p.perSec := rfl
@[simp] theorem Part.updStream_hedges (h s : Nat) (g : StreamCr → StreamCr) : (p.updStream h s g).hedges = p.hedges := rfl
@[simp] theorem Part.updStream_ep (h s : Nat) (g : StreamCr → StreamCr) : (p.updStream h s g).ep = p.ep := rfl
@[simp] theorem Part.updStream_slc (h s : Nat) (g : StreamCr → StreamCr) : (p.updStream h s g).slc = p.slc := rfl
@[simp] theorem Part.updStream_hs (h s : Nat) (g : StreamCr → StreamCr) : (p.updStream h s g).hs = p.hs := rfl
@[simp] theorem Part.updStream_tw (h s : Nat) (g : StreamCr → StreamCr) : (p.updStream h s g).tw = p.tw := rfl
@[simp] theorem Part.updStream_dbg (h s : Nat) (g : StreamCr → StreamCr) : (p.updStream h s g).dbg = p.dbg := rfl
@[simp] theorem Part.updStream_sor (h s : Nat) (g : StreamCr → StreamCr) : (p.updStream h s g).sor = p.sor := rfl
@[simp] theorem Part.updStream_loop (h s : Nat) (g : StreamCr → StreamCr) : (p.updStream h s g).loop = p.loop := rfl
@[simp] theorem Part.updStream_core (h s : Nat) (g : StreamCr → StreamCr) : (p.updStream h s g).core = p.core := rfl
@[simp] theorem Part.updStream_den (h s : Nat) (g : StreamCr → StreamCr) : (p.updStream h s g).den = p.den := rfl
@[simp] theorem Part.updStream_boot (h s : Nat) (g : StreamCr → StreamCr) : (p.updStream h s g).boot = p.boot := rfl

/-! ### A token of a hedge that is not stalled, and a profile that does not run -/

/-- A token that moves ends a stall, and does nothing where there is none (R130). -/
theorem Part.progress_of_not_stalled {h : Nat} (hs : p.flag (FAB_STALL_STALLED h) = false) : p.progress h = p := by
  simp [Part.progress, hs]

/-- A token that enters a place changes nothing but the tokens in flight where its hedge is not stalled (R130). -/
theorem Part.addFlight_of_not_stalled {e : Flight} (hs : p.flag (FAB_STALL_STALLED e.tok.hedge) = false) :
    p.addFlight e = { p with fab := { p.fab with flight := p.fab.flight ++ [e] } } := by
  rw [Part.addFlight]
  exact Part.progress_of_not_stalled _ hs

/-- A part that profiles nothing counts nothing (R543). -/
theorem Part.profile_of_none (h : p.dbg.profile = none) (b : Nat) (g : Profile → Profile) : p.profile b g = p := by
  simp [Part.profile, h]

/-! ### addReturn changes fab alone -/

@[simp] theorem Part.addReturn_time (h s d : Nat) : (p.addReturn h s d).time = p.time := rfl
@[simp] theorem Part.addReturn_past (h s d : Nat) : (p.addReturn h s d).past = p.past := rfl
@[simp] theorem Part.addReturn_free (h s d : Nat) : (p.addReturn h s d).free = p.free := rfl
@[simp] theorem Part.addReturn_regs (h s d : Nat) : (p.addReturn h s d).regs = p.regs := rfl
@[simp] theorem Part.addReturn_hold (h s d : Nat) : (p.addReturn h s d).hold = p.hold := rfl
@[simp] theorem Part.addReturn_out (h s d : Nat) : (p.addReturn h s d).out = p.out := rfl
@[simp] theorem Part.addReturn_rings (h s d : Nat) : (p.addReturn h s d).rings = p.rings := rfl
@[simp] theorem Part.addReturn_seqs (h s d : Nat) : (p.addReturn h s d).seqs = p.seqs := rfl
@[simp] theorem Part.addReturn_vl (h s d : Nat) : (p.addReturn h s d).vl = p.vl := rfl
@[simp] theorem Part.addReturn_perSec (h s d : Nat) : (p.addReturn h s d).perSec = p.perSec := rfl
@[simp] theorem Part.addReturn_hedges (h s d : Nat) : (p.addReturn h s d).hedges = p.hedges := rfl
@[simp] theorem Part.addReturn_ep (h s d : Nat) : (p.addReturn h s d).ep = p.ep := rfl
@[simp] theorem Part.addReturn_slc (h s d : Nat) : (p.addReturn h s d).slc = p.slc := rfl
@[simp] theorem Part.addReturn_hs (h s d : Nat) : (p.addReturn h s d).hs = p.hs := rfl
@[simp] theorem Part.addReturn_tw (h s d : Nat) : (p.addReturn h s d).tw = p.tw := rfl
@[simp] theorem Part.addReturn_dbg (h s d : Nat) : (p.addReturn h s d).dbg = p.dbg := rfl
@[simp] theorem Part.addReturn_sor (h s d : Nat) : (p.addReturn h s d).sor = p.sor := rfl
@[simp] theorem Part.addReturn_loop (h s d : Nat) : (p.addReturn h s d).loop = p.loop := rfl
@[simp] theorem Part.addReturn_core (h s d : Nat) : (p.addReturn h s d).core = p.core := rfl
@[simp] theorem Part.addReturn_den (h s d : Nat) : (p.addReturn h s d).den = p.den := rfl
@[simp] theorem Part.addReturn_boot (h s d : Nat) : (p.addReturn h s d).boot = p.boot := rfl

/-! ### setGwBuf changes fab alone -/

@[simp] theorem Part.setGwBuf_time (k : Nat) (g : GwBuf) : (p.setGwBuf k g).time = p.time := rfl
@[simp] theorem Part.setGwBuf_past (k : Nat) (g : GwBuf) : (p.setGwBuf k g).past = p.past := rfl
@[simp] theorem Part.setGwBuf_free (k : Nat) (g : GwBuf) : (p.setGwBuf k g).free = p.free := rfl
@[simp] theorem Part.setGwBuf_regs (k : Nat) (g : GwBuf) : (p.setGwBuf k g).regs = p.regs := rfl
@[simp] theorem Part.setGwBuf_hold (k : Nat) (g : GwBuf) : (p.setGwBuf k g).hold = p.hold := rfl
@[simp] theorem Part.setGwBuf_out (k : Nat) (g : GwBuf) : (p.setGwBuf k g).out = p.out := rfl
@[simp] theorem Part.setGwBuf_rings (k : Nat) (g : GwBuf) : (p.setGwBuf k g).rings = p.rings := rfl
@[simp] theorem Part.setGwBuf_seqs (k : Nat) (g : GwBuf) : (p.setGwBuf k g).seqs = p.seqs := rfl
@[simp] theorem Part.setGwBuf_vl (k : Nat) (g : GwBuf) : (p.setGwBuf k g).vl = p.vl := rfl
@[simp] theorem Part.setGwBuf_perSec (k : Nat) (g : GwBuf) : (p.setGwBuf k g).perSec = p.perSec := rfl
@[simp] theorem Part.setGwBuf_hedges (k : Nat) (g : GwBuf) : (p.setGwBuf k g).hedges = p.hedges := rfl
@[simp] theorem Part.setGwBuf_ep (k : Nat) (g : GwBuf) : (p.setGwBuf k g).ep = p.ep := rfl
@[simp] theorem Part.setGwBuf_slc (k : Nat) (g : GwBuf) : (p.setGwBuf k g).slc = p.slc := rfl
@[simp] theorem Part.setGwBuf_hs (k : Nat) (g : GwBuf) : (p.setGwBuf k g).hs = p.hs := rfl
@[simp] theorem Part.setGwBuf_tw (k : Nat) (g : GwBuf) : (p.setGwBuf k g).tw = p.tw := rfl
@[simp] theorem Part.setGwBuf_dbg (k : Nat) (g : GwBuf) : (p.setGwBuf k g).dbg = p.dbg := rfl
@[simp] theorem Part.setGwBuf_sor (k : Nat) (g : GwBuf) : (p.setGwBuf k g).sor = p.sor := rfl
@[simp] theorem Part.setGwBuf_loop (k : Nat) (g : GwBuf) : (p.setGwBuf k g).loop = p.loop := rfl
@[simp] theorem Part.setGwBuf_core (k : Nat) (g : GwBuf) : (p.setGwBuf k g).core = p.core := rfl
@[simp] theorem Part.setGwBuf_den (k : Nat) (g : GwBuf) : (p.setGwBuf k g).den = p.den := rfl
@[simp] theorem Part.setGwBuf_boot (k : Nat) (g : GwBuf) : (p.setGwBuf k g).boot = p.boot := rfl

/-! ### setWindow changes slc alone -/

@[simp] theorem Part.setWindow_time (f : Nat) (w : Window) : (p.setWindow f w).time = p.time := rfl
@[simp] theorem Part.setWindow_past (f : Nat) (w : Window) : (p.setWindow f w).past = p.past := rfl
@[simp] theorem Part.setWindow_free (f : Nat) (w : Window) : (p.setWindow f w).free = p.free := rfl
@[simp] theorem Part.setWindow_regs (f : Nat) (w : Window) : (p.setWindow f w).regs = p.regs := rfl
@[simp] theorem Part.setWindow_hold (f : Nat) (w : Window) : (p.setWindow f w).hold = p.hold := rfl
@[simp] theorem Part.setWindow_out (f : Nat) (w : Window) : (p.setWindow f w).out = p.out := rfl
@[simp] theorem Part.setWindow_rings (f : Nat) (w : Window) : (p.setWindow f w).rings = p.rings := rfl
@[simp] theorem Part.setWindow_seqs (f : Nat) (w : Window) : (p.setWindow f w).seqs = p.seqs := rfl
@[simp] theorem Part.setWindow_vl (f : Nat) (w : Window) : (p.setWindow f w).vl = p.vl := rfl
@[simp] theorem Part.setWindow_perSec (f : Nat) (w : Window) : (p.setWindow f w).perSec = p.perSec := rfl
@[simp] theorem Part.setWindow_hedges (f : Nat) (w : Window) : (p.setWindow f w).hedges = p.hedges := rfl
@[simp] theorem Part.setWindow_ep (f : Nat) (w : Window) : (p.setWindow f w).ep = p.ep := rfl
@[simp] theorem Part.setWindow_fab (f : Nat) (w : Window) : (p.setWindow f w).fab = p.fab := rfl
@[simp] theorem Part.setWindow_hs (f : Nat) (w : Window) : (p.setWindow f w).hs = p.hs := rfl
@[simp] theorem Part.setWindow_tw (f : Nat) (w : Window) : (p.setWindow f w).tw = p.tw := rfl
@[simp] theorem Part.setWindow_dbg (f : Nat) (w : Window) : (p.setWindow f w).dbg = p.dbg := rfl
@[simp] theorem Part.setWindow_sor (f : Nat) (w : Window) : (p.setWindow f w).sor = p.sor := rfl
@[simp] theorem Part.setWindow_loop (f : Nat) (w : Window) : (p.setWindow f w).loop = p.loop := rfl
@[simp] theorem Part.setWindow_core (f : Nat) (w : Window) : (p.setWindow f w).core = p.core := rfl
@[simp] theorem Part.setWindow_den (f : Nat) (w : Window) : (p.setWindow f w).den = p.den := rfl
@[simp] theorem Part.setWindow_boot (f : Nat) (w : Window) : (p.setWindow f w).boot = p.boot := rfl

/-! ### setSched changes slc alone -/

@[simp] theorem Part.setSched_time (n h : Nat) (s : Sched) : (p.setSched n h s).time = p.time := rfl
@[simp] theorem Part.setSched_past (n h : Nat) (s : Sched) : (p.setSched n h s).past = p.past := rfl
@[simp] theorem Part.setSched_free (n h : Nat) (s : Sched) : (p.setSched n h s).free = p.free := rfl
@[simp] theorem Part.setSched_regs (n h : Nat) (s : Sched) : (p.setSched n h s).regs = p.regs := rfl
@[simp] theorem Part.setSched_hold (n h : Nat) (s : Sched) : (p.setSched n h s).hold = p.hold := rfl
@[simp] theorem Part.setSched_out (n h : Nat) (s : Sched) : (p.setSched n h s).out = p.out := rfl
@[simp] theorem Part.setSched_rings (n h : Nat) (s : Sched) : (p.setSched n h s).rings = p.rings := rfl
@[simp] theorem Part.setSched_seqs (n h : Nat) (s : Sched) : (p.setSched n h s).seqs = p.seqs := rfl
@[simp] theorem Part.setSched_vl (n h : Nat) (s : Sched) : (p.setSched n h s).vl = p.vl := rfl
@[simp] theorem Part.setSched_perSec (n h : Nat) (s : Sched) : (p.setSched n h s).perSec = p.perSec := rfl
@[simp] theorem Part.setSched_hedges (n h : Nat) (s : Sched) : (p.setSched n h s).hedges = p.hedges := rfl
@[simp] theorem Part.setSched_ep (n h : Nat) (s : Sched) : (p.setSched n h s).ep = p.ep := rfl
@[simp] theorem Part.setSched_fab (n h : Nat) (s : Sched) : (p.setSched n h s).fab = p.fab := rfl
@[simp] theorem Part.setSched_hs (n h : Nat) (s : Sched) : (p.setSched n h s).hs = p.hs := rfl
@[simp] theorem Part.setSched_tw (n h : Nat) (s : Sched) : (p.setSched n h s).tw = p.tw := rfl
@[simp] theorem Part.setSched_dbg (n h : Nat) (s : Sched) : (p.setSched n h s).dbg = p.dbg := rfl
@[simp] theorem Part.setSched_sor (n h : Nat) (s : Sched) : (p.setSched n h s).sor = p.sor := rfl
@[simp] theorem Part.setSched_loop (n h : Nat) (s : Sched) : (p.setSched n h s).loop = p.loop := rfl
@[simp] theorem Part.setSched_core (n h : Nat) (s : Sched) : (p.setSched n h s).core = p.core := rfl
@[simp] theorem Part.setSched_den (n h : Nat) (s : Sched) : (p.setSched n h s).den = p.den := rfl
@[simp] theorem Part.setSched_boot (n h : Nat) (s : Sched) : (p.setSched n h s).boot = p.boot := rfl

/-! ### setGran changes slc alone -/

@[simp] theorem Part.setGran_time (g v : Nat) : (p.setGran g v).time = p.time := rfl
@[simp] theorem Part.setGran_past (g v : Nat) : (p.setGran g v).past = p.past := rfl
@[simp] theorem Part.setGran_free (g v : Nat) : (p.setGran g v).free = p.free := rfl
@[simp] theorem Part.setGran_regs (g v : Nat) : (p.setGran g v).regs = p.regs := rfl
@[simp] theorem Part.setGran_hold (g v : Nat) : (p.setGran g v).hold = p.hold := rfl
@[simp] theorem Part.setGran_out (g v : Nat) : (p.setGran g v).out = p.out := rfl
@[simp] theorem Part.setGran_rings (g v : Nat) : (p.setGran g v).rings = p.rings := rfl
@[simp] theorem Part.setGran_seqs (g v : Nat) : (p.setGran g v).seqs = p.seqs := rfl
@[simp] theorem Part.setGran_vl (g v : Nat) : (p.setGran g v).vl = p.vl := rfl
@[simp] theorem Part.setGran_perSec (g v : Nat) : (p.setGran g v).perSec = p.perSec := rfl
@[simp] theorem Part.setGran_hedges (g v : Nat) : (p.setGran g v).hedges = p.hedges := rfl
@[simp] theorem Part.setGran_ep (g v : Nat) : (p.setGran g v).ep = p.ep := rfl
@[simp] theorem Part.setGran_fab (g v : Nat) : (p.setGran g v).fab = p.fab := rfl
@[simp] theorem Part.setGran_hs (g v : Nat) : (p.setGran g v).hs = p.hs := rfl
@[simp] theorem Part.setGran_tw (g v : Nat) : (p.setGran g v).tw = p.tw := rfl
@[simp] theorem Part.setGran_dbg (g v : Nat) : (p.setGran g v).dbg = p.dbg := rfl
@[simp] theorem Part.setGran_sor (g v : Nat) : (p.setGran g v).sor = p.sor := rfl
@[simp] theorem Part.setGran_loop (g v : Nat) : (p.setGran g v).loop = p.loop := rfl
@[simp] theorem Part.setGran_core (g v : Nat) : (p.setGran g v).core = p.core := rfl
@[simp] theorem Part.setGran_den (g v : Nat) : (p.setGran g v).den = p.den := rfl
@[simp] theorem Part.setGran_boot (g v : Nat) : (p.setGran g v).boot = p.boot := rfl

/-! ### setSreq changes slc alone -/

@[simp] theorem Part.setSreq_time (k : Nat) (r : Option SReq) : (p.setSreq k r).time = p.time := rfl
@[simp] theorem Part.setSreq_past (k : Nat) (r : Option SReq) : (p.setSreq k r).past = p.past := rfl
@[simp] theorem Part.setSreq_free (k : Nat) (r : Option SReq) : (p.setSreq k r).free = p.free := rfl
@[simp] theorem Part.setSreq_regs (k : Nat) (r : Option SReq) : (p.setSreq k r).regs = p.regs := rfl
@[simp] theorem Part.setSreq_hold (k : Nat) (r : Option SReq) : (p.setSreq k r).hold = p.hold := rfl
@[simp] theorem Part.setSreq_out (k : Nat) (r : Option SReq) : (p.setSreq k r).out = p.out := rfl
@[simp] theorem Part.setSreq_rings (k : Nat) (r : Option SReq) : (p.setSreq k r).rings = p.rings := rfl
@[simp] theorem Part.setSreq_seqs (k : Nat) (r : Option SReq) : (p.setSreq k r).seqs = p.seqs := rfl
@[simp] theorem Part.setSreq_vl (k : Nat) (r : Option SReq) : (p.setSreq k r).vl = p.vl := rfl
@[simp] theorem Part.setSreq_perSec (k : Nat) (r : Option SReq) : (p.setSreq k r).perSec = p.perSec := rfl
@[simp] theorem Part.setSreq_hedges (k : Nat) (r : Option SReq) : (p.setSreq k r).hedges = p.hedges := rfl
@[simp] theorem Part.setSreq_ep (k : Nat) (r : Option SReq) : (p.setSreq k r).ep = p.ep := rfl
@[simp] theorem Part.setSreq_fab (k : Nat) (r : Option SReq) : (p.setSreq k r).fab = p.fab := rfl
@[simp] theorem Part.setSreq_hs (k : Nat) (r : Option SReq) : (p.setSreq k r).hs = p.hs := rfl
@[simp] theorem Part.setSreq_tw (k : Nat) (r : Option SReq) : (p.setSreq k r).tw = p.tw := rfl
@[simp] theorem Part.setSreq_dbg (k : Nat) (r : Option SReq) : (p.setSreq k r).dbg = p.dbg := rfl
@[simp] theorem Part.setSreq_sor (k : Nat) (r : Option SReq) : (p.setSreq k r).sor = p.sor := rfl
@[simp] theorem Part.setSreq_loop (k : Nat) (r : Option SReq) : (p.setSreq k r).loop = p.loop := rfl
@[simp] theorem Part.setSreq_core (k : Nat) (r : Option SReq) : (p.setSreq k r).core = p.core := rfl
@[simp] theorem Part.setSreq_den (k : Nat) (r : Option SReq) : (p.setSreq k r).den = p.den := rfl
@[simp] theorem Part.setSreq_boot (k : Nat) (r : Option SReq) : (p.setSreq k r).boot = p.boot := rfl

/-! ### updAtu changes hs alone -/

@[simp] theorem Part.updAtu_time (g : Atu → Atu) : (p.updAtu g).time = p.time := rfl
@[simp] theorem Part.updAtu_past (g : Atu → Atu) : (p.updAtu g).past = p.past := rfl
@[simp] theorem Part.updAtu_free (g : Atu → Atu) : (p.updAtu g).free = p.free := rfl
@[simp] theorem Part.updAtu_regs (g : Atu → Atu) : (p.updAtu g).regs = p.regs := rfl
@[simp] theorem Part.updAtu_hold (g : Atu → Atu) : (p.updAtu g).hold = p.hold := rfl
@[simp] theorem Part.updAtu_out (g : Atu → Atu) : (p.updAtu g).out = p.out := rfl
@[simp] theorem Part.updAtu_rings (g : Atu → Atu) : (p.updAtu g).rings = p.rings := rfl
@[simp] theorem Part.updAtu_seqs (g : Atu → Atu) : (p.updAtu g).seqs = p.seqs := rfl
@[simp] theorem Part.updAtu_vl (g : Atu → Atu) : (p.updAtu g).vl = p.vl := rfl
@[simp] theorem Part.updAtu_perSec (g : Atu → Atu) : (p.updAtu g).perSec = p.perSec := rfl
@[simp] theorem Part.updAtu_hedges (g : Atu → Atu) : (p.updAtu g).hedges = p.hedges := rfl
@[simp] theorem Part.updAtu_ep (g : Atu → Atu) : (p.updAtu g).ep = p.ep := rfl
@[simp] theorem Part.updAtu_fab (g : Atu → Atu) : (p.updAtu g).fab = p.fab := rfl
@[simp] theorem Part.updAtu_slc (g : Atu → Atu) : (p.updAtu g).slc = p.slc := rfl
@[simp] theorem Part.updAtu_tw (g : Atu → Atu) : (p.updAtu g).tw = p.tw := rfl
@[simp] theorem Part.updAtu_dbg (g : Atu → Atu) : (p.updAtu g).dbg = p.dbg := rfl
@[simp] theorem Part.updAtu_sor (g : Atu → Atu) : (p.updAtu g).sor = p.sor := rfl
@[simp] theorem Part.updAtu_loop (g : Atu → Atu) : (p.updAtu g).loop = p.loop := rfl
@[simp] theorem Part.updAtu_core (g : Atu → Atu) : (p.updAtu g).core = p.core := rfl
@[simp] theorem Part.updAtu_den (g : Atu → Atu) : (p.updAtu g).den = p.den := rfl
@[simp] theorem Part.updAtu_boot (g : Atu → Atu) : (p.updAtu g).boot = p.boot := rfl

/-! ### updBr changes hs alone -/

@[simp] theorem Part.updBr_time (g : Bridges → Bridges) : (p.updBr g).time = p.time := rfl
@[simp] theorem Part.updBr_past (g : Bridges → Bridges) : (p.updBr g).past = p.past := rfl
@[simp] theorem Part.updBr_free (g : Bridges → Bridges) : (p.updBr g).free = p.free := rfl
@[simp] theorem Part.updBr_regs (g : Bridges → Bridges) : (p.updBr g).regs = p.regs := rfl
@[simp] theorem Part.updBr_hold (g : Bridges → Bridges) : (p.updBr g).hold = p.hold := rfl
@[simp] theorem Part.updBr_out (g : Bridges → Bridges) : (p.updBr g).out = p.out := rfl
@[simp] theorem Part.updBr_rings (g : Bridges → Bridges) : (p.updBr g).rings = p.rings := rfl
@[simp] theorem Part.updBr_seqs (g : Bridges → Bridges) : (p.updBr g).seqs = p.seqs := rfl
@[simp] theorem Part.updBr_vl (g : Bridges → Bridges) : (p.updBr g).vl = p.vl := rfl
@[simp] theorem Part.updBr_perSec (g : Bridges → Bridges) : (p.updBr g).perSec = p.perSec := rfl
@[simp] theorem Part.updBr_hedges (g : Bridges → Bridges) : (p.updBr g).hedges = p.hedges := rfl
@[simp] theorem Part.updBr_ep (g : Bridges → Bridges) : (p.updBr g).ep = p.ep := rfl
@[simp] theorem Part.updBr_fab (g : Bridges → Bridges) : (p.updBr g).fab = p.fab := rfl
@[simp] theorem Part.updBr_slc (g : Bridges → Bridges) : (p.updBr g).slc = p.slc := rfl
@[simp] theorem Part.updBr_tw (g : Bridges → Bridges) : (p.updBr g).tw = p.tw := rfl
@[simp] theorem Part.updBr_dbg (g : Bridges → Bridges) : (p.updBr g).dbg = p.dbg := rfl
@[simp] theorem Part.updBr_sor (g : Bridges → Bridges) : (p.updBr g).sor = p.sor := rfl
@[simp] theorem Part.updBr_loop (g : Bridges → Bridges) : (p.updBr g).loop = p.loop := rfl
@[simp] theorem Part.updBr_core (g : Bridges → Bridges) : (p.updBr g).core = p.core := rfl
@[simp] theorem Part.updBr_den (g : Bridges → Bridges) : (p.updBr g).den = p.den := rfl
@[simp] theorem Part.updBr_boot (g : Bridges → Bridges) : (p.updBr g).boot = p.boot := rfl

/-! ### updMbx changes hs alone -/

@[simp] theorem Part.updMbx_time (m : Nat) (g : Mbox → Mbox) : (p.updMbx m g).time = p.time := rfl
@[simp] theorem Part.updMbx_past (m : Nat) (g : Mbox → Mbox) : (p.updMbx m g).past = p.past := rfl
@[simp] theorem Part.updMbx_free (m : Nat) (g : Mbox → Mbox) : (p.updMbx m g).free = p.free := rfl
@[simp] theorem Part.updMbx_regs (m : Nat) (g : Mbox → Mbox) : (p.updMbx m g).regs = p.regs := rfl
@[simp] theorem Part.updMbx_hold (m : Nat) (g : Mbox → Mbox) : (p.updMbx m g).hold = p.hold := rfl
@[simp] theorem Part.updMbx_out (m : Nat) (g : Mbox → Mbox) : (p.updMbx m g).out = p.out := rfl
@[simp] theorem Part.updMbx_rings (m : Nat) (g : Mbox → Mbox) : (p.updMbx m g).rings = p.rings := rfl
@[simp] theorem Part.updMbx_seqs (m : Nat) (g : Mbox → Mbox) : (p.updMbx m g).seqs = p.seqs := rfl
@[simp] theorem Part.updMbx_vl (m : Nat) (g : Mbox → Mbox) : (p.updMbx m g).vl = p.vl := rfl
@[simp] theorem Part.updMbx_perSec (m : Nat) (g : Mbox → Mbox) : (p.updMbx m g).perSec = p.perSec := rfl
@[simp] theorem Part.updMbx_hedges (m : Nat) (g : Mbox → Mbox) : (p.updMbx m g).hedges = p.hedges := rfl
@[simp] theorem Part.updMbx_ep (m : Nat) (g : Mbox → Mbox) : (p.updMbx m g).ep = p.ep := rfl
@[simp] theorem Part.updMbx_fab (m : Nat) (g : Mbox → Mbox) : (p.updMbx m g).fab = p.fab := rfl
@[simp] theorem Part.updMbx_slc (m : Nat) (g : Mbox → Mbox) : (p.updMbx m g).slc = p.slc := rfl
@[simp] theorem Part.updMbx_tw (m : Nat) (g : Mbox → Mbox) : (p.updMbx m g).tw = p.tw := rfl
@[simp] theorem Part.updMbx_dbg (m : Nat) (g : Mbox → Mbox) : (p.updMbx m g).dbg = p.dbg := rfl
@[simp] theorem Part.updMbx_sor (m : Nat) (g : Mbox → Mbox) : (p.updMbx m g).sor = p.sor := rfl
@[simp] theorem Part.updMbx_loop (m : Nat) (g : Mbox → Mbox) : (p.updMbx m g).loop = p.loop := rfl
@[simp] theorem Part.updMbx_core (m : Nat) (g : Mbox → Mbox) : (p.updMbx m g).core = p.core := rfl
@[simp] theorem Part.updMbx_den (m : Nat) (g : Mbox → Mbox) : (p.updMbx m g).den = p.den := rfl
@[simp] theorem Part.updMbx_boot (m : Nat) (g : Mbox → Mbox) : (p.updMbx m g).boot = p.boot := rfl

/-! ### setBind changes hs alone -/

@[simp] theorem Part.setBind_time (m : Nat) (b : Option Bind) : (p.setBind m b).time = p.time := rfl
@[simp] theorem Part.setBind_past (m : Nat) (b : Option Bind) : (p.setBind m b).past = p.past := rfl
@[simp] theorem Part.setBind_free (m : Nat) (b : Option Bind) : (p.setBind m b).free = p.free := rfl
@[simp] theorem Part.setBind_regs (m : Nat) (b : Option Bind) : (p.setBind m b).regs = p.regs := rfl
@[simp] theorem Part.setBind_hold (m : Nat) (b : Option Bind) : (p.setBind m b).hold = p.hold := rfl
@[simp] theorem Part.setBind_out (m : Nat) (b : Option Bind) : (p.setBind m b).out = p.out := rfl
@[simp] theorem Part.setBind_rings (m : Nat) (b : Option Bind) : (p.setBind m b).rings = p.rings := rfl
@[simp] theorem Part.setBind_seqs (m : Nat) (b : Option Bind) : (p.setBind m b).seqs = p.seqs := rfl
@[simp] theorem Part.setBind_vl (m : Nat) (b : Option Bind) : (p.setBind m b).vl = p.vl := rfl
@[simp] theorem Part.setBind_perSec (m : Nat) (b : Option Bind) : (p.setBind m b).perSec = p.perSec := rfl
@[simp] theorem Part.setBind_hedges (m : Nat) (b : Option Bind) : (p.setBind m b).hedges = p.hedges := rfl
@[simp] theorem Part.setBind_ep (m : Nat) (b : Option Bind) : (p.setBind m b).ep = p.ep := rfl
@[simp] theorem Part.setBind_fab (m : Nat) (b : Option Bind) : (p.setBind m b).fab = p.fab := rfl
@[simp] theorem Part.setBind_slc (m : Nat) (b : Option Bind) : (p.setBind m b).slc = p.slc := rfl
@[simp] theorem Part.setBind_tw (m : Nat) (b : Option Bind) : (p.setBind m b).tw = p.tw := rfl
@[simp] theorem Part.setBind_dbg (m : Nat) (b : Option Bind) : (p.setBind m b).dbg = p.dbg := rfl
@[simp] theorem Part.setBind_sor (m : Nat) (b : Option Bind) : (p.setBind m b).sor = p.sor := rfl
@[simp] theorem Part.setBind_loop (m : Nat) (b : Option Bind) : (p.setBind m b).loop = p.loop := rfl
@[simp] theorem Part.setBind_core (m : Nat) (b : Option Bind) : (p.setBind m b).core = p.core := rfl
@[simp] theorem Part.setBind_den (m : Nat) (b : Option Bind) : (p.setBind m b).den = p.den := rfl
@[simp] theorem Part.setBind_boot (m : Nat) (b : Option Bind) : (p.setBind m b).boot = p.boot := rfl

/-! ### updTwin changes tw alone -/

@[simp] theorem Part.updTwin_time (g : Twin → Twin) : (p.updTwin g).time = p.time := rfl
@[simp] theorem Part.updTwin_past (g : Twin → Twin) : (p.updTwin g).past = p.past := rfl
@[simp] theorem Part.updTwin_free (g : Twin → Twin) : (p.updTwin g).free = p.free := rfl
@[simp] theorem Part.updTwin_regs (g : Twin → Twin) : (p.updTwin g).regs = p.regs := rfl
@[simp] theorem Part.updTwin_hold (g : Twin → Twin) : (p.updTwin g).hold = p.hold := rfl
@[simp] theorem Part.updTwin_out (g : Twin → Twin) : (p.updTwin g).out = p.out := rfl
@[simp] theorem Part.updTwin_rings (g : Twin → Twin) : (p.updTwin g).rings = p.rings := rfl
@[simp] theorem Part.updTwin_seqs (g : Twin → Twin) : (p.updTwin g).seqs = p.seqs := rfl
@[simp] theorem Part.updTwin_vl (g : Twin → Twin) : (p.updTwin g).vl = p.vl := rfl
@[simp] theorem Part.updTwin_perSec (g : Twin → Twin) : (p.updTwin g).perSec = p.perSec := rfl
@[simp] theorem Part.updTwin_hedges (g : Twin → Twin) : (p.updTwin g).hedges = p.hedges := rfl
@[simp] theorem Part.updTwin_ep (g : Twin → Twin) : (p.updTwin g).ep = p.ep := rfl
@[simp] theorem Part.updTwin_fab (g : Twin → Twin) : (p.updTwin g).fab = p.fab := rfl
@[simp] theorem Part.updTwin_slc (g : Twin → Twin) : (p.updTwin g).slc = p.slc := rfl
@[simp] theorem Part.updTwin_hs (g : Twin → Twin) : (p.updTwin g).hs = p.hs := rfl
@[simp] theorem Part.updTwin_dbg (g : Twin → Twin) : (p.updTwin g).dbg = p.dbg := rfl
@[simp] theorem Part.updTwin_sor (g : Twin → Twin) : (p.updTwin g).sor = p.sor := rfl
@[simp] theorem Part.updTwin_loop (g : Twin → Twin) : (p.updTwin g).loop = p.loop := rfl
@[simp] theorem Part.updTwin_core (g : Twin → Twin) : (p.updTwin g).core = p.core := rfl
@[simp] theorem Part.updTwin_den (g : Twin → Twin) : (p.updTwin g).den = p.den := rfl
@[simp] theorem Part.updTwin_boot (g : Twin → Twin) : (p.updTwin g).boot = p.boot := rfl

/-! ### updSor changes sor alone -/

@[simp] theorem Part.updSor_time (g : Sorus → Sorus) : (p.updSor g).time = p.time := rfl
@[simp] theorem Part.updSor_past (g : Sorus → Sorus) : (p.updSor g).past = p.past := rfl
@[simp] theorem Part.updSor_free (g : Sorus → Sorus) : (p.updSor g).free = p.free := rfl
@[simp] theorem Part.updSor_regs (g : Sorus → Sorus) : (p.updSor g).regs = p.regs := rfl
@[simp] theorem Part.updSor_hold (g : Sorus → Sorus) : (p.updSor g).hold = p.hold := rfl
@[simp] theorem Part.updSor_out (g : Sorus → Sorus) : (p.updSor g).out = p.out := rfl
@[simp] theorem Part.updSor_rings (g : Sorus → Sorus) : (p.updSor g).rings = p.rings := rfl
@[simp] theorem Part.updSor_seqs (g : Sorus → Sorus) : (p.updSor g).seqs = p.seqs := rfl
@[simp] theorem Part.updSor_vl (g : Sorus → Sorus) : (p.updSor g).vl = p.vl := rfl
@[simp] theorem Part.updSor_perSec (g : Sorus → Sorus) : (p.updSor g).perSec = p.perSec := rfl
@[simp] theorem Part.updSor_hedges (g : Sorus → Sorus) : (p.updSor g).hedges = p.hedges := rfl
@[simp] theorem Part.updSor_ep (g : Sorus → Sorus) : (p.updSor g).ep = p.ep := rfl
@[simp] theorem Part.updSor_fab (g : Sorus → Sorus) : (p.updSor g).fab = p.fab := rfl
@[simp] theorem Part.updSor_slc (g : Sorus → Sorus) : (p.updSor g).slc = p.slc := rfl
@[simp] theorem Part.updSor_hs (g : Sorus → Sorus) : (p.updSor g).hs = p.hs := rfl
@[simp] theorem Part.updSor_tw (g : Sorus → Sorus) : (p.updSor g).tw = p.tw := rfl
@[simp] theorem Part.updSor_dbg (g : Sorus → Sorus) : (p.updSor g).dbg = p.dbg := rfl
@[simp] theorem Part.updSor_loop (g : Sorus → Sorus) : (p.updSor g).loop = p.loop := rfl
@[simp] theorem Part.updSor_core (g : Sorus → Sorus) : (p.updSor g).core = p.core := rfl
@[simp] theorem Part.updSor_den (g : Sorus → Sorus) : (p.updSor g).den = p.den := rfl
@[simp] theorem Part.updSor_boot (g : Sorus → Sorus) : (p.updSor g).boot = p.boot := rfl

/-! ### updLoop changes loop alone -/

@[simp] theorem Part.updLoop_time (g : Loop → Loop) : (p.updLoop g).time = p.time := rfl
@[simp] theorem Part.updLoop_past (g : Loop → Loop) : (p.updLoop g).past = p.past := rfl
@[simp] theorem Part.updLoop_free (g : Loop → Loop) : (p.updLoop g).free = p.free := rfl
@[simp] theorem Part.updLoop_regs (g : Loop → Loop) : (p.updLoop g).regs = p.regs := rfl
@[simp] theorem Part.updLoop_hold (g : Loop → Loop) : (p.updLoop g).hold = p.hold := rfl
@[simp] theorem Part.updLoop_out (g : Loop → Loop) : (p.updLoop g).out = p.out := rfl
@[simp] theorem Part.updLoop_rings (g : Loop → Loop) : (p.updLoop g).rings = p.rings := rfl
@[simp] theorem Part.updLoop_seqs (g : Loop → Loop) : (p.updLoop g).seqs = p.seqs := rfl
@[simp] theorem Part.updLoop_vl (g : Loop → Loop) : (p.updLoop g).vl = p.vl := rfl
@[simp] theorem Part.updLoop_perSec (g : Loop → Loop) : (p.updLoop g).perSec = p.perSec := rfl
@[simp] theorem Part.updLoop_hedges (g : Loop → Loop) : (p.updLoop g).hedges = p.hedges := rfl
@[simp] theorem Part.updLoop_ep (g : Loop → Loop) : (p.updLoop g).ep = p.ep := rfl
@[simp] theorem Part.updLoop_fab (g : Loop → Loop) : (p.updLoop g).fab = p.fab := rfl
@[simp] theorem Part.updLoop_slc (g : Loop → Loop) : (p.updLoop g).slc = p.slc := rfl
@[simp] theorem Part.updLoop_hs (g : Loop → Loop) : (p.updLoop g).hs = p.hs := rfl
@[simp] theorem Part.updLoop_tw (g : Loop → Loop) : (p.updLoop g).tw = p.tw := rfl
@[simp] theorem Part.updLoop_dbg (g : Loop → Loop) : (p.updLoop g).dbg = p.dbg := rfl
@[simp] theorem Part.updLoop_sor (g : Loop → Loop) : (p.updLoop g).sor = p.sor := rfl
@[simp] theorem Part.updLoop_core (g : Loop → Loop) : (p.updLoop g).core = p.core := rfl
@[simp] theorem Part.updLoop_den (g : Loop → Loop) : (p.updLoop g).den = p.den := rfl
@[simp] theorem Part.updLoop_boot (g : Loop → Loop) : (p.updLoop g).boot = p.boot := rfl

/-! ### updCore changes core alone -/

@[simp] theorem Part.updCore_time (g : Core → Core) : (p.updCore g).time = p.time := rfl
@[simp] theorem Part.updCore_past (g : Core → Core) : (p.updCore g).past = p.past := rfl
@[simp] theorem Part.updCore_free (g : Core → Core) : (p.updCore g).free = p.free := rfl
@[simp] theorem Part.updCore_regs (g : Core → Core) : (p.updCore g).regs = p.regs := rfl
@[simp] theorem Part.updCore_hold (g : Core → Core) : (p.updCore g).hold = p.hold := rfl
@[simp] theorem Part.updCore_out (g : Core → Core) : (p.updCore g).out = p.out := rfl
@[simp] theorem Part.updCore_rings (g : Core → Core) : (p.updCore g).rings = p.rings := rfl
@[simp] theorem Part.updCore_seqs (g : Core → Core) : (p.updCore g).seqs = p.seqs := rfl
@[simp] theorem Part.updCore_vl (g : Core → Core) : (p.updCore g).vl = p.vl := rfl
@[simp] theorem Part.updCore_perSec (g : Core → Core) : (p.updCore g).perSec = p.perSec := rfl
@[simp] theorem Part.updCore_hedges (g : Core → Core) : (p.updCore g).hedges = p.hedges := rfl
@[simp] theorem Part.updCore_ep (g : Core → Core) : (p.updCore g).ep = p.ep := rfl
@[simp] theorem Part.updCore_fab (g : Core → Core) : (p.updCore g).fab = p.fab := rfl
@[simp] theorem Part.updCore_slc (g : Core → Core) : (p.updCore g).slc = p.slc := rfl
@[simp] theorem Part.updCore_hs (g : Core → Core) : (p.updCore g).hs = p.hs := rfl
@[simp] theorem Part.updCore_tw (g : Core → Core) : (p.updCore g).tw = p.tw := rfl
@[simp] theorem Part.updCore_dbg (g : Core → Core) : (p.updCore g).dbg = p.dbg := rfl
@[simp] theorem Part.updCore_sor (g : Core → Core) : (p.updCore g).sor = p.sor := rfl
@[simp] theorem Part.updCore_loop (g : Core → Core) : (p.updCore g).loop = p.loop := rfl
@[simp] theorem Part.updCore_den (g : Core → Core) : (p.updCore g).den = p.den := rfl
@[simp] theorem Part.updCore_boot (g : Core → Core) : (p.updCore g).boot = p.boot := rfl

/-! ### updFrm changes den alone -/

@[simp] theorem Part.updFrm_time (k : Nat) (g : Framer → Framer) : (p.updFrm k g).time = p.time := rfl
@[simp] theorem Part.updFrm_past (k : Nat) (g : Framer → Framer) : (p.updFrm k g).past = p.past := rfl
@[simp] theorem Part.updFrm_free (k : Nat) (g : Framer → Framer) : (p.updFrm k g).free = p.free := rfl
@[simp] theorem Part.updFrm_regs (k : Nat) (g : Framer → Framer) : (p.updFrm k g).regs = p.regs := rfl
@[simp] theorem Part.updFrm_hold (k : Nat) (g : Framer → Framer) : (p.updFrm k g).hold = p.hold := rfl
@[simp] theorem Part.updFrm_out (k : Nat) (g : Framer → Framer) : (p.updFrm k g).out = p.out := rfl
@[simp] theorem Part.updFrm_rings (k : Nat) (g : Framer → Framer) : (p.updFrm k g).rings = p.rings := rfl
@[simp] theorem Part.updFrm_seqs (k : Nat) (g : Framer → Framer) : (p.updFrm k g).seqs = p.seqs := rfl
@[simp] theorem Part.updFrm_vl (k : Nat) (g : Framer → Framer) : (p.updFrm k g).vl = p.vl := rfl
@[simp] theorem Part.updFrm_perSec (k : Nat) (g : Framer → Framer) : (p.updFrm k g).perSec = p.perSec := rfl
@[simp] theorem Part.updFrm_hedges (k : Nat) (g : Framer → Framer) : (p.updFrm k g).hedges = p.hedges := rfl
@[simp] theorem Part.updFrm_ep (k : Nat) (g : Framer → Framer) : (p.updFrm k g).ep = p.ep := rfl
@[simp] theorem Part.updFrm_fab (k : Nat) (g : Framer → Framer) : (p.updFrm k g).fab = p.fab := rfl
@[simp] theorem Part.updFrm_slc (k : Nat) (g : Framer → Framer) : (p.updFrm k g).slc = p.slc := rfl
@[simp] theorem Part.updFrm_hs (k : Nat) (g : Framer → Framer) : (p.updFrm k g).hs = p.hs := rfl
@[simp] theorem Part.updFrm_tw (k : Nat) (g : Framer → Framer) : (p.updFrm k g).tw = p.tw := rfl
@[simp] theorem Part.updFrm_dbg (k : Nat) (g : Framer → Framer) : (p.updFrm k g).dbg = p.dbg := rfl
@[simp] theorem Part.updFrm_sor (k : Nat) (g : Framer → Framer) : (p.updFrm k g).sor = p.sor := rfl
@[simp] theorem Part.updFrm_loop (k : Nat) (g : Framer → Framer) : (p.updFrm k g).loop = p.loop := rfl
@[simp] theorem Part.updFrm_core (k : Nat) (g : Framer → Framer) : (p.updFrm k g).core = p.core := rfl
@[simp] theorem Part.updFrm_boot (k : Nat) (g : Framer → Framer) : (p.updFrm k g).boot = p.boot := rfl

/-! ### updBoot changes boot alone -/

@[simp] theorem Part.updBoot_time (g : Boot → Boot) : (p.updBoot g).time = p.time := rfl
@[simp] theorem Part.updBoot_past (g : Boot → Boot) : (p.updBoot g).past = p.past := rfl
@[simp] theorem Part.updBoot_free (g : Boot → Boot) : (p.updBoot g).free = p.free := rfl
@[simp] theorem Part.updBoot_regs (g : Boot → Boot) : (p.updBoot g).regs = p.regs := rfl
@[simp] theorem Part.updBoot_hold (g : Boot → Boot) : (p.updBoot g).hold = p.hold := rfl
@[simp] theorem Part.updBoot_out (g : Boot → Boot) : (p.updBoot g).out = p.out := rfl
@[simp] theorem Part.updBoot_rings (g : Boot → Boot) : (p.updBoot g).rings = p.rings := rfl
@[simp] theorem Part.updBoot_seqs (g : Boot → Boot) : (p.updBoot g).seqs = p.seqs := rfl
@[simp] theorem Part.updBoot_vl (g : Boot → Boot) : (p.updBoot g).vl = p.vl := rfl
@[simp] theorem Part.updBoot_perSec (g : Boot → Boot) : (p.updBoot g).perSec = p.perSec := rfl
@[simp] theorem Part.updBoot_hedges (g : Boot → Boot) : (p.updBoot g).hedges = p.hedges := rfl
@[simp] theorem Part.updBoot_ep (g : Boot → Boot) : (p.updBoot g).ep = p.ep := rfl
@[simp] theorem Part.updBoot_fab (g : Boot → Boot) : (p.updBoot g).fab = p.fab := rfl
@[simp] theorem Part.updBoot_slc (g : Boot → Boot) : (p.updBoot g).slc = p.slc := rfl
@[simp] theorem Part.updBoot_hs (g : Boot → Boot) : (p.updBoot g).hs = p.hs := rfl
@[simp] theorem Part.updBoot_tw (g : Boot → Boot) : (p.updBoot g).tw = p.tw := rfl
@[simp] theorem Part.updBoot_dbg (g : Boot → Boot) : (p.updBoot g).dbg = p.dbg := rfl
@[simp] theorem Part.updBoot_sor (g : Boot → Boot) : (p.updBoot g).sor = p.sor := rfl
@[simp] theorem Part.updBoot_loop (g : Boot → Boot) : (p.updBoot g).loop = p.loop := rfl
@[simp] theorem Part.updBoot_core (g : Boot → Boot) : (p.updBoot g).core = p.core := rfl
@[simp] theorem Part.updBoot_den (g : Boot → Boot) : (p.updBoot g).den = p.den := rfl

/-! ### updGuard changes vl alone -/

@[simp] theorem Part.updGuard_time (h : Nat) (g : Guard → Guard) : (p.updGuard h g).time = p.time := rfl
@[simp] theorem Part.updGuard_past (h : Nat) (g : Guard → Guard) : (p.updGuard h g).past = p.past := rfl
@[simp] theorem Part.updGuard_free (h : Nat) (g : Guard → Guard) : (p.updGuard h g).free = p.free := rfl
@[simp] theorem Part.updGuard_regs (h : Nat) (g : Guard → Guard) : (p.updGuard h g).regs = p.regs := rfl
@[simp] theorem Part.updGuard_hold (h : Nat) (g : Guard → Guard) : (p.updGuard h g).hold = p.hold := rfl
@[simp] theorem Part.updGuard_out (h : Nat) (g : Guard → Guard) : (p.updGuard h g).out = p.out := rfl
@[simp] theorem Part.updGuard_rings (h : Nat) (g : Guard → Guard) : (p.updGuard h g).rings = p.rings := rfl
@[simp] theorem Part.updGuard_seqs (h : Nat) (g : Guard → Guard) : (p.updGuard h g).seqs = p.seqs := rfl
@[simp] theorem Part.updGuard_perSec (h : Nat) (g : Guard → Guard) : (p.updGuard h g).perSec = p.perSec := rfl
@[simp] theorem Part.updGuard_hedges (h : Nat) (g : Guard → Guard) : (p.updGuard h g).hedges = p.hedges := rfl
@[simp] theorem Part.updGuard_ep (h : Nat) (g : Guard → Guard) : (p.updGuard h g).ep = p.ep := rfl
@[simp] theorem Part.updGuard_fab (h : Nat) (g : Guard → Guard) : (p.updGuard h g).fab = p.fab := rfl
@[simp] theorem Part.updGuard_slc (h : Nat) (g : Guard → Guard) : (p.updGuard h g).slc = p.slc := rfl
@[simp] theorem Part.updGuard_hs (h : Nat) (g : Guard → Guard) : (p.updGuard h g).hs = p.hs := rfl
@[simp] theorem Part.updGuard_tw (h : Nat) (g : Guard → Guard) : (p.updGuard h g).tw = p.tw := rfl
@[simp] theorem Part.updGuard_dbg (h : Nat) (g : Guard → Guard) : (p.updGuard h g).dbg = p.dbg := rfl
@[simp] theorem Part.updGuard_sor (h : Nat) (g : Guard → Guard) : (p.updGuard h g).sor = p.sor := rfl
@[simp] theorem Part.updGuard_loop (h : Nat) (g : Guard → Guard) : (p.updGuard h g).loop = p.loop := rfl
@[simp] theorem Part.updGuard_core (h : Nat) (g : Guard → Guard) : (p.updGuard h g).core = p.core := rfl
@[simp] theorem Part.updGuard_den (h : Nat) (g : Guard → Guard) : (p.updGuard h g).den = p.den := rfl
@[simp] theorem Part.updGuard_boot (h : Nat) (g : Guard → Guard) : (p.updGuard h g).boot = p.boot := rfl

/-! ### The device around the part -/

@[simp] theorem Dev.onP_mem (g : Part → Part) : (d.onP g).mem = d.mem := rfl
@[simp] theorem Dev.onP_p (g : Part → Part) : (d.onP g).p = g d.p := rfl

/-! ### Outcomes -/

/-- A command that acts on the part alone answers a next state, and leaves the memory stacks and the queue as they were. -/
@[simp] theorem onPart_eq (g : Part → Part) (s : State) :
    onPart g s = .next { s with dev := { s.dev with p := g s.dev.p } } := rfl
@[simp] theorem onDev_eq (g : Dev → Dev) (s : State) : onDev g s = .next { s with dev := g s.dev } := rfl
theorem onPartIf_pos {ok : Prop} [Decidable ok] (h : ok) (g : Part → Part) (s : State) :
    onPartIf ok g s = .next { s with dev := { s.dev with p := g s.dev.p } } := by simp [onPartIf, h]
theorem onPartIf_neg {ok : Prop} [Decidable ok] (h : ¬ ok) (g : Part → Part) (s : State) :
    onPartIf ok g s = .next s := by simp [onPartIf, h]
theorem onDevIf_pos {ok : Prop} [Decidable ok] (h : ok) (g : Dev → Dev) (s : State) :
    onDevIf ok g s = .next { s with dev := g s.dev } := by simp [onDevIf, h]
theorem onDevIf_neg {ok : Prop} [Decidable ok] (h : ¬ ok) (g : Dev → Dev) (s : State) :
    onDevIf ok g s = .next s := by simp [onDevIf, h]
theorem blockPart_pos {id : Nat} {ok : Prop} [Decidable ok] {s : State} (h : ok) (ha : s.dev.p.available id = true)
    (ho : s.dev.p.pfOpen = true) (g : Part → Part) :
    blockPart id ok g s = .next { s with dev := { s.dev with p := g s.dev.p } } := by simp [blockPart, h, ha, ho]
theorem blockPart_unavailable {id : Nat} {ok : Prop} [Decidable ok] {s : State} (ha : s.dev.p.available id = false) (g : Part → Part) :
    blockPart id ok g s = .next s := by simp [blockPart, ha]
theorem blockDev_pos {id : Nat} {ok : Prop} [Decidable ok] {s : State} (h : ok) (ha : s.dev.p.available id = true)
    (ho : s.dev.p.pfOpen = true) (g : Dev → Dev) :
    blockDev id ok g s = .next { s with dev := g s.dev } := by simp [blockDev, h, ha, ho]
theorem blockDev_unavailable {id : Nat} {ok : Prop} [Decidable ok] {s : State} (ha : s.dev.p.available id = false) (g : Dev → Dev) :
    blockDev id ok g s = .next s := by simp [blockDev, ha]

end Sys2Proof.Machine
end

