-- ==== Sys2Proof/Laws/Tab.lean ====
section
/-!
SUPPORT. Sys2Proof/Laws/Tab.lean: reading a sparse table after a write, and the canonical form that every write keeps.
-/

namespace Sys2Proof.Machine

variable {α : Type}

@[simp] theorem Tab.get_nil (d : α) (k : Nat) : Tab.get d k [] = d := rfl

theorem Tab.get_del_same (d : α) (k : Nat) (m : Tab α) : Tab.get d k (Tab.del k m) = d := by
  induction m with
  | nil => rfl
  | cons e t ih =>
    obtain ⟨k', v⟩ := e
    by_cases h : k' = k <;> simp [Tab.del, Tab.get, h, ih]

theorem Tab.get_del_ne (d : α) {k j : Nat} (h : j ≠ k) (m : Tab α) : Tab.get d j (Tab.del k m) = Tab.get d j m := by
  induction m with
  | nil => rfl
  | cons e t ih =>
    obtain ⟨k', v⟩ := e
    by_cases hk : k' = k
    · have : k' ≠ j := fun e => h (e ▸ hk)
      simp [Tab.del, Tab.get, hk, ih, Ne.symm h]
    · by_cases hj : k' = j
      · subst hj; simp [Tab.del, Tab.get, h]
      · simp [Tab.del, Tab.get, hk, hj, ih]

theorem Tab.get_ins_same (d : α) (k : Nat) (v : α) (m : Tab α) (hm : Tab.has k m = false) :
    Tab.get d k (Tab.ins k v m) = v := by
  induction m with
  | nil => simp [Tab.ins, Tab.get]
  | cons e t ih =>
    obtain ⟨k', v'⟩ := e
    by_cases hk : k' = k
    · simp [Tab.has, hk] at hm
    · have ht : Tab.has k t = false := by simpa [Tab.has, hk] using hm
      by_cases hl : k < k' <;> simp [Tab.ins, Tab.get, hl, hk, ih ht]

theorem Tab.get_ins_ne (d : α) {k j : Nat} (h : j ≠ k) (v : α) (m : Tab α) :
    Tab.get d j (Tab.ins k v m) = Tab.get d j m := by
  induction m with
  | nil => simp [Tab.ins, Tab.get, Ne.symm h]
  | cons e t ih =>
    obtain ⟨k', v'⟩ := e
    by_cases hl : k < k'
    · simp [Tab.ins, Tab.get, hl, Ne.symm h]
    · simp [Tab.ins, Tab.get, hl, ih]

theorem Tab.has_del (k : Nat) (m : Tab α) : Tab.has k (Tab.del k m) = false := by
  induction m with
  | nil => rfl
  | cons e t ih =>
    obtain ⟨k', v⟩ := e
    by_cases h : k' = k <;> simp [Tab.del, Tab.has, h, ih]

/-- What was put at a key is read there. -/
@[simp] theorem Tab.get_put_same [DecidableEq α] (d : α) (k : Nat) (v : α) (m : Tab α) :
    Tab.get d k (Tab.put d k v m) = v := by
  unfold Tab.put
  split
  · rename_i h; rw [h, Tab.get_del_same]
  · exact Tab.get_ins_same d k v _ (Tab.has_del k m)

/-- A write at one key leaves every other key as it was. -/
theorem Tab.get_put_ne [DecidableEq α] (d : α) {k j : Nat} (h : j ≠ k) (v : α) (m : Tab α) :
    Tab.get d j (Tab.put d k v m) = Tab.get d j m := by
  unfold Tab.put
  split
  · exact Tab.get_del_ne d h m
  · rw [Tab.get_ins_ne d h, Tab.get_del_ne d h]

/-- Reading after a write, in one equation. -/
theorem Tab.get_put [DecidableEq α] (d : α) (k j : Nat) (v : α) (m : Tab α) :
    Tab.get d j (Tab.put d k v m) = if j = k then v else Tab.get d j m := by
  by_cases h : j = k
  · subst h; simp
  · simp [h, Tab.get_put_ne d h]

theorem Tab.get_upd [DecidableEq α] (d : α) (k j : Nat) (f : α → α) (m : Tab α) :
    Tab.get d j (Tab.upd d k f m) = if j = k then f (Tab.get d k m) else Tab.get d j m :=
  Tab.get_put d k j _ m

@[simp] theorem Tab.get_upd_same [DecidableEq α] (d : α) (k : Nat) (f : α → α) (m : Tab α) :
    Tab.get d k (Tab.upd d k f m) = f (Tab.get d k m) := Tab.get_put_same d k _ m

theorem Tab.get_upd_ne [DecidableEq α] (d : α) {k j : Nat} (h : j ≠ k) (f : α → α) (m : Tab α) :
    Tab.get d j (Tab.upd d k f m) = Tab.get d j m := Tab.get_put_ne d h _ m

/-! ### The canonical form -/

theorem Tab.mem_del {k : Nat} {m : Tab α} {e : Nat × α} (h : e ∈ Tab.del k m) : e ∈ m ∧ e.1 ≠ k := by
  induction m with
  | nil => simp [Tab.del] at h
  | cons x t ih =>
    obtain ⟨k', v⟩ := x
    by_cases hk : k' = k
    · simp only [Tab.del, hk, if_true] at h
      exact ⟨List.mem_cons_of_mem _ (ih h).1, (ih h).2⟩
    · simp only [Tab.del, hk, if_false, List.mem_cons] at h
      rcases h with rfl | h
      · exact ⟨List.mem_cons_self, hk⟩
      · exact ⟨List.mem_cons_of_mem _ (ih h).1, (ih h).2⟩

theorem Tab.pairwise_del (k : Nat) {m : Tab α} (h : m.Pairwise fun a b => a.1 < b.1) :
    (Tab.del k m).Pairwise fun a b => a.1 < b.1 := by
  induction m with
  | nil => exact h
  | cons x t ih =>
    obtain ⟨k', v⟩ := x
    rw [List.pairwise_cons] at h
    by_cases hk : k' = k
    · simpa [Tab.del, hk] using ih h.2
    · simp only [Tab.del, hk, if_false, List.pairwise_cons]
      exact ⟨fun e he => h.1 e (Tab.mem_del he).1, ih h.2⟩

theorem Tab.mem_ins {k : Nat} {v : α} {m : Tab α} {e : Nat × α} (h : e ∈ Tab.ins k v m) : e = (k, v) ∨ e ∈ m := by
  induction m with
  | nil => exact .inl (by simpa [Tab.ins] using h)
  | cons x t ih =>
    obtain ⟨k', v'⟩ := x
    by_cases hl : k < k'
    · simpa [Tab.ins, hl] using h
    · simp only [Tab.ins, hl, if_false, List.mem_cons] at h
      rcases h with rfl | h
      · exact .inr List.mem_cons_self
      · exact (ih h).imp_right (List.mem_cons_of_mem _)

theorem Tab.pairwise_ins {k : Nat} (v : α) {m : Tab α} (h : m.Pairwise fun a b => a.1 < b.1)
    (hk : ∀ e ∈ m, e.1 ≠ k) : (Tab.ins k v m).Pairwise fun a b => a.1 < b.1 := by
  induction m with
  | nil => simp [Tab.ins]
  | cons x t ih =>
    obtain ⟨k', v'⟩ := x
    rw [List.pairwise_cons] at h
    have hne : k' ≠ k := hk (k', v') List.mem_cons_self
    by_cases hl : k < k'
    · simp only [Tab.ins, hl, if_true, List.pairwise_cons, List.mem_cons, forall_eq_or_imp, true_and]
      exact ⟨fun e he => Nat.lt_trans hl (h.1 e he), h⟩
    · simp only [Tab.ins, hl, if_false, List.pairwise_cons]
      refine ⟨fun e he => ?_, ih h.2 fun e he => hk e (List.mem_cons_of_mem _ he)⟩
      rcases Tab.mem_ins he with rfl | he
      · exact Nat.lt_of_le_of_ne (Nat.le_of_not_lt hl) hne
      · exact h.1 e he

/-- Every write keeps the canonical form. -/
theorem Tab.wf_put [DecidableEq α] {d : α} {m : Tab α} (h : Tab.wf d m) (k : Nat) (v : α) : Tab.wf d (Tab.put d k v m) := by
  have hd := Tab.pairwise_del k h.1
  unfold Tab.put
  split
  · exact ⟨hd, fun e he => h.2 e (Tab.mem_del he).1⟩
  · rename_i hv
    refine ⟨Tab.pairwise_ins v hd fun e he => (Tab.mem_del he).2, fun e he => ?_⟩
    rcases Tab.mem_ins he with rfl | he
    · exact hv
    · exact h.2 e (Tab.mem_del he).1

theorem Tab.wf_upd [DecidableEq α] {d : α} {m : Tab α} (h : Tab.wf d m) (k : Nat) (f : α → α) : Tab.wf d (Tab.upd d k f m) :=
  Tab.wf_put h k _

/-- Dropping entries keeps the canonical form. -/
theorem Tab.wf_filter {d : α} {m : Tab α} (h : Tab.wf d m) (p : Nat × α → Bool) : Tab.wf d (m.filter p) :=
  ⟨h.1.filter p, fun e he => h.2 e (List.mem_filter.mp he).1⟩

theorem Tab.wf_nil (d : α) : Tab.wf d ([] : Tab α) := ⟨List.Pairwise.nil, fun _ h => absurd h (List.not_mem_nil)⟩

end Sys2Proof.Machine
end

