-- ==== Sys2Proof/Laws/Frond.lean ====
section
/-!
SUPPORT. Sys2Proof/Laws/Frond.lean: a frond after a write of one, and what an instruction row does when its frond may issue.
-/

namespace Sys2Proof.Machine

open Sys2Proof

@[simp] theorem Part.frond_setFrond_same (p : Part) (f : Nat) (F : Frond) : (p.setFrond f F).frond f = F :=
  Tab.get_put_same _ _ _ _

theorem Part.frond_setFrond_ne (p : Part) {f g : Nat} (h : g ≠ f) (F : Frond) : (p.setFrond f F).frond g = p.frond g :=
  Tab.get_put_ne _ h _ _

@[simp] theorem Part.frond_updFrond_same (p : Part) (f : Nat) (g : Frond → Frond) : (p.updFrond f g).frond f = g (p.frond f) :=
  p.frond_setFrond_same f _

theorem Part.frond_updFrond_ne (p : Part) {f g : Nat} (h : g ≠ f) (u : Frond → Frond) : (p.updFrond f u).frond g = p.frond g :=
  p.frond_setFrond_ne h _

/-- A write of one frond changes the table of fronds alone. -/
theorem Part.updFrond_eq (p : Part) (f : Nat) (u : Frond → Frond) :
    p.updFrond f u = { p with fab := { p.fab with fronds := (p.updFrond f u).fab.fronds } } := rfl

@[simp] theorem Frond.sr_zero (F : Frond) : F.sr 0 = 0 := rfl

theorem Frond.sr_setS (F : Frond) (d r : Nat) (x : Word) : (F.setS d x).sr r = if r = d ∧ d ≠ 0 then x else F.sr r := by
  unfold Frond.setS Frond.sr
  by_cases hd : d = 0
  · simp [hd]
  · by_cases hr : r = 0
    · subst hr; simp [hd, Ne.symm hd]
    · simp [hd, hr, Tab.get_put]

theorem Frond.tr_setT (F : Frond) (d r : Nat) (x : Payload) : (F.setT d x).tr r = if r = d then x else F.tr r :=
  Tab.get_put _ _ _ _ _

theorem Frond.lane_setLane (F : Frond) (d k r i : Nat) (x : Word) :
    (F.setLane d k x).lane r i = if 32 * r + i = 32 * d + k then x else F.lane r i :=
  Tab.get_put _ _ _ _ _

theorem Frond.accr_setAcc (F : Frond) (k i : Nat) (x : Word) :
    (F.setAcc k x).accr i = if i % 64 = k % 64 then x else F.accr i := Tab.get_put _ _ _ _ _

theorem forN_succ {σ : Type} (n : Nat) (g : Nat → σ → σ) (x : σ) : forN (n + 1) g x = g n (forN n g x) := by
  simp [forN, List.range_succ]

/-- A vector register set lane by lane: its own lanes take the values, lane 0 first, and no other lane moves. -/
theorem Frond.v_setLanes (F : Frond) (d : Nat) (xs : List Nat) (n k : Nat) (hn : n ≤ 32) :
    Tab.get 0 k (forN n (fun i F => F.setLane d i (BitVec.ofNat 32 (xs.getD i 0))) F).v =
      if k / 32 = d ∧ k % 32 < n then BitVec.ofNat 32 (xs.getD (k % 32) 0) else Tab.get 0 k F.v := by
  induction n with
  | zero => simp [forN]
  | succ n ih =>
    rw [forN_succ]
    show Tab.get 0 k (Tab.put 0 (32 * d + n) _ _) = _
    rw [Tab.get_put, ih (by omega)]
    by_cases hk : k = 32 * d + n
    · subst hk
      have h1 : (32 * d + n) / 32 = d := by omega
      have h2 : (32 * d + n) % 32 = n := by omega
      simp [h1, h2]
    · simp only [hk, if_false]
      by_cases h3 : k / 32 = d ∧ k % 32 < n
      · rw [if_pos h3, if_pos ⟨h3.1, by omega⟩]
      · rw [if_neg h3, if_neg (by omega)]

theorem Frond.setLanes_eq (F : Frond) (d : Nat) (xs : List Nat) (n : Nat) :
    forN n (fun i F => F.setLane d i (BitVec.ofNat 32 (xs.getD i 0))) F =
      { F with v := (forN n (fun i F => F.setLane d i (BitVec.ofNat 32 (xs.getD i 0))) F).v } := by
  induction n with
  | zero => rfl
  | succ n ih => rw [forN_succ, ih]; rfl

/-- A vector register set: its 32 lanes take the values, and every other lane stays. -/
theorem Frond.lane_setV (F : Frond) (d : Nat) (xs : List Nat) (r i : Nat) (hi : i < 32) :
    (F.setV d xs).lane r i = if r = d then BitVec.ofNat 32 (xs.getD i 0) else F.lane r i := by
  have h1 : (32 * r + i) / 32 = r := by omega
  have h2 : (32 * r + i) % 32 = i := by omega
  unfold Frond.lane Frond.setV
  rw [F.v_setLanes d xs 32 (32 * r + i) (by omega), h1, h2]
  by_cases h : r = d
  · rw [if_pos ⟨h, hi⟩, if_pos h]
  · rw [if_neg (fun c => h c.1), if_neg h]

/-- Setting a vector register changes nothing else of the frond. -/
theorem Frond.setV_eq (F : Frond) (d : Nat) (xs : List Nat) : F.setV d xs = { F with v := (F.setV d xs).v } :=
  F.setLanes_eq d xs 32

/-- The next address and the loops are what `fallLoops` says; nothing else of the frond moves. -/
theorem Frond.next_wentOn (F : Frond) : WentOn F F.next := rfl

/-- A frond whose next instruction need not wait takes its effect, and counts its steps. -/
theorem Part.frondRun_goes {s : State} {f : Nat} {op : FOp} (h : FrondAt s f op)
    (hm : s.part.mustWait f op = false) : s.part.frondRun f op = (s.counted f op).part.frondExec f op := by
  obtain ⟨⟨h1, h2, h3⟩, h4⟩ := h
  simp [Part.frondRun, Frond.isNext, Part.frondFetch, Part.frondIssue, Part.frondDo, State.counted, h1, h2, h3, h4, hm]

/-- A frond whose next instruction must wait keeps it waiting (R148). -/
theorem Part.frondRun_waits {s : State} {f : Nat} {op : FOp} (h : FrondAt s f op)
    (hm : s.part.mustWait f op = true) : s.part.frondRun f op = s.part.updFrond f fun F => { F with wait := some op } := by
  obtain ⟨⟨h1, h2, h3⟩, h4⟩ := h
  simp [Part.frondRun, Frond.isNext, Part.frondFetch, Part.frondIssue, h1, h2, h3, h4, hm]

/-- A frond does not run an instruction that is not the next one of its program (R147). -/
theorem Part.frondRun_not_next {p : Part} {f : Nat} {op : FOp} (h : (p.frond f).isNext op = false) : p.frondRun f op = p := by
  simp [Part.frondRun, h]

/-- A profile counts; no frond moves with it. -/
@[simp] theorem Part.frond_profile (p : Part) (b f : Nat) (g : Profile → Profile) : (p.profile b g).frond f = p.frond f := by
  unfold Part.profile
  split
  · rfl
  · split <;> rfl

/-- Every instruction row runs its instruction in its frond. -/
theorem exec_frondInstr (f : Nat) (op : FOp) (s : State) :
    exec (frondInstr f op) s = .next { s with dev := { s.dev with p := s.part.frondRun f op } } := by
  cases op <;> rfl

end Sys2Proof.Machine
end

