-- ==== Sys2Proof/Laws/Memory.lean ====
section
/-!
SUPPORT. Sys2Proof/Laws/Memory.lean: every memory operation keeps the canonical form of the memory stacks, and the reset state has it.
-/

namespace Sys2Proof.Machine

open Sys2Proof

theorem reset_inv : State.reset.Inv := Tab.wf_nil _

/-- A store of bytes keeps the canonical form. -/
theorem storeBytes_wf (a : Nat) (bs : List Byte) {m : List Host.Cell} (h : Memory.wf m) : Memory.wf (storeBytes a bs m) := by
  unfold storeBytes
  induction bs generalizing a m with
  | nil => exact h
  | cons b t ih => exact ih (a + 1) (Tab.wf_put h a b)

@[simp] theorem Dev.readIn_mem (d : Dev) (a n : Nat) : (d.readIn a n).2.2.mem = d.mem := rfl

theorem Dev.markStale_wf {d : Dev} (j : Nat) (h : Memory.wf d.mem) : Memory.wf (d.markStale j).mem := Tab.wf_filter h _

theorem Dev.tryRaw_wf {d : Dev} (a : Nat) (bs : List Byte) (mark : Bool) (h : Memory.wf d.mem) : Memory.wf (d.tryRaw a bs mark).2.mem := by
  unfold Dev.tryRaw
  extract_lets
  split
  · exact h
  · exact storeBytes_wf a bs h

theorem Dev.writeRaw_wf {d : Dev} (a : Nat) (bs : List Byte) (mark : Bool) (h : Memory.wf d.mem) : Memory.wf (d.writeRaw a bs mark).mem :=
  tryRaw_wf a bs mark h

theorem Dev.tryIn_wf {d : Dev} (a : Nat) (bs : List Byte) (mark : Bool) (h : Memory.wf d.mem) : Memory.wf (d.tryIn a bs mark).2.mem := by
  unfold Dev.tryIn
  split
  · exact tryRaw_wf a bs mark h
  · split
    · exact h
    · exact tryRaw_wf a bs mark h

theorem Dev.writeIn_wf {d : Dev} (a : Nat) (bs : List Byte) (mark : Bool) (h : Memory.wf d.mem) : Memory.wf (d.writeIn a bs mark).mem :=
  tryIn_wf a bs mark h

theorem Dev.plotStale_wf {d : Dev} (j : Nat) (h : Memory.wf d.mem) : Memory.wf (d.plotStale j).mem := markStale_wf j h

/-- A fold keeps what each of its steps keeps. -/
theorem foldl_keeps {α β : Type} {P : β → Prop} (f : β → α → β) (hf : ∀ b a, P b → P (f b a)) (l : List α) {b : β} (h : P b) : P (l.foldl f b) := by
  induction l generalizing b with
  | nil => exact h
  | cons a t ih => exact ih (hf b a h)

theorem Dev.writeMem_wf {d : Dev} (a : Nat) (bs : List Byte) (h : Memory.wf d.mem) : Memory.wf (d.writeMem a bs).mem := by
  unfold Dev.writeMem
  exact foldl_keeps (P := fun d : Dev => Memory.wf d.mem) _ (fun b x hb => writeIn_wf _ _ _ hb) _ h

theorem Dev.readMem_mem (d : Dev) (a n : Nat) : (d.readMem a n).2.2.mem = d.mem := by
  have h : ∀ (l : List (Nat × Nat)) (acc : List Byte × Bool × Dev), acc.2.2.mem = d.mem →
      (l.foldl (fun (acc : List Byte × Bool × Dev) pc =>
        let (bs, ok, d) := acc.2.2.readIn pc.1 pc.2
        (acc.1 ++ bs, acc.2.1 && ok, d)) acc).2.2.mem = d.mem := by
    intro l
    induction l with
    | nil => exact fun _ h => h
    | cons x t ih => exact fun acc h => ih _ h
  exact h _ _ rfl

theorem forN_keeps {β : Type} {P : β → Prop} (n : Nat) (f : Nat → β → β) (hf : ∀ i b, P b → P (f i b)) {b : β} (h : P b) : P (forN n f b) :=
  foldl_keeps (fun t i => f i t) (fun b i hb => hf i b hb) _ h

theorem Dev.sliceStale_wf {d : Dev} (n : Nat) (h : Memory.wf d.mem) : Memory.wf (d.sliceStale n).mem :=
  forN_keeps (P := fun d : Dev => Memory.wf d.mem) 36 _ (fun _ _ hb => plotStale_wf _ hb) h

theorem Dev.dataIn_wf {d : Dev} (r : List Byte) (h : Memory.wf d.mem) : Memory.wf (d.dataIn r).mem := by
  unfold Dev.dataIn
  refine forN_keeps (P := fun d : Dev => Memory.wf d.mem) _ _ (fun i b hb => ?_) h
  dsimp only
  split
  · exact hb
  · exact writeRaw_wf _ _ _ hb

end Sys2Proof.Machine
end

