-- ==== Sys2Proof/Laws/PerInstr.lean ====
section
/-!
SUPPORT. Sys2Proof/Laws/PerInstr.lean: what holds of each command as syntax: the opcode table gives its row no bits, so no word spells it (DEDUCED, notes/assumptions/3.md).
-/

namespace Sys2Proof.Laws.Words

open Sys2Proof

/-- No table word spells command `i`. -/
def Statement (i : Instr) : Prop := ∀ nbits w, decodeTableWord nbits w ≠ some i

theorem spells_none (i : Instr) : Statement i := fun _ _ => nofun

theorem registerWrite (x0 : Path) (x1 : Nat) (x2 : Nat) (x3 : Nat) (x4 : Dword) (x5 : Dword) : Statement (.registerWrite x0 x1 x2 x3 x4 x5) := spells_none _
theorem rcFieldRead (x0 : Path) (x1 : Nat) (x2 : Nat) (x3 : Nat) (x4 : Nat) : Statement (.rcFieldRead x0 x1 x2 x3 x4) := spells_none _
theorem wideCounterLowRead (x0 : Path) (x1 : Nat) : Statement (.wideCounterLowRead x0 x1) := spells_none _
theorem perSecondTick : Statement (.perSecondTick) := spells_none _
theorem timSnap (x0 : Nat) : Statement (.timSnap x0) := spells_none _
theorem fabBrownout : Statement (.fabBrownout) := spells_none _
theorem telVlCtrlWrite (x0 : Nat) (x1 : Nat) : Statement (.telVlCtrlWrite x0 x1) := spells_none _
theorem glideReadVout (x0 : Option Nat) : Statement (.glideReadVout x0) := spells_none _
theorem glideRetry (x0 : Bool) : Statement (.glideRetry x0) := spells_none _
theorem tempoGateEnd (x0 : List Nat) : Statement (.tempoGateEnd x0) := spells_none _
theorem cadenceLower (x0 : Nat) : Statement (.cadenceLower x0) := spells_none _
theorem tempoRestored (x0 : Nat) : Statement (.tempoRestored x0) := spells_none _
theorem tempoGateWrite (x0 : Nat) : Statement (.tempoGateWrite x0) := spells_none _
theorem clearMin : Statement (.clearMin) := spells_none _
theorem clearFaults (x0 : Nat) : Statement (.clearFaults x0) := spells_none _
theorem cadenceFloorWrite (x0 : Nat) (x1 : Nat) (x2 : Bool) : Statement (.cadenceFloorWrite x0 x1 x2) := spells_none _
theorem bandChange (x0 : Nat) (x1 : Int) : Statement (.bandChange x0 x1) := spells_none _
theorem startToken (x0 : Nat) : Statement (.startToken x0) := spells_none _
theorem stopToken (x0 : Nat) : Statement (.stopToken x0) := spells_none _
theorem programStoreWrite (x0 : Nat) (x1 : Nat) (x2 : Dword) : Statement (.programStoreWrite x0 x1 x2) := spells_none _
theorem routerToken (x0 : Nat) (x1 : Nat) (x2 : Chan) (x3 : Tok) : Statement (.routerToken x0 x1 x2 x3) := spells_none _
theorem creditReturn (x0 : Nat) (x1 : Nat) (x2 : Nat) : Statement (.creditReturn x0 x1 x2) := spells_none _
theorem hubToken (x0 : Nat) (x1 : Tok) : Statement (.hubToken x0 x1) := spells_none _
theorem fabHedgeStall (x0 : Nat) (x1 : Nat) : Statement (.fabHedgeStall x0 x1) := spells_none _
theorem fabClrCe (x0 : Nat) : Statement (.fabClrCe x0) := spells_none _
theorem fabClrUe (x0 : Nat) : Statement (.fabClrUe x0) := spells_none _
theorem fabClrDrop (x0 : Nat) : Statement (.fabClrDrop x0) := spells_none _
theorem fabClrGw (x0 : Nat) : Statement (.fabClrGw x0) := spells_none _
theorem gwRouteWrite (x0 : Nat) (x1 : Dword) : Statement (.gwRouteWrite x0 x1) := spells_none _
theorem gwConflictClear (x0 : Word) (x1 : Word) : Statement (.gwConflictClear x0 x1) := spells_none _
theorem fNop (x0 : Nat) : Statement (.fNop x0) := spells_none _
theorem fBr (x0 : Nat) (x1 : Nat) : Statement (.fBr x0 x1) := spells_none _
theorem fBeq (x0 : Nat) (x1 : Nat) (x2 : Nat) (x3 : Nat) : Statement (.fBeq x0 x1 x2 x3) := spells_none _
theorem fBne (x0 : Nat) (x1 : Nat) (x2 : Nat) (x3 : Nat) : Statement (.fBne x0 x1 x2 x3) := spells_none _
theorem fBlt (x0 : Nat) (x1 : Nat) (x2 : Nat) (x3 : Nat) : Statement (.fBlt x0 x1 x2 x3) := spells_none _
theorem fLoop (x0 : Nat) (x1 : Bool) (x2 : Nat) (x3 : Nat) (x4 : Nat) : Statement (.fLoop x0 x1 x2 x3 x4) := spells_none _
theorem fHalt (x0 : Nat) : Statement (.fHalt x0) := spells_none _
theorem fLi (x0 : Nat) (x1 : Nat) (x2 : Word) : Statement (.fLi x0 x1 x2) := spells_none _
theorem fAdd (x0 : Nat) (x1 : Nat) (x2 : Nat) (x3 : Nat) : Statement (.fAdd x0 x1 x2 x3) := spells_none _
theorem fSub (x0 : Nat) (x1 : Nat) (x2 : Nat) (x3 : Nat) : Statement (.fSub x0 x1 x2 x3) := spells_none _
theorem fAddi (x0 : Nat) (x1 : Nat) (x2 : Nat) (x3 : Word) : Statement (.fAddi x0 x1 x2 x3) := spells_none _
theorem fMul (x0 : Nat) (x1 : Nat) (x2 : Nat) (x3 : Nat) : Statement (.fMul x0 x1 x2 x3) := spells_none _
theorem fAnd (x0 : Nat) (x1 : Nat) (x2 : Nat) (x3 : Nat) : Statement (.fAnd x0 x1 x2 x3) := spells_none _
theorem fOr (x0 : Nat) (x1 : Nat) (x2 : Nat) (x3 : Nat) : Statement (.fOr x0 x1 x2 x3) := spells_none _
theorem fXor (x0 : Nat) (x1 : Nat) (x2 : Nat) (x3 : Nat) : Statement (.fXor x0 x1 x2 x3) := spells_none _
theorem fShl (x0 : Nat) (x1 : Nat) (x2 : Nat) (x3 : Nat) : Statement (.fShl x0 x1 x2 x3) := spells_none _
theorem fShr (x0 : Nat) (x1 : Nat) (x2 : Nat) (x3 : Nat) : Statement (.fShr x0 x1 x2 x3) := spells_none _
theorem fSra (x0 : Nat) (x1 : Nat) (x2 : Nat) (x3 : Nat) : Statement (.fSra x0 x1 x2 x3) := spells_none _
theorem fLd (x0 : Nat) (x1 : Nat) (x2 : Nat) (x3 : Word) : Statement (.fLd x0 x1 x2 x3) := spells_none _
theorem fSt (x0 : Nat) (x1 : Nat) (x2 : Nat) (x3 : Word) : Statement (.fSt x0 x1 x2 x3) := spells_none _
theorem fGetst (x0 : Nat) (x1 : Nat) : Statement (.fGetst x0 x1) := spells_none _
theorem fTget (x0 : Nat) (x1 : Nat) (x2 : Nat) (x3 : Nat) : Statement (.fTget x0 x1 x2 x3) := spells_none _
theorem fTset (x0 : Nat) (x1 : Nat) (x2 : Nat) (x3 : Nat) : Statement (.fTset x0 x1 x2 x3) := spells_none _
theorem fVget (x0 : Nat) (x1 : Nat) (x2 : Nat) (x3 : Nat) : Statement (.fVget x0 x1 x2 x3) := spells_none _
theorem fVset (x0 : Nat) (x1 : Nat) (x2 : Nat) (x3 : Nat) : Statement (.fVset x0 x1 x2 x3) := spells_none _
theorem fLdt (x0 : Nat) (x1 : Nat) (x2 : Nat) (x3 : Word) : Statement (.fLdt x0 x1 x2 x3) := spells_none _
theorem fStt (x0 : Nat) (x1 : Nat) (x2 : Nat) (x3 : Word) : Statement (.fStt x0 x1 x2 x3) := spells_none _
theorem fRecv (x0 : Nat) (x1 : Nat) (x2 : Nat) (x3 : Nat) : Statement (.fRecv x0 x1 x2 x3) := spells_none _
theorem fRecvp (x0 : Nat) (x1 : Nat) (x2 : Nat) (x3 : Nat) : Statement (.fRecvp x0 x1 x2 x3) := spells_none _
theorem fTest (x0 : Nat) (x1 : Nat) (x2 : Nat) : Statement (.fTest x0 x1 x2) := spells_none _
theorem fWaitany (x0 : Nat) (x1 : Nat) (x2 : Nat) : Statement (.fWaitany x0 x1 x2) := spells_none _
theorem fSend (x0 : Nat) (x1 : Nat) (x2 : Nat) : Statement (.fSend x0 x1 x2) := spells_none _
theorem fSendeos (x0 : Nat) (x1 : Nat) : Statement (.fSendeos x0 x1) := spells_none _
theorem fSendpsn (x0 : Nat) (x1 : Nat) (x2 : Nat) (x3 : Nat) : Statement (.fSendpsn x0 x1 x2 x3) := spells_none _
theorem fFwd (x0 : Nat) (x1 : Nat) (x2 : Nat) (x3 : Nat) : Statement (.fFwd x0 x1 x2 x3) := spells_none _
theorem fStreamWaitResume (x0 : Nat) : Statement (.fStreamWaitResume x0) := spells_none _
theorem fMcfg (x0 : Nat) (x1 : Nat) (x2 : Nat) : Statement (.fMcfg x0 x1 x2) := spells_none _
theorem fMac (x0 : Nat) (x1 : Nat) (x2 : Nat) (x3 : Nat) (x4 : Bool) (x5 : Bool) : Statement (.fMac x0 x1 x2 x3 x4 x5) := spells_none _
theorem fAccrd (x0 : Nat) (x1 : Nat) (x2 : Nat) (x3 : Bool) : Statement (.fAccrd x0 x1 x2 x3) := spells_none _
theorem fAccwr (x0 : Nat) (x1 : Nat) (x2 : Nat) : Statement (.fAccwr x0 x1 x2) := spells_none _
theorem fVadd (x0 : Nat) (x1 : Nat) (x2 : Nat) (x3 : Nat) : Statement (.fVadd x0 x1 x2 x3) := spells_none _
theorem fVsub (x0 : Nat) (x1 : Nat) (x2 : Nat) (x3 : Nat) : Statement (.fVsub x0 x1 x2 x3) := spells_none _
theorem fVmul (x0 : Nat) (x1 : Nat) (x2 : Nat) (x3 : Nat) : Statement (.fVmul x0 x1 x2 x3) := spells_none _
theorem fVfma (x0 : Nat) (x1 : Nat) (x2 : Nat) (x3 : Nat) : Statement (.fVfma x0 x1 x2 x3) := spells_none _
theorem fVmax (x0 : Nat) (x1 : Nat) (x2 : Nat) (x3 : Nat) : Statement (.fVmax x0 x1 x2 x3) := spells_none _
theorem fVmin (x0 : Nat) (x1 : Nat) (x2 : Nat) (x3 : Nat) : Statement (.fVmin x0 x1 x2 x3) := spells_none _
theorem fVscl (x0 : Nat) (x1 : Nat) (x2 : Nat) (x3 : Nat) : Statement (.fVscl x0 x1 x2 x3) := spells_none _
theorem fVofs (x0 : Nat) (x1 : Nat) (x2 : Nat) (x3 : Nat) : Statement (.fVofs x0 x1 x2 x3) := spells_none _
theorem fVexp (x0 : Nat) (x1 : Nat) (x2 : Nat) : Statement (.fVexp x0 x1 x2) := spells_none _
theorem fVlog (x0 : Nat) (x1 : Nat) (x2 : Nat) : Statement (.fVlog x0 x1 x2) := spells_none _
theorem fVtanh (x0 : Nat) (x1 : Nat) (x2 : Nat) : Statement (.fVtanh x0 x1 x2) := spells_none _
theorem fVsigm (x0 : Nat) (x1 : Nat) (x2 : Nat) : Statement (.fVsigm x0 x1 x2) := spells_none _
theorem fVrcp (x0 : Nat) (x1 : Nat) (x2 : Nat) : Statement (.fVrcp x0 x1 x2) := spells_none _
theorem fVrsqrt (x0 : Nat) (x1 : Nat) (x2 : Nat) : Statement (.fVrsqrt x0 x1 x2) := spells_none _
theorem fVsilu (x0 : Nat) (x1 : Nat) (x2 : Nat) : Statement (.fVsilu x0 x1 x2) := spells_none _
theorem fVrsum (x0 : Nat) (x1 : Nat) (x2 : Nat) : Statement (.fVrsum x0 x1 x2) := spells_none _
theorem fVrmax (x0 : Nat) (x1 : Nat) (x2 : Nat) : Statement (.fVrmax x0 x1 x2) := spells_none _
theorem fVunpk (x0 : Nat) (x1 : Nat) (x2 : Nat) (x3 : Nat) (x4 : Nat) : Statement (.fVunpk x0 x1 x2 x3 x4) := spells_none _
theorem fVpack (x0 : Nat) (x1 : Nat) (x2 : Nat) (x3 : Nat) (x4 : Nat) : Statement (.fVpack x0 x1 x2 x3 x4) := spells_none _
theorem fVld (x0 : Nat) (x1 : Nat) (x2 : Nat) (x3 : Word) : Statement (.fVld x0 x1 x2 x3) := spells_none _
theorem fVst (x0 : Nat) (x1 : Nat) (x2 : Nat) (x3 : Word) : Statement (.fVst x0 x1 x2 x3) := spells_none _
theorem fVbcast (x0 : Nat) (x1 : Nat) (x2 : Nat) : Statement (.fVbcast x0 x1 x2) := spells_none _
theorem fVmov (x0 : Nat) (x1 : Nat) (x2 : Nat) : Statement (.fVmov x0 x1 x2) := spells_none _
theorem fEvt (x0 : Nat) (x1 : Nat) (x2 : Nat) (x3 : Nat) (x4 : Nat) : Statement (.fEvt x0 x1 x2 x3 x4) := spells_none _
theorem imageFetchDone (x0 : Nat) : Statement (.imageFetchDone x0) := spells_none _
theorem scheduleEntryStart (x0 : Nat) (x1 : Nat) (x2 : Nat) : Statement (.scheduleEntryStart x0 x1 x2) := spells_none _
theorem scheduleDataToken (x0 : Nat) (x1 : Nat) (x2 : Nat) : Statement (.scheduleDataToken x0 x1 x2) := spells_none _
theorem scheduleEntryDone (x0 : Nat) (x1 : Nat) (x2 : Nat) : Statement (.scheduleEntryDone x0 x1 x2) := spells_none _
theorem bufferRelease (x0 : Nat) (x1 : Nat) (x2 : Nat) : Statement (.bufferRelease x0 x1 x2) := spells_none _
theorem memoryStreamRead (x0 : Nat) (x1 : Nat) (x2 : Nat) : Statement (.memoryStreamRead x0 x1 x2) := spells_none _
theorem memoryStreamWrite (x0 : Nat) (x1 : Nat) (x2 : Nat) : Statement (.memoryStreamWrite x0 x1 x2) := spells_none _
theorem scrubRead (x0 : Nat) (x1 : Nat) : Statement (.scrubRead x0 x1) := spells_none _
theorem stalePageFill (x0 : Nat) (x1 : Nat) : Statement (.stalePageFill x0 x1) := spells_none _
theorem bar2Read (x0 : Nat) (x1 : Nat) (x2 : Nat) (x3 : Nat) : Statement (.bar2Read x0 x1 x2 x3) := spells_none _
theorem bar2Write (x0 : Nat) (x1 : Nat) (x2 : List Byte) (x3 : Bool) (x4 : Nat) : Statement (.bar2Write x0 x1 x2 x3 x4) := spells_none _
theorem memHot (x0 : Nat) (x1 : Int) : Statement (.memHot x0 x1) := spells_none _
theorem sliceRetrain (x0 : Nat) (x1 : Nat) (x2 : Bool) : Statement (.sliceRetrain x0 x1 x2) := spells_none _
theorem memSliceDown (x0 : Nat) : Statement (.memSliceDown x0) := spells_none _
theorem slcClrCe (x0 : Nat) (x1 : Nat) : Statement (.slcClrCe x0 x1) := spells_none _
theorem slcClrUe (x0 : Nat) (x1 : Nat) : Statement (.slcClrUe x0 x1) := spells_none _
theorem pmapVfWrite (x0 : Nat) (x1 : Nat) (x2 : Nat) (x3 : Bool) : Statement (.pmapVfWrite x0 x1 x2 x3) := spells_none _
theorem kvcDecode (x0 : Nat) (x1 : Nat) (x2 : Nat) : Statement (.kvcDecode x0 x1 x2) := spells_none _
theorem kvcEncode (x0 : Nat) (x1 : Nat) (x2 : Nat) : Statement (.kvcEncode x0 x1 x2) := spells_none _
theorem kvcRegionEnableWrite (x0 : Nat) (x1 : Nat) (x2 : Word) : Statement (.kvcRegionEnableWrite x0 x1 x2) := spells_none _
theorem kvcSmapWrite (x0 : Nat) (x1 : Nat) (x2 : Nat) (x3 : Word) : Statement (.kvcSmapWrite x0 x1 x2 x3) := spells_none _
theorem clrCorrupt (x0 : Nat) (x1 : Nat) : Statement (.clrCorrupt x0 x1) := spells_none _
theorem clrFallback (x0 : Nat) (x1 : Nat) : Statement (.clrFallback x0 x1) := spells_none _
theorem kvcClrFaults (x0 : Nat) (x1 : Nat) : Statement (.kvcClrFaults x0 x1) := spells_none _
theorem perstNAssert : Statement (.perstNAssert) := spells_none _
theorem perstNDeassert : Statement (.perstNDeassert) := spells_none _
theorem hotReset : Statement (.hotReset) := spells_none _
theorem linkDisable : Statement (.linkDisable) := spells_none _
theorem linkDown : Statement (.linkDown) := spells_none _
theorem vfFlr (x0 : Nat) : Statement (.vfFlr x0) := spells_none _
theorem pf0Flr : Statement (.pf0Flr) := spells_none _
theorem epFlrDone (x0 : Nat) : Statement (.epFlrDone x0) := spells_none _
theorem vfEnableSet : Statement (.vfEnableSet) := spells_none _
theorem vfEnableClear : Statement (.vfEnableClear) := spells_none _
theorem d3hotEntry (x0 : Nat) : Statement (.d3hotEntry x0) := spells_none _
theorem d0Return (x0 : Nat) : Statement (.d0Return x0) := spells_none _
theorem linkTraining (x0 : Nat) (x1 : Nat) (x2 : Bool) (x3 : Bool) : Statement (.linkTraining x0 x1 x2 x3) := spells_none _
theorem epLinkDegraded (x0 : Nat) (x1 : Nat) : Statement (.epLinkDegraded x0 x1) := spells_none _
theorem hostDirectedRetrain (x0 : Nat) (x1 : Nat) : Statement (.hostDirectedRetrain x0 x1) := spells_none _
theorem mrdlk (x0 : Nat) : Statement (.mrdlk x0) := spells_none _
theorem configurationRequest (x0 : Nat) (x1 : Nat) (x2 : Option (Nat × Nat)) : Statement (.configurationRequest x0 x1 x2) := spells_none _
theorem aspmL1Entry : Statement (.aspmL1Entry) := spells_none _
theorem expansionRomRead (x0 : Nat) (x1 : Nat) (x2 : Nat) : Statement (.expansionRomRead x0 x1 x2) := spells_none _
theorem gblVfIrqMaskWrite (x0 : Nat) (x1 : Nat) : Statement (.gblVfIrqMaskWrite x0 x1) := spells_none _
theorem dbSqTail (x0 : Nat) (x1 : Nat) (x2 : Nat) (x3 : Nat) : Statement (.dbSqTail x0 x1 x2 x3) := spells_none _
theorem dbCqHead (x0 : Nat) (x1 : Nat) (x2 : Nat) (x3 : Nat) : Statement (.dbCqHead x0 x1 x2 x3) := spells_none _
theorem dbWrite64 (x0 : Nat) (x1 : Nat) (x2 : Nat) (x3 : Nat) : Statement (.dbWrite64 x0 x1 x2 x3) := spells_none _
theorem descriptorFetchDone (x0 : Nat) : Statement (.descriptorFetchDone x0) := spells_none _
theorem descSendData (x0 : Nat) : Statement (.descSendData x0) := spells_none _
theorem evtHeadWrite (x0 : Nat) (x1 : Nat) (x2 : Nat) : Statement (.evtHeadWrite x0 x1 x2) := spells_none _
theorem evtCfgWrite (x0 : Nat) (x1 : Nat) (x2 : Word) : Statement (.evtCfgWrite x0 x1 x2) := spells_none _
theorem clrLost (x0 : Nat) (x1 : Nat) (x2 : Nat) : Statement (.clrLost x0 x1 x2) := spells_none _
theorem dbClrFaults (x0 : Nat) (x1 : Nat) (x2 : Nat) : Statement (.dbClrFaults x0 x1 x2) := spells_none _
theorem mbxDoorbell (x0 : Nat) : Statement (.mbxDoorbell x0) := spells_none _
theorem mbxCommandDone (x0 : MbxEnd) : Statement (.mbxCommandDone x0) := spells_none _
theorem identify (x0 : Nat) : Statement (.identify x0) := spells_none _
theorem status (x0 : Nat) : Statement (.status x0) := spells_none _
theorem opcodes (x0 : Nat) : Statement (.opcodes x0) := spells_none _
theorem hedgeCreate (x0 : Nat) : Statement (.hedgeCreate x0) := spells_none _
theorem hedgeDestroy (x0 : Nat) : Statement (.hedgeDestroy x0) := spells_none _
theorem hedgeAssign (x0 : Nat) : Statement (.hedgeAssign x0) := spells_none _
theorem hedgeCadence (x0 : Nat) : Statement (.hedgeCadence x0) := spells_none _
theorem hedgeQuery (x0 : Nat) : Statement (.hedgeQuery x0) := spells_none _
theorem queueAssign (x0 : Nat) : Statement (.queueAssign x0) := spells_none _
theorem queueCreate (x0 : Nat) : Statement (.queueCreate x0) := spells_none _
theorem queueDestroy (x0 : Nat) : Statement (.queueDestroy x0) := spells_none _
theorem queueQuery (x0 : Nat) : Statement (.queueQuery x0) := spells_none _
theorem imageBind (x0 : Nat) : Statement (.imageBind x0) := spells_none _
theorem imageUnbind (x0 : Nat) : Statement (.imageUnbind x0) := spells_none _
theorem imageQuery (x0 : Nat) : Statement (.imageQuery x0) := spells_none _
theorem memoryPlots (x0 : Nat) : Statement (.memoryPlots x0) := spells_none _
theorem memoryMap (x0 : Nat) : Statement (.memoryMap x0) := spells_none _
theorem memoryBar2Size (x0 : Nat) : Statement (.memoryBar2Size x0) := spells_none _
theorem memoryQuery (x0 : Nat) : Statement (.memoryQuery x0) := spells_none _
theorem kvcRegion (x0 : Nat) : Statement (.kvcRegion x0) := spells_none _
theorem kvcClaim (x0 : Nat) : Statement (.kvcClaim x0) := spells_none _
theorem kvcQuery (x0 : Nat) : Statement (.kvcQuery x0) := spells_none _
theorem atuWindow (x0 : Nat) : Statement (.atuWindow x0) := spells_none _
theorem atuPasid (x0 : Nat) : Statement (.atuPasid x0) := spells_none _
theorem atuInvalidate (x0 : Nat) : Statement (.atuInvalidate x0) := spells_none _
theorem atuQuery (x0 : Nat) : Statement (.atuQuery x0) := spells_none _
theorem sorusConfig (x0 : Nat) : Statement (.sorusConfig x0) := spells_none _
theorem sorusTrigger (x0 : Nat) : Statement (.sorusTrigger x0) := spells_none _
theorem sorusSlowRead (x0 : Nat) (x1 : List (List (Int × Int))) : Statement (.sorusSlowRead x0 x1) := spells_none _
theorem sorusOpenWireTest (x0 : Nat) (x1 : List (List (Int × Int))) : Statement (.sorusOpenWireTest x0 x1) := spells_none _
theorem sorusCalibrate (x0 : Nat) (x1 : List (List (Nat × Nat))) : Statement (.sorusCalibrate x0 x1) := spells_none _
theorem sorusStatus (x0 : Nat) : Statement (.sorusStatus x0) := spells_none _
theorem lichenLoopStatus (x0 : Nat) : Statement (.lichenLoopStatus x0) := spells_none _
theorem lichenLoopConfig (x0 : Nat) : Statement (.lichenLoopConfig x0) := spells_none _
theorem lichenLoopCalibrate (x0 : Nat) : Statement (.lichenLoopCalibrate x0) := spells_none _
theorem lichenAlarmConfig (x0 : Nat) : Statement (.lichenAlarmConfig x0) := spells_none _
theorem lichenRtc (x0 : Nat) : Statement (.lichenRtc x0) := spells_none _
theorem lichenLogRead (x0 : Nat) : Statement (.lichenLogRead x0) := spells_none _
theorem lichenHartConfig (x0 : Nat) : Statement (.lichenHartConfig x0) := spells_none _
theorem denbenPortConfig (x0 : Nat) : Statement (.denbenPortConfig x0) := spells_none _
theorem denbenPortStatus (x0 : Nat) : Statement (.denbenPortStatus x0) := spells_none _
theorem denbenDccMap (x0 : Nat) : Statement (.denbenDccMap x0) := spells_none _
theorem denbenRetrain (x0 : Nat) : Statement (.denbenRetrain x0) := spells_none _
theorem twinConfig (x0 : Nat) : Statement (.twinConfig x0) := spells_none _
theorem twinRole (x0 : Nat) : Statement (.twinRole x0) := spells_none _
theorem twinMirror (x0 : Nat) : Statement (.twinMirror x0) := spells_none _
theorem twinVeto (x0 : Nat) : Statement (.twinVeto x0) := spells_none _
theorem twinResync (x0 : Nat) : Statement (.twinResync x0) := spells_none _
theorem twinStatus (x0 : Nat) : Statement (.twinStatus x0) := spells_none _
theorem telemetryRead (x0 : Nat) (x1 : Nat) : Statement (.telemetryRead x0 x1) := spells_none _
theorem telemetryHedge (x0 : Nat) : Statement (.telemetryHedge x0) := spells_none _
theorem debugStoreRead (x0 : Nat) : Statement (.debugStoreRead x0) := spells_none _
theorem debugStoreWrite (x0 : Nat) : Statement (.debugStoreWrite x0) := spells_none _
theorem debugFrond (x0 : Nat) : Statement (.debugFrond x0) := spells_none _
theorem debugTrace (x0 : Nat) : Statement (.debugTrace x0) := spells_none _
theorem debugProfile (x0 : Nat) : Statement (.debugProfile x0) := spells_none _
theorem lifecycleRead (x0 : Nat) : Statement (.lifecycleRead x0) := spells_none _
theorem lifecycleTransition (x0 : Nat) (x1 : Nat) : Statement (.lifecycleTransition x0 x1) := spells_none _
theorem lifecycleKeyWrite (x0 : Nat) : Statement (.lifecycleKeyWrite x0) := spells_none _
theorem firmwarePush (x0 : Nat) : Statement (.firmwarePush x0) := spells_none _
theorem firmwareStatus (x0 : Nat) : Statement (.firmwareStatus x0) := spells_none _
theorem firmwareSelect (x0 : Nat) : Statement (.firmwareSelect x0) := spells_none _
theorem atsCompletion (x0 : Nat) (x1 : AtsRes) : Statement (.atsCompletion x0 x1) := spells_none _
theorem atsInvalidateRequest (x0 : Nat) (x1 : Nat) (x2 : Option Nat) (x3 : Nat) (x4 : Nat) (x5 : Bool) : Statement (.atsInvalidateRequest x0 x1 x2 x3 x4 x5) := spells_none _
theorem pageRequestResponse (x0 : Nat) (x1 : Nat) : Statement (.pageRequestResponse x0 x1) := spells_none _
theorem atuWinLostClear (x0 : Nat) (x1 : Dword) (x2 : Dword) : Statement (.atuWinLostClear x0 x1 x2) := spells_none _
theorem atuClrFaults (x0 : Nat) : Statement (.atuClrFaults x0) := spells_none _
theorem outboundCompletion (x0 : Nat) (x1 : Nat) (x2 : List Byte) (x3 : List (Nat × Bool)) : Statement (.outboundCompletion x0 x1 x2 x3) := spells_none _
theorem completionTimeout (x0 : Nat) : Statement (.completionTimeout x0) := spells_none _
theorem inboundAtomicop (x0 : Nat) (x1 : Nat) (x2 : Nat) (x3 : Nat) (x4 : Nat) (x5 : Nat) (x6 : Nat) (x7 : Bool) (x8 : Nat) : Statement (.inboundAtomicop x0 x1 x2 x3 x4 x5 x6 x7 x8) := spells_none _
theorem atomicWritebackDone (x0 : Nat) : Statement (.atomicWritebackDone x0) := spells_none _
theorem loadExclusive (x0 : Nat) (x1 : Nat) (x2 : Nat) : Statement (.loadExclusive x0 x1 x2) := spells_none _
theorem storeExclusive (x0 : Nat) (x1 : Nat) (x2 : Nat) (x3 : Nat) : Statement (.storeExclusive x0 x1 x2 x3) := spells_none _
theorem coreAtomic (x0 : Nat) (x1 : Nat) (x2 : Nat) (x3 : Nat) (x4 : Nat) (x5 : Nat) : Statement (.coreAtomic x0 x1 x2 x3 x4 x5) := spells_none _
theorem reservationTimeout (x0 : Nat) : Statement (.reservationTimeout x0) := spells_none _
theorem targetTimeout (x0 : Nat) (x1 : Nat) (x2 : Nat) (x3 : Nat) (x4 : Nat) (x5 : Bool) (x6 : Nat) : Statement (.targetTimeout x0 x1 x2 x3 x4 x5 x6) := spells_none _
theorem hbrCtrlWrite (x0 : Word) : Statement (.hbrCtrlWrite x0) := spells_none _
theorem hbrClrRfails (x0 : Nat) : Statement (.hbrClrRfails x0) := spells_none _
theorem hbrClrWfails (x0 : Nat) : Statement (.hbrClrWfails x0) := spells_none _
theorem pbrClrRfails (x0 : Nat) : Statement (.pbrClrRfails x0) := spells_none _
theorem pbrClrWfails (x0 : Nat) : Statement (.pbrClrWfails x0) := spells_none _
theorem clrLv (x0 : Nat) : Statement (.clrLv x0) := spells_none _
theorem storeApertureRead (x0 : Path) (x1 : Nat) (x2 : Nat) (x3 : Nat) : Statement (.storeApertureRead x0 x1 x2 x3) := spells_none _
theorem storeApertureWrite (x0 : Path) (x1 : Nat) (x2 : Nat) (x3 : Nat) (x4 : Dword) : Statement (.storeApertureWrite x0 x1 x2 x3 x4) := spells_none _
theorem programApertureWrite (x0 : Path) (x1 : Nat) (x2 : Nat) (x3 : Dword) : Statement (.programApertureWrite x0 x1 x2 x3) := spells_none _
theorem registerMirrorRead (x0 : Path) (x1 : Nat) (x2 : Nat) : Statement (.registerMirrorRead x0 x1 x2) := spells_none _
theorem jtagDbgAccess (x0 : Nat) (x1 : Nat) (x2 : Option Dword) (x3 : Dword) : Statement (.jtagDbgAccess x0 x1 x2 x3) := spells_none _
theorem clrViol (x0 : Nat) : Statement (.clrViol x0) := spells_none _
theorem dbgClrLost (x0 : Nat) : Statement (.dbgClrLost x0) := spells_none _
theorem trigInEdge (x0 : Nat) (x1 : Bool) (x2 : List (Int × Int)) : Statement (.trigInEdge x0 x1 x2) := spells_none _
theorem periodicTrigger (x0 : Nat) (x1 : List (Int × Int)) : Statement (.periodicTrigger x0 x1) := spells_none _
theorem pairTrigger (x0 : Nat) (x1 : List (Int × Int)) : Statement (.pairTrigger x0 x1) := spells_none _
theorem softwareTrigger (x0 : Nat) (x1 : List (Int × Int)) : Statement (.softwareTrigger x0 x1) := spells_none _
theorem refSettle (x0 : Nat) (x1 : Nat) (x2 : Nat) : Statement (.refSettle x0 x1 x2) := spells_none _
theorem refWindowLoss (x0 : Nat) (x1 : Nat) : Statement (.refWindowLoss x0 x1) := spells_none _
theorem refSettleTimeout (x0 : Nat) : Statement (.refSettleTimeout x0) := spells_none _
theorem sorCtrlWrite (x0 : Nat) : Statement (.sorCtrlWrite x0) := spells_none _
theorem sorTrigWrite (x0 : Nat) (x1 : Bool) (x2 : Bool) : Statement (.sorTrigWrite x0 x1 x2) := spells_none _
theorem sorChannelWrite (x0 : Nat) (x1 : Nat) (x2 : Nat) (x3 : Nat) (x4 : Nat) : Statement (.sorChannelWrite x0 x1 x2 x3 x4) := spells_none _
theorem sorRingCfgWrite (x0 : Nat) (x1 : Word) : Statement (.sorRingCfgWrite x0 x1) := spells_none _
theorem sorRingChWrite (x0 : Nat) (x1 : Nat) : Statement (.sorRingChWrite x0 x1) := spells_none _
theorem sorTrimWrite (x0 : Nat) (x1 : Nat) (x2 : Nat) (x3 : Nat) : Statement (.sorTrimWrite x0 x1 x2 x3) := spells_none _
theorem clrMissed (x0 : Nat) : Statement (.clrMissed x0) := spells_none _
theorem clrRing (x0 : Nat) : Statement (.clrRing x0) := spells_none _
theorem sorusRailsLost : Statement (.sorusRailsLost) := spells_none _
theorem sorusRailsReturn : Statement (.sorusRailsReturn) := spells_none _
theorem loopDomainReset : Statement (.loopDomainReset) := spells_none _
theorem loopDomainStart : Statement (.loopDomainStart) := spells_none _
theorem cstoreJobAdmit (x0 : Nat) (x1 : Nat) : Statement (.cstoreJobAdmit x0 x1) := spells_none _
theorem loopInputAccept (x0 : Nat) : Statement (.loopInputAccept x0) := spells_none _
theorem loopStale (x0 : Nat) : Statement (.loopStale x0) := spells_none _
theorem loopHostAbsent : Statement (.loopHostAbsent) := spells_none _
theorem coreFrameTimeout : Statement (.coreFrameTimeout) := spells_none _
theorem openLoop (x0 : Nat) : Statement (.openLoop x0) := spells_none _
theorem openLoopClear (x0 : Nat) : Statement (.openLoopClear x0) := spells_none _
theorem noCompliance (x0 : Nat) : Statement (.noCompliance x0) := spells_none _
theorem noComplianceClear (x0 : Nat) : Statement (.noComplianceClear x0) := spells_none _
theorem sensorConversion (x0 : Nat) (x1 : Word) : Statement (.sensorConversion x0 x1) := spells_none _
theorem calibrationTimeout (x0 : Nat) : Statement (.calibrationTimeout x0) := spells_none _
theorem loopNvmWriteDone : Statement (.loopNvmWriteDone) := spells_none _
theorem hartCmd0 : Statement (.hartCmd0) := spells_none _
theorem hartCmd1 : Statement (.hartCmd1) := spells_none _
theorem hartCmd2 : Statement (.hartCmd2) := spells_none _
theorem hartCmd3 (x0 : Word) : Statement (.hartCmd3 x0) := spells_none _
theorem hartCmd6 (x0 : Nat) (x1 : Nat) : Statement (.hartCmd6 x0 x1) := spells_none _
theorem hartCmd7 : Statement (.hartCmd7) := spells_none _
theorem hartCmd8 : Statement (.hartCmd8) := spells_none _
theorem hartCmd9 (x0 : List Byte) (x1 : Word) : Statement (.hartCmd9 x0 x1) := spells_none _
theorem hartCmd11 (x0 : List Byte) : Statement (.hartCmd11 x0) := spells_none _
theorem hartCmd12 : Statement (.hartCmd12) := spells_none _
theorem hartCmd13 : Statement (.hartCmd13) := spells_none _
theorem hartCmd14 : Statement (.hartCmd14) := spells_none _
theorem hartCmd15 : Statement (.hartCmd15) := spells_none _
theorem hartCmd16 : Statement (.hartCmd16) := spells_none _
theorem hartCmd17 (x0 : List Byte) : Statement (.hartCmd17 x0) := spells_none _
theorem hartCmd18 (x0 : List Byte) : Statement (.hartCmd18 x0) := spells_none _
theorem hartCmd19 (x0 : List Byte) : Statement (.hartCmd19 x0) := spells_none _
theorem hartCmd20 : Statement (.hartCmd20) := spells_none _
theorem hartCmd21 (x0 : List Byte) : Statement (.hartCmd21 x0) := spells_none _
theorem hartCmd22 (x0 : List Byte) : Statement (.hartCmd22 x0) := spells_none _
theorem hartCmd38 : Statement (.hartCmd38) := spells_none _
theorem hartCmd48 : Statement (.hartCmd48) := spells_none _
theorem hartReadLoopConfiguration : Statement (.hartReadLoopConfiguration) := spells_none _
theorem hartWriteFailureConfig (x0 : Nat) (x1 : Nat) (x2 : Nat) (x3 : Nat) (x4 : Nat) : Statement (.hartWriteFailureConfig x0 x1 x2 x3 x4) := spells_none _
theorem hartSetFixedCurrent (x0 : Nat) : Statement (.hartSetFixedCurrent x0) := spells_none _
theorem hartReadLoopDiagnostics : Statement (.hartReadLoopDiagnostics) := spells_none _
theorem hartReadAcceleratorLink : Statement (.hartReadAcceleratorLink) := spells_none _
theorem hartReadSensorConfiguration : Statement (.hartReadSensorConfiguration) := spells_none _
theorem hartWriteSensorConfiguration (x0 : Word) (x1 : Word) (x2 : Nat) : Statement (.hartWriteSensorConfiguration x0 x1 x2) := spells_none _
theorem hartWriteRangeValues (x0 : Word) (x1 : Word) (x2 : Nat) : Statement (.hartWriteRangeValues x0 x1 x2) := spells_none _
theorem hartReadAlarmInputs : Statement (.hartReadAlarmInputs) := spells_none _
theorem hartUnimplementedCommand (x0 : Nat) : Statement (.hartUnimplementedCommand x0) := spells_none _
theorem clrRejected (x0 : Nat) : Statement (.clrRejected x0) := spells_none _
theorem clrHart (x0 : Nat) : Statement (.clrHart x0) := spells_none _
theorem vstbyFall : Statement (.vstbyFall) := spells_none _
theorem vstbyRise (x0 : Nat) (x1 : Nat) : Statement (.vstbyRise x0 x1) := spells_none _
theorem vbatLoss (x0 : Nat) : Statement (.vbatLoss x0) := spells_none _
theorem cellTest (x0 : Nat) : Statement (.cellTest x0) := spells_none _
theorem alarmSample (x0 : Nat) : Statement (.alarmSample x0) := spells_none _
theorem overtempLatchTrip (x0 : Int) : Statement (.overtempLatchTrip x0) := spells_none _
theorem overtempLatchRelease (x0 : Int) : Statement (.overtempLatchRelease x0) := spells_none _
theorem recordNvmWrite : Statement (.recordNvmWrite) := spells_none _
theorem logDelivery : Statement (.logDelivery) := spells_none _
theorem watchdogKick (x0 : Option Nat) : Statement (.watchdogKick x0) := spells_none _
theorem watchdogReset (x0 : Nat) : Statement (.watchdogReset x0) := spells_none _
theorem jtagCoreHalt (x0 : Nat) : Statement (.jtagCoreHalt x0) := spells_none _
theorem corePowerUp (x0 : Bool) : Statement (.corePowerUp x0) := spells_none _
theorem lifecycleRedo : Statement (.lifecycleRedo) := spells_none _
theorem lifecycleCommit : Statement (.lifecycleCommit) := spells_none _
theorem frameReceive (x0 : Nat) (x1 : Nat) (x2 : List Byte) : Statement (.frameReceive x0 x1 x2) := spells_none _
theorem frameTransmit (x0 : Nat) (x1 : Nat) : Statement (.frameTransmit x0 x1) := spells_none _
theorem dlosTimer (x0 : Nat) (x1 : Nat) (x2 : Nat) : Statement (.dlosTimer x0 x1 x2) := spells_none _
theorem widthRequest (x0 : Nat) : Statement (.widthRequest x0) := spells_none _
theorem widthRestore (x0 : Nat) : Statement (.widthRestore x0) := spells_none _
theorem retrainDefectTimeout (x0 : Nat) (x1 : Nat) : Statement (.retrainDefectTimeout x0 x1) := spells_none _
theorem retrainAttemptTimeout (x0 : Nat) (x1 : Nat) : Statement (.retrainAttemptTimeout x0 x1) := spells_none _
theorem retrainRetry (x0 : Nat) (x1 : Nat) : Statement (.retrainRetry x0 x1) := spells_none _
theorem dccExchange (x0 : Nat) (x1 : Nat) : Statement (.dccExchange x0 x1) := spells_none _
theorem frmClearWrite (x0 : Nat) (x1 : Nat) (x2 : Nat) : Statement (.frmClearWrite x0 x1 x2) := spells_none _
theorem twinRefclkLoss (x0 : Nat) : Statement (.twinRefclkLoss x0) := spells_none _
theorem heartbeatTick (x0 : Nat) : Statement (.heartbeatTick x0) := spells_none _
theorem fencePulse (x0 : Nat) : Statement (.fencePulse x0) := spells_none _
theorem fenceInEdge (x0 : Nat) : Statement (.fenceInEdge x0) := spells_none _
theorem heartbeatMissing (x0 : Nat) : Statement (.heartbeatMissing x0) := spells_none _
theorem fenceAbsent (x0 : Nat) : Statement (.fenceAbsent x0) := spells_none _
theorem dccPStatusMessage : Statement (.dccPStatusMessage) := spells_none _
theorem dccPLoopMessage : Statement (.dccPLoopMessage) := spells_none _
theorem sourceCurrentRead (x0 : Nat) : Statement (.sourceCurrentRead x0) := spells_none _
theorem epochClose (x0 : Nat) : Statement (.epochClose x0) := spells_none _
theorem mirrorDataRecord : Statement (.mirrorDataRecord) := spells_none _
theorem mirrorQueueRecord : Statement (.mirrorQueueRecord) := spells_none _
theorem mirrorStaleRecord : Statement (.mirrorStaleRecord) := spells_none _
theorem mirrorCloseRecord : Statement (.mirrorCloseRecord) := spells_none _
theorem mirrorResultRecord : Statement (.mirrorResultRecord) := spells_none _
theorem syncRound (x0 : Nat) : Statement (.syncRound x0) := spells_none _
theorem configDiscordTimeout (x0 : Nat) : Statement (.configDiscordTimeout x0) := spells_none _
theorem failoverHoldEnd (x0 : Nat) : Statement (.failoverHoldEnd x0) := spells_none _
theorem termWriteDone : Statement (.termWriteDone) := spells_none _
theorem twnClrLocalWrites (x0 : Nat) : Statement (.twnClrLocalWrites x0) := spells_none _
theorem twnClrResultDiscords (x0 : Nat) : Statement (.twnClrResultDiscords x0) := spells_none _
theorem stageS2 (x0 : Nat) (x1 : Bool) : Statement (.stageS2 x0 x1) := spells_none _
theorem stageS3 (x0 : Nat) (x1 : List (Nat × Nat × Nat)) : Statement (.stageS3 x0 x1) := spells_none _
theorem stageS4 (x0 : Nat) (x1 : Nat) (x2 : Option Nat) : Statement (.stageS4 x0 x1 x2) := spells_none _
theorem stageS5 (x0 : Nat) (x1 : Nat) : Statement (.stageS5 x0 x1) := spells_none _
theorem stageS6 (x0 : Nat) : Statement (.stageS6 x0) := spells_none _
theorem stageS7 (x0 : Nat) : Statement (.stageS7 x0) := spells_none _
theorem bootBackoffEnd (x0 : Nat) (x1 : List (Nat × Nat × Nat)) : Statement (.bootBackoffEnd x0 x1) := spells_none _
theorem lichenLinkRetry (x0 : Nat) (x1 : Bool) : Statement (.lichenLinkRetry x0 x1) := spells_none _
theorem brackenRetest (x0 : Nat) (x1 : Nat) (x2 : Bool) : Statement (.brackenRetest x0 x1 x2) := spells_none _
theorem bootConfirm (x0 : Nat) : Statement (.bootConfirm x0) := spells_none _
theorem bootEventDelivery : Statement (.bootEventDelivery) := spells_none _
theorem gblIrqMaskWrite (x0 : Nat) : Statement (.gblIrqMaskWrite x0) := spells_none _
theorem railsSettled : Statement (.railsSettled) := spells_none _
theorem railDip : Statement (.railDip) := spells_none _
theorem smbusIdentity : Statement (.smbusIdentity) := spells_none _
theorem smbusService : Statement (.smbusService) := spells_none _
theorem smbusTjMax : Statement (.smbusTjMax) := spells_none _
theorem smbusStackTemperature : Statement (.smbusStackTemperature) := spells_none _
theorem smbusPower (x0 : Nat) : Statement (.smbusPower x0) := spells_none _
theorem smbusVddFab : Statement (.smbusVddFab) := spells_none _
theorem smbusActivePoint : Statement (.smbusActivePoint) := spells_none _
theorem smbusLifeCycle : Statement (.smbusLifeCycle) := spells_none _
theorem smbusFlags : Statement (.smbusFlags) := spells_none _
theorem smbusOther : Statement (.smbusOther) := spells_none _
theorem stackTemperatureChange (x0 : Nat) (x1 : Int) : Statement (.stackTemperatureChange x0 x1) := spells_none _
theorem loopPresentLoss : Statement (.loopPresentLoss) := spells_none _
theorem hartFrameError : Statement (.hartFrameError) := spells_none _
theorem jtagCoreResume (x0 : Nat) : Statement (.jtagCoreResume x0) := spells_none _
theorem twinRefclkReturn (x0 : Nat) : Statement (.twinRefclkReturn x0) := spells_none _
theorem laneMarker (x0 : Nat) (x1 : Nat) (x2 : Nat) (x3 : Bool) (x4 : Nat) (x5 : Nat) (x6 : Nat) : Statement (.laneMarker x0 x1 x2 x3 x4 x5 x6) := spells_none _

end Sys2Proof.Laws.Words
end

