-- ==== Sys2Proof/Laws/Regs.lean ====
section
/-!
SUPPORT. Sys2Proof/Laws/Regs.lean: registers and fields after a write of one of them.
-/

namespace Sys2Proof.Machine

/-! ### Bits of a word -/

theorem getBits_testBit (x : Dword) (lo w i : Nat) :
    (getBits x lo w).testBit i = (decide (i < w) && x.getLsbD (lo + i)) := by
  simp [getBits, Nat.testBit_mod_two_pow, Nat.testBit_shiftRight, BitVec.getLsbD]

theorem getBits_lt (x : Dword) (lo w : Nat) : getBits x lo w < 2 ^ w := Nat.mod_lt _ (Nat.two_pow_pos w)

theorem setBits_getLsbD (x : Dword) (lo w v i : Nat) :
    (setBits x lo w v).getLsbD i =
      if i < 64 ∧ lo ≤ i ∧ i < lo + w then v.testBit (i - lo) else x.getLsbD i := by
  have hm : ∀ n : Nat, (BitVec.ofNat 64 n).getLsbD i = (decide (i < 64) && n.testBit i) := fun n => BitVec.getLsbD_ofNat 64 n i
  simp only [setBits, BitVec.getLsbD_or, BitVec.getLsbD_and, BitVec.getLsbD_not, hm, Nat.testBit_shiftLeft,
    Nat.testBit_mod_two_pow, Nat.testBit_two_pow_sub_one]
  by_cases h64 : i < 64
  · by_cases hlo : lo ≤ i
    · by_cases hw : i < lo + w
      · have : i - lo < w := by omega
        simp only [h64, hlo, hw, this]; simp
      · have : ¬ i - lo < w := by omega
        simp only [h64, hlo, hw, this]; simp
    · simp only [h64, hlo]; simp
  · simp [h64, BitVec.getLsbD_of_ge x i (Nat.le_of_not_lt h64)]

/-- A field that lies in the word reads back what was written to it, at its width. -/
theorem getBits_setBits_same (x : Dword) {lo w : Nat} (v : Nat) (h : lo + w ≤ 64) :
    getBits (setBits x lo w v) lo w = v % 2 ^ w := by
  apply Nat.eq_of_testBit_eq
  intro i
  rw [getBits_testBit, setBits_getLsbD, Nat.testBit_mod_two_pow]
  by_cases hi : i < w
  · have : lo + i < 64 := by omega
    simp [hi, this]
  · simp [hi]

/-- A field that shares no bit with the one written is as it was. -/
theorem getBits_setBits_disjoint (x : Dword) {lo w lo' w' : Nat} (v : Nat) (h : lo' + w' ≤ lo ∨ lo + w ≤ lo') :
    getBits (setBits x lo w v) lo' w' = getBits x lo' w' := by
  apply Nat.eq_of_testBit_eq
  intro i
  rw [getBits_testBit, getBits_testBit, setBits_getLsbD]
  by_cases hi : i < w'
  · have : ¬ (lo' + i < 64 ∧ lo ≤ lo' + i ∧ lo' + i < lo + w) := by omega
    simp [hi, this]
  · simp [hi]

/-! ### The register file -/

@[simp] theorem Part.reg_setReg_same (p : Part) (k : Nat) (v : Dword) : (p.setReg k v).reg k = v :=
  Tab.get_put_same 0 k v p.regs

theorem Part.reg_setReg_ne (p : Part) {k j : Nat} (h : j ≠ k) (v : Dword) : (p.setReg k v).reg j = p.reg j :=
  Tab.get_put_ne 0 h v p.regs

theorem Part.reg_setReg (p : Part) (k j : Nat) (v : Dword) : (p.setReg k v).reg j = if j = k then v else p.reg j :=
  Tab.get_put 0 k j v p.regs

theorem Part.reg_fs_ne (p : Part) (f : Fld) (v : Nat) {j : Nat} (h : j ≠ f.reg) : (p.fs f v).reg j = p.reg j :=
  p.reg_setReg_ne h _

@[simp] theorem Part.reg_fs_same (p : Part) (f : Fld) (v : Nat) :
    (p.fs f v).reg f.reg = setBits (p.reg f.reg) f.lo f.w v := p.reg_setReg_same _ _

/-- A field reads back what was written to it. -/
theorem Part.fg_fs_same (p : Part) (f : Fld) (v : Nat) (h : f.lo + f.w ≤ 64) : (p.fs f v).fg f = v % 2 ^ f.w := by
  unfold Part.fg
  rw [Part.reg_fs_same]
  exact getBits_setBits_same _ v h

/-- A write of one field leaves a field of another register as it was. -/
theorem Part.fg_fs_reg_ne (p : Part) (f g : Fld) (v : Nat) (h : g.reg ≠ f.reg) : (p.fs f v).fg g = p.fg g := by
  unfold Part.fg
  rw [p.reg_fs_ne f v h]

/-- A write of one field leaves the other fields of its register as they were. -/
theorem Part.fg_fs_disjoint (p : Part) (f g : Fld) (v : Nat) (hr : g.reg = f.reg)
    (h : g.lo + g.w ≤ f.lo ∨ f.lo + f.w ≤ g.lo) : (p.fs f v).fg g = p.fg g := by
  unfold Part.fg
  rw [hr, Part.reg_fs_same]
  exact getBits_setBits_disjoint _ v h

theorem Part.fg_lt (p : Part) (f : Fld) : p.fg f < 2 ^ f.w := getBits_lt _ _ _

end Sys2Proof.Machine
end

