-- ==== Sys2Proof/Tests/Slice0.lean ====
section
/-!
SUPPORT. Sys2Proof/Tests/Slice0.lean: the author's tests. First ill-formed operands that the well-formedness checks refuse; then a few values from outside the
model and a few single steps; then one witness theorem for each statement of Certificates/Slice0/Obligations.lean, each conjunct of which gives a state and operands,
at the ends of their ranges where a clause has ranges, that meet all hypotheses of one clause together.
-/

namespace Sys2Proof.Machine.Tests

open Sys2Proof

set_option Elab.async false

/-! ### Well-formedness -/

/-- Frond instructions at the ends of their operands' ranges (R144, R146). -/
theorem test_fop_wf_1 : ([
   .br 2047, .beq 31 31 2047, .bne 31 31 2047, .blt 31 31 2047, .loop false 31 65535 2047, .li 31 0, .add 31 31 31, .sub 31 31 31, .mul 31 31 31,
   .band 31 31 31, .bor 31 31 31, .bxor 31 31 31, .addi 31 31 0, .shl 31 31 31, .shr 31 31 31, .sra 31 31 31, .ld 31 31 0, .st 31 31 0, .getst 31,
   .tget 31 15 7, .tset 15 31 7, .vget 31 15 31, .vset 15 31 31, .ldt 15 31 0, .stt 31 15 0, .recv 15 31 15, .recvp 15 31 15, .test 31 15,
   .waitany 31 65535, .send 15 15, .sendeos 15, .sendpsn 31 31 15, .fwd 31 15 15, .mcfg 15 7, .mac 15 31 63 false false, .accrd 15 63 false,
   .accwr 15 63, .vadd 15 15 15, .vsub 15 15 15, .vmul 15 15 15, .vfma 15 15 15, .vmax 15 15 15, .vmin 15 15 15, .vscl 15 15 31, .vofs 15 15 31,
   .vexp 15 15, .vlog 15 15, .vtanh 15 15, .vsigm 15 15, .vrcp 15 15, .vrsqrt 15 15, .vsilu 15 15, .vrsum 15 15, .vrmax 15 15, .vmov 15 15,
   .vunpk 15 15 15 4294967295, .vpack 15 15 15 4294967295, .vld 15 31 0, .vst 31 15 0, .vbcast 15 31] : List FOp).all (fun c => c.wf) = true := by decide

/-- Frond instructions at the ends of their operands' ranges (R144, R146). -/
theorem test_fop_wf_2 : ([
   .evt 31 31 15 63] : List FOp).all (fun c => c.wf) = true := by decide

/-- One ill-formed frond instruction for each check of `FOp.wf`. -/
theorem test_fop_ill_1 : ([
   .br 2048, .beq 32 31 2047, .beq 31 32 2047, .beq 31 31 2048, .bne 32 31 2047, .bne 31 32 2047, .bne 31 31 2048, .blt 32 31 2047, .blt 31 32 2047,
   .blt 31 31 2048, .loop false 32 65535 2047, .loop false 31 65536 2047, .loop false 31 65535 2048, .li 32 0, .add 32 31 31, .add 31 32 31,
   .add 31 31 32, .sub 32 31 31, .sub 31 32 31, .sub 31 31 32, .mul 32 31 31, .mul 31 32 31, .mul 31 31 32, .band 32 31 31, .band 31 32 31,
   .band 31 31 32, .bor 32 31 31, .bor 31 32 31, .bor 31 31 32, .bxor 32 31 31, .bxor 31 32 31, .bxor 31 31 32, .addi 32 31 0, .addi 31 32 0,
   .shl 32 31 31, .shl 31 32 31, .shl 31 31 32, .shr 32 31 31, .shr 31 32 31, .shr 31 31 32, .sra 32 31 31, .sra 31 32 31, .sra 31 31 32, .ld 32 31 0,
   .ld 31 32 0, .st 32 31 0, .st 31 32 0, .getst 32, .tget 32 15 7, .tget 31 16 7, .tget 31 15 8, .tset 16 31 7, .tset 15 32 7, .tset 15 31 8,
   .vget 32 15 31, .vget 31 16 31, .vget 31 15 32, .vset 16 31 31, .vset 15 32 31, .vset 15 31 32] : List FOp).all (fun c => !c.wf) = true := by decide

/-- One ill-formed frond instruction for each check of `FOp.wf`. -/
theorem test_fop_ill_2 : ([
   .ldt 16 31 0, .ldt 15 32 0, .stt 32 15 0, .stt 31 16 0, .recv 16 31 15, .recv 15 32 15, .recv 15 31 16, .recvp 16 31 15, .recvp 15 32 15,
   .recvp 15 31 16, .test 32 15, .test 31 16, .waitany 32 65535, .waitany 31 65536, .send 16 15, .send 15 16, .sendeos 16, .sendpsn 32 31 15,
   .sendpsn 31 32 15, .sendpsn 31 31 16, .fwd 32 15 15, .fwd 31 16 15, .fwd 31 15 16, .mcfg 16 7, .mcfg 15 8, .mac 16 31 63 false false,
   .mac 15 32 63 false false, .mac 15 31 64 false false, .accrd 16 63 false, .accrd 15 64 false, .accwr 16 63, .accwr 15 64, .vadd 16 15 15,
   .vadd 15 16 15, .vadd 15 15 16, .vsub 16 15 15, .vsub 15 16 15, .vsub 15 15 16, .vmul 16 15 15, .vmul 15 16 15, .vmul 15 15 16, .vfma 16 15 15,
   .vfma 15 16 15, .vfma 15 15 16, .vmax 16 15 15, .vmax 15 16 15, .vmax 15 15 16, .vmin 16 15 15, .vmin 15 16 15, .vmin 15 15 16, .vscl 16 15 31,
   .vscl 15 16 31, .vscl 15 15 32, .vofs 16 15 31, .vofs 15 16 31, .vofs 15 15 32, .vexp 16 15, .vexp 15 16, .vlog 16 15, .vlog 15 16] : List FOp).all (fun c => !c.wf) = true := by decide

/-- One ill-formed frond instruction for each check of `FOp.wf`. -/
theorem test_fop_ill_3 : ([
   .vtanh 16 15, .vtanh 15 16, .vsigm 16 15, .vsigm 15 16, .vrcp 16 15, .vrcp 15 16, .vrsqrt 16 15, .vrsqrt 15 16, .vsilu 16 15, .vsilu 15 16,
   .vrsum 16 15, .vrsum 15 16, .vrmax 16 15, .vrmax 15 16, .vmov 16 15, .vmov 15 16, .vunpk 16 15 15 4294967295, .vunpk 15 16 15 4294967295,
   .vunpk 15 15 16 4294967295, .vunpk 15 15 15 (2 ^ 32), .vpack 16 15 15 4294967295, .vpack 15 16 15 4294967295, .vpack 15 15 16 4294967295,
   .vpack 15 15 15 (2 ^ 32), .vld 16 31 0, .vld 15 32 0, .vst 32 15 0, .vst 31 16 0, .vbcast 16 31, .vbcast 15 32, .evt 32 31 15 63, .evt 31 32 15 63,
   .evt 31 31 16 63, .evt 31 31 15 64] : List FOp).all (fun c => !c.wf) = true := by decide

/-- Commands at the ends of their operands' ranges. -/
theorem test_instr_wf_1 : ([
   .registerWrite .jtag 0 0 64 0 0, .rcFieldRead .jtag 0 0 64 0, .telVlCtrlWrite 7 7, .cadenceLower 15, .tempoRestored 15, .tempoGateWrite 15,
   .cadenceFloorWrite 15 65535 false, .bandChange 63 0, .startToken 4079, .stopToken 4079, .programStoreWrite 4079 2047 0,
   .routerToken 63 52 .hedge ⟨0, 0, 0, 0⟩, .creditReturn 15 255 0, .hubToken 7 ⟨0, 0, 0, 0⟩, .fabHedgeStall 15 0, .gwRouteWrite 31 0, .fNop 4079,
   .fBr 4079 2047, .fBeq 4079 31 31 2047, .fBne 4079 31 31 2047, .fBlt 4079 31 31 2047, .fLoop 4079 false 31 65535 2047, .fHalt 4079, .fLi 4079 31 0,
   .fAdd 4079 31 31 31, .fSub 4079 31 31 31, .fAddi 4079 31 31 0, .fMul 4079 31 31 31, .fAnd 4079 31 31 31, .fOr 4079 31 31 31, .fXor 4079 31 31 31,
   .fShl 4079 31 31 31, .fShr 4079 31 31 31, .fSra 4079 31 31 31, .fLd 4079 31 31 0, .fSt 4079 31 31 0, .fGetst 4079 31, .fTget 4079 31 15 7,
   .fTset 4079 15 31 7, .fVget 4079 31 15 31, .fVset 4079 15 31 31, .fLdt 4079 15 31 0, .fStt 4079 31 15 0, .fRecv 4079 15 31 15,
   .fRecvp 4079 15 31 15, .fTest 4079 31 15, .fWaitany 4079 31 65535, .fSend 4079 15 15, .fSendeos 4079 15, .fSendpsn 4079 31 31 15,
   .fFwd 4079 31 15 15, .fStreamWaitResume 4079, .fMcfg 4079 15 7, .fMac 4079 15 31 63 false false, .fAccrd 4079 15 63 false, .fAccwr 4079 15 63,
   .fVadd 4079 15 15 15, .fVsub 4079 15 15 15, .fVmul 4079 15 15 15, .fVfma 4079 15 15 15] : List Instr).all (fun c => c.wf) = true := by decide

/-- Commands at the ends of their operands' ranges. -/
theorem test_instr_wf_2 : ([
   .fVmax 4079 15 15 15, .fVmin 4079 15 15 15, .fVscl 4079 15 15 31, .fVofs 4079 15 15 31, .fVexp 4079 15 15, .fVlog 4079 15 15, .fVtanh 4079 15 15,
   .fVsigm 4079 15 15, .fVrcp 4079 15 15, .fVrsqrt 4079 15 15, .fVsilu 4079 15 15, .fVrsum 4079 15 15, .fVrmax 4079 15 15,
   .fVunpk 4079 15 15 15 4294967295, .fVpack 4079 15 15 15 4294967295, .fVld 4079 15 31 0, .fVst 4079 31 15 0, .fVbcast 4079 15 31, .fVmov 4079 15 15,
   .fEvt 4079 31 31 15 63, .imageFetchDone 16, .scheduleEntryStart 7 15 0, .scheduleDataToken 7 15 0, .scheduleEntryDone 7 15 0,
   .bufferRelease 7 15 255, .memoryStreamRead 7 15 255, .memoryStreamWrite 7 15 255, .scrubRead 7 603979775, .stalePageFill 287 262143,
   .bar2Read 15 0 0 0, .bar2Write 15 0 [] false 0, .memHot 7 0, .sliceRetrain 0 7 false, .memSliceDown 7, .slcClrCe 7 0, .slcClrUe 7 0,
   .pmapVfWrite 15 15 511 false, .kvcDecode 7 15 255, .kvcEncode 7 15 255, .kvcRegionEnableWrite 7 15 0, .kvcSmapWrite 7 15 7 0, .clrCorrupt 7 0,
   .clrFallback 7 0, .kvcClrFaults 7 0, .vfFlr 15, .epFlrDone 15, .d3hotEntry 15, .d0Return 15, .mrdlk 15, .configurationRequest 15 4095 none,
   .expansionRomRead 1048575 64 0, .gblVfIrqMaskWrite 15 15, .dbSqTail 15 0 0 0, .dbCqHead 15 0 0 0, .dbWrite64 15 0 0 0, .descriptorFetchDone 255,
   .descSendData 255, .evtHeadWrite 15 16 0, .evtCfgWrite 15 16 0, .clrLost 15 16 0] : List Instr).all (fun c => c.wf) = true := by decide

/-- Commands at the ends of their operands' ranges. -/
theorem test_instr_wf_3 : ([
   .dbClrFaults 15 0 0, .mbxDoorbell 16, .mbxCommandDone ⟨16, some (2 ^ 32 - 1)⟩, .identify 16, .status 16, .opcodes 16, .hedgeCreate 16,
   .hedgeDestroy 16, .hedgeAssign 16, .hedgeCadence 16, .hedgeQuery 16, .queueAssign 16, .queueCreate 16, .queueDestroy 16, .queueQuery 16,
   .imageBind 16, .imageUnbind 16, .imageQuery 16, .memoryPlots 16, .memoryMap 16, .memoryBar2Size 16, .memoryQuery 16, .kvcRegion 16, .kvcClaim 16,
   .kvcQuery 16, .atuWindow 16, .atuPasid 16, .atuInvalidate 16, .atuQuery 16, .sorusConfig 16, .sorusTrigger 16, .sorusSlowRead 16 [],
   .sorusOpenWireTest 16 [], .sorusCalibrate 16 [], .sorusStatus 16, .lichenLoopStatus 16, .lichenLoopConfig 16, .lichenLoopCalibrate 16,
   .lichenAlarmConfig 16, .lichenRtc 16, .lichenLogRead 16, .lichenHartConfig 16, .denbenPortConfig 16, .denbenPortStatus 16, .denbenDccMap 16,
   .denbenRetrain 16, .twinConfig 16, .twinRole 16, .twinMirror 16, .twinVeto 16, .twinResync 16, .twinStatus 16, .telemetryRead 16 0,
   .telemetryHedge 16, .debugStoreRead 16, .debugStoreWrite 16, .debugFrond 16, .debugTrace 16, .debugProfile 16, .lifecycleRead 16] : List Instr).all (fun c => c.wf) = true := by decide

/-- Commands at the ends of their operands' ranges. -/
theorem test_instr_wf_4 : ([
   .lifecycleTransition 16 0, .lifecycleKeyWrite 16, .firmwarePush 16, .firmwareStatus 16, .firmwareSelect 16,
   .atsInvalidateRequest 15 31 none 0 0 false, .pageRequestResponse 511 0, .atuWinLostClear 63 0 0, .inboundAtomicop 15 0 0 2 0 0 0 false 0,
   .loadExclusive 3 0 0, .storeExclusive 3 0 0 0, .coreAtomic 3 0 0 0 0 0, .reservationTimeout 3, .storeApertureRead .jtag 2 0 0,
   .storeApertureWrite .jtag 1 0 0 0, .registerMirrorRead .jtag 8388607 64, .jtagDbgAccess 16777215 64 none 0, .sorCtrlWrite 3,
   .sorTrigWrite 7 false false, .sorChannelWrite 31 0 0 0 0, .sorRingCfgWrite 3 0, .sorRingChWrite 3 0, .sorTrimWrite 7 3 0 0, .sensorConversion 1 0,
   .alarmSample 15, .jtagCoreHalt 3, .frameReceive 8 0 [], .frameTransmit 8 0, .dlosTimer 8 0 0, .retrainDefectTimeout 8 0, .retrainAttemptTimeout 8 0,
   .retrainRetry 8 0, .dccExchange 3 0, .frmClearWrite 8 255 0, .brackenRetest 0 63 false, .gblIrqMaskWrite 15, .stackTemperatureChange 7 0,
   .jtagCoreResume 3, .laneMarker 8 0 7 false 0 0 0] : List Instr).all (fun c => c.wf) = true := by decide

/-- One ill-formed command for each check of `Instr.wf`. -/
theorem test_instr_ill_1 : ([
   .registerWrite .jtag 0 0 7 0 0, .rcFieldRead .jtag 0 0 7 0, .telVlCtrlWrite 8 7, .telVlCtrlWrite 7 8, .cadenceLower 16, .tempoRestored 16,
   .tempoGateWrite 16, .cadenceFloorWrite 16 65535 false, .cadenceFloorWrite 15 65536 false, .bandChange 64 0, .startToken 4096, .startToken 48,
   .stopToken 4096, .stopToken 48, .programStoreWrite 4096 2047 0, .programStoreWrite 48 2047 0, .programStoreWrite 4079 2048 0,
   .routerToken 64 52 .hedge ⟨0, 0, 0, 0⟩, .routerToken 63 53 .hedge ⟨0, 0, 0, 0⟩, .creditReturn 16 255 0, .creditReturn 15 256 0,
   .hubToken 8 ⟨0, 0, 0, 0⟩, .fabHedgeStall 16 0, .gwRouteWrite 32 0, .fNop 4096, .fNop 48, .fBr 4096 2047, .fBr 48 2047, .fBr 4079 2048,
   .fBeq 4096 31 31 2047, .fBeq 48 31 31 2047, .fBeq 4079 31 31 2048, .fBne 4096 31 31 2047, .fBne 48 31 31 2047, .fBne 4079 31 31 2048,
   .fBlt 4096 31 31 2047, .fBlt 48 31 31 2047, .fBlt 4079 31 31 2048, .fLoop 4096 false 31 65535 2047, .fLoop 48 false 31 65535 2047,
   .fLoop 4079 false 31 65535 2048, .fHalt 4096, .fHalt 48, .fLi 4096 31 0, .fLi 48 31 0, .fLi 4079 32 0, .fAdd 4096 31 31 31, .fAdd 48 31 31 31,
   .fAdd 4079 31 31 32, .fSub 4096 31 31 31, .fSub 48 31 31 31, .fSub 4079 31 31 32, .fAddi 4096 31 31 0, .fAddi 48 31 31 0, .fAddi 4079 31 32 0,
   .fMul 4096 31 31 31, .fMul 48 31 31 31, .fMul 4079 31 31 32, .fAnd 4096 31 31 31, .fAnd 48 31 31 31] : List Instr).all (fun c => !c.wf) = true := by decide

/-- One ill-formed command for each check of `Instr.wf`. -/
theorem test_instr_ill_2 : ([
   .fAnd 4079 31 31 32, .fOr 4096 31 31 31, .fOr 48 31 31 31, .fOr 4079 31 31 32, .fXor 4096 31 31 31, .fXor 48 31 31 31, .fXor 4079 31 31 32,
   .fShl 4096 31 31 31, .fShl 48 31 31 31, .fShl 4079 31 31 32, .fShr 4096 31 31 31, .fShr 48 31 31 31, .fShr 4079 31 31 32, .fSra 4096 31 31 31,
   .fSra 48 31 31 31, .fSra 4079 31 31 32, .fLd 4096 31 31 0, .fLd 48 31 31 0, .fLd 4079 31 32 0, .fSt 4096 31 31 0, .fSt 48 31 31 0,
   .fSt 4079 31 32 0, .fGetst 4096 31, .fGetst 48 31, .fGetst 4079 32, .fTget 4096 31 15 7, .fTget 48 31 15 7, .fTget 4079 31 15 8,
   .fTset 4096 15 31 7, .fTset 48 15 31 7, .fTset 4079 15 31 8, .fVget 4096 31 15 31, .fVget 48 31 15 31, .fVget 4079 31 15 32, .fVset 4096 15 31 31,
   .fVset 48 15 31 31, .fVset 4079 15 31 32, .fLdt 4096 15 31 0, .fLdt 48 15 31 0, .fLdt 4079 15 32 0, .fStt 4096 31 15 0, .fStt 48 31 15 0,
   .fStt 4079 31 16 0, .fRecv 4096 15 31 15, .fRecv 48 15 31 15, .fRecv 4079 15 31 16, .fRecvp 4096 15 31 15, .fRecvp 48 15 31 15,
   .fRecvp 4079 15 31 16, .fTest 4096 31 15, .fTest 48 31 15, .fTest 4079 31 16, .fWaitany 4096 31 65535, .fWaitany 48 31 65535,
   .fWaitany 4079 31 65536, .fSend 4096 15 15, .fSend 48 15 15, .fSend 4079 15 16, .fSendeos 4096 15, .fSendeos 48 15] : List Instr).all (fun c => !c.wf) = true := by decide

/-- One ill-formed command for each check of `Instr.wf`. -/
theorem test_instr_ill_3 : ([
   .fSendeos 4079 16, .fSendpsn 4096 31 31 15, .fSendpsn 48 31 31 15, .fSendpsn 4079 31 31 16, .fFwd 4096 31 15 15, .fFwd 48 31 15 15,
   .fFwd 4079 31 15 16, .fStreamWaitResume 4096, .fStreamWaitResume 48, .fMcfg 4096 15 7, .fMcfg 48 15 7, .fMcfg 4079 15 8,
   .fMac 4096 15 31 63 false false, .fMac 48 15 31 63 false false, .fMac 4079 15 31 64 false false, .fAccrd 4096 15 63 false, .fAccrd 48 15 63 false,
   .fAccrd 4079 15 64 false, .fAccwr 4096 15 63, .fAccwr 48 15 63, .fAccwr 4079 15 64, .fVadd 4096 15 15 15, .fVadd 48 15 15 15, .fVadd 4079 15 15 16,
   .fVsub 4096 15 15 15, .fVsub 48 15 15 15, .fVsub 4079 15 15 16, .fVmul 4096 15 15 15, .fVmul 48 15 15 15, .fVmul 4079 15 15 16,
   .fVfma 4096 15 15 15, .fVfma 48 15 15 15, .fVfma 4079 15 15 16, .fVmax 4096 15 15 15, .fVmax 48 15 15 15, .fVmax 4079 15 15 16,
   .fVmin 4096 15 15 15, .fVmin 48 15 15 15, .fVmin 4079 15 15 16, .fVscl 4096 15 15 31, .fVscl 48 15 15 31, .fVscl 4079 15 15 32,
   .fVofs 4096 15 15 31, .fVofs 48 15 15 31, .fVofs 4079 15 15 32, .fVexp 4096 15 15, .fVexp 48 15 15, .fVexp 4079 15 16, .fVlog 4096 15 15,
   .fVlog 48 15 15, .fVlog 4079 15 16, .fVtanh 4096 15 15, .fVtanh 48 15 15, .fVtanh 4079 15 16, .fVsigm 4096 15 15, .fVsigm 48 15 15,
   .fVsigm 4079 15 16, .fVrcp 4096 15 15, .fVrcp 48 15 15, .fVrcp 4079 15 16] : List Instr).all (fun c => !c.wf) = true := by decide

/-- One ill-formed command for each check of `Instr.wf`. -/
theorem test_instr_ill_4 : ([
   .fVrsqrt 4096 15 15, .fVrsqrt 48 15 15, .fVrsqrt 4079 15 16, .fVsilu 4096 15 15, .fVsilu 48 15 15, .fVsilu 4079 15 16, .fVrsum 4096 15 15,
   .fVrsum 48 15 15, .fVrsum 4079 15 16, .fVrmax 4096 15 15, .fVrmax 48 15 15, .fVrmax 4079 15 16, .fVunpk 4096 15 15 15 4294967295,
   .fVunpk 48 15 15 15 4294967295, .fVunpk 4079 15 15 15 (2 ^ 32), .fVpack 4096 15 15 15 4294967295, .fVpack 48 15 15 15 4294967295,
   .fVpack 4079 15 15 15 (2 ^ 32), .fVld 4096 15 31 0, .fVld 48 15 31 0, .fVld 4079 15 32 0, .fVst 4096 31 15 0, .fVst 48 31 15 0, .fVst 4079 31 16 0,
   .fVbcast 4096 15 31, .fVbcast 48 15 31, .fVbcast 4079 15 32, .fVmov 4096 15 15, .fVmov 48 15 15, .fVmov 4079 15 16, .fEvt 4096 31 31 15 63,
   .fEvt 48 31 31 15 63, .fEvt 4079 31 31 15 64, .imageFetchDone 17, .scheduleEntryStart 8 15 0, .scheduleEntryStart 7 16 0, .scheduleDataToken 8 15 0,
   .scheduleDataToken 7 16 0, .scheduleEntryDone 8 15 0, .scheduleEntryDone 7 16 0, .bufferRelease 8 15 255, .bufferRelease 7 16 255,
   .bufferRelease 7 15 256, .memoryStreamRead 8 15 255, .memoryStreamRead 7 16 255, .memoryStreamRead 7 15 256, .memoryStreamWrite 8 15 255,
   .memoryStreamWrite 7 16 255, .memoryStreamWrite 7 15 256, .scrubRead 8 603979775, .scrubRead 7 (36 * 2 ^ 24), .stalePageFill 288 262143,
   .stalePageFill 287 (2 ^ 18), .bar2Read 16 0 0 0, .bar2Write 16 0 [] false 0, .memHot 8 0, .sliceRetrain 0 8 false, .memSliceDown 8, .slcClrCe 8 0,
   .slcClrUe 8 0] : List Instr).all (fun c => !c.wf) = true := by decide

/-- One ill-formed command for each check of `Instr.wf`. -/
theorem test_instr_ill_5 : ([
   .pmapVfWrite 0 15 511 false, .pmapVfWrite 16 15 511 false, .pmapVfWrite 15 16 511 false, .pmapVfWrite 15 15 512 false, .kvcDecode 8 15 255,
   .kvcDecode 7 16 255, .kvcDecode 7 15 256, .kvcEncode 8 15 255, .kvcEncode 7 16 255, .kvcEncode 7 15 256, .kvcRegionEnableWrite 8 15 0,
   .kvcRegionEnableWrite 7 16 0, .kvcSmapWrite 8 15 7 0, .kvcSmapWrite 7 16 7 0, .kvcSmapWrite 7 15 8 0, .clrCorrupt 8 0, .clrFallback 8 0,
   .kvcClrFaults 8 0, .vfFlr 0, .vfFlr 16, .epFlrDone 16, .d3hotEntry 16, .d0Return 16, .mrdlk 16, .configurationRequest 16 4095 none,
   .configurationRequest 15 4096 none, .expansionRomRead (2 ^ 20) 64 0, .expansionRomRead 1048575 65 0, .gblVfIrqMaskWrite 0 15,
   .gblVfIrqMaskWrite 16 15, .gblVfIrqMaskWrite 15 16, .dbSqTail 16 0 0 0, .dbCqHead 16 0 0 0, .dbWrite64 16 0 0 0, .descriptorFetchDone 256,
   .descSendData 256, .evtHeadWrite 16 16 0, .evtHeadWrite 15 17 0, .evtCfgWrite 16 16 0, .evtCfgWrite 15 17 0, .clrLost 16 16 0, .clrLost 15 17 0,
   .dbClrFaults 16 0 0, .mbxDoorbell 17, .mbxCommandDone ⟨17, none⟩, .mbxCommandDone ⟨16, some (2 ^ 32)⟩, .identify 17, .status 17, .opcodes 17,
   .hedgeCreate 17, .hedgeDestroy 17, .hedgeAssign 17, .hedgeCadence 17, .hedgeQuery 17, .queueAssign 17, .queueCreate 17, .queueDestroy 17,
   .queueQuery 17, .imageBind 17, .imageUnbind 17] : List Instr).all (fun c => !c.wf) = true := by decide

/-- One ill-formed command for each check of `Instr.wf`. -/
theorem test_instr_ill_6 : ([
   .imageQuery 17, .memoryPlots 17, .memoryMap 17, .memoryBar2Size 17, .memoryQuery 17, .kvcRegion 17, .kvcClaim 17, .kvcQuery 17, .atuWindow 17,
   .atuPasid 17, .atuInvalidate 17, .atuQuery 17, .sorusConfig 17, .sorusTrigger 17, .sorusSlowRead 17 [], .sorusOpenWireTest 17 [],
   .sorusCalibrate 17 [], .sorusStatus 17, .lichenLoopStatus 17, .lichenLoopConfig 17, .lichenLoopCalibrate 17, .lichenAlarmConfig 17, .lichenRtc 17,
   .lichenLogRead 17, .lichenHartConfig 17, .denbenPortConfig 17, .denbenPortStatus 17, .denbenDccMap 17, .denbenRetrain 17, .twinConfig 17,
   .twinRole 17, .twinMirror 17, .twinVeto 17, .twinResync 17, .twinStatus 17, .telemetryRead 17 0, .telemetryHedge 17, .debugStoreRead 17,
   .debugStoreWrite 17, .debugFrond 17, .debugTrace 17, .debugProfile 17, .lifecycleRead 17, .lifecycleTransition 17 0, .lifecycleKeyWrite 17,
   .firmwarePush 17, .firmwareStatus 17, .firmwareSelect 17, .atsInvalidateRequest 16 31 none 0 0 false, .atsInvalidateRequest 15 32 none 0 0 false,
   .pageRequestResponse 512 0, .atuWinLostClear 64 0 0, .inboundAtomicop 16 0 0 2 0 0 0 false 0, .inboundAtomicop 15 0 0 3 0 0 0 false 0,
   .loadExclusive 4 0 0, .storeExclusive 4 0 0 0, .coreAtomic 4 0 0 0 0 0, .reservationTimeout 4, .storeApertureRead .jtag 3 0 0,
   .storeApertureWrite .jtag 2 0 0 0] : List Instr).all (fun c => !c.wf) = true := by decide

/-- One ill-formed command for each check of `Instr.wf`. -/
theorem test_instr_ill_7 : ([
   .registerMirrorRead .jtag 0x800000 64, .registerMirrorRead .jtag 8388607 7, .jtagDbgAccess 0x1000000 64 none 0, .jtagDbgAccess 16777215 7 none 0,
   .sorCtrlWrite 4, .sorTrigWrite 8 false false, .sorChannelWrite 32 0 0 0 0, .sorRingCfgWrite 4 0, .sorRingChWrite 4 0, .sorTrimWrite 8 3 0 0,
   .sorTrimWrite 7 4 0 0, .sensorConversion 2 0, .alarmSample 16, .jtagCoreHalt 4, .frameReceive 9 0 [], .frameTransmit 9 0, .dlosTimer 9 0 0,
   .retrainDefectTimeout 9 0, .retrainAttemptTimeout 9 0, .retrainRetry 9 0, .dccExchange 4 0, .frmClearWrite 9 255 0, .frmClearWrite 8 256 0,
   .brackenRetest 0 64 false, .gblIrqMaskWrite 16, .stackTemperatureChange 8 0, .jtagCoreResume 4, .laneMarker 9 0 7 false 0 0 0,
   .laneMarker 8 0 8 false 0 0 0] : List Instr).all (fun c => !c.wf) = true := by decide

/-! ### Values from outside the model, and single steps -/

/-- Words laid out by the table of R144 with CLASS and OP of R150, R153, R157 and the tables of the MAC, vector and event classes. -/
theorem test_frond_words :
    fdecode (BitVec.ofNat 64 (0 + 0x02 * 2 ^ 3 + 3 * 2 ^ 13 + 5 * 2 ^ 18 + 100 * 2 ^ 32)) = some (.beq 3 5 100) ∧
    fdecode (BitVec.ofNat 64 (1 + 0x02 * 2 ^ 3 + 31 * 2 ^ 8 + 2 * 2 ^ 13 + 1 * 2 ^ 18)) = some (.sub 31 2 1) ∧
    fdecode (BitVec.ofNat 64 (2 + 0x00 * 2 ^ 3 + 15 * 2 ^ 8 + 30 * 2 ^ 18 + 9 * 2 ^ 23)) = some (.recv 15 30 9) ∧
    fdecode (BitVec.ofNat 64 (3 + 0x01 * 2 ^ 3 + 7 * 2 ^ 13 + 4 * 2 ^ 18 + (63 + 2 ^ 7) * 2 ^ 32)) = some (.mac 7 4 63 false true) ∧
    fdecode (BitVec.ofNat 64 (4 + 0x00 * 2 ^ 3 + 1 * 2 ^ 8 + 2 * 2 ^ 13 + 3 * 2 ^ 18)) = some (.vadd 1 2 3) ∧
    fdecode (BitVec.ofNat 64 (5 + 0x00 * 2 ^ 3 + 1 * 2 ^ 13 + 2 * 2 ^ 18 + 6 * 2 ^ 23 + 42 * 2 ^ 32)) = some (.evt 1 2 6 42) := by
  decide +kernel

/-- Reserved bits and undefined classes (R145, R146): bit 4 of a token register, a field that NOP does not use, CLASS 6. -/
theorem test_frond_words_refused :
    fdecode (BitVec.ofNat 64 (2 + 16 * 2 ^ 8)) = none ∨ (fdecode (BitVec.ofNat 64 (2 + 16 * 2 ^ 8))).all (fun i => !i.wf) = true ∧
    fdecode (BitVec.ofNat 64 (1 * 2 ^ 8)) = none ∧ fdecode (BitVec.ofNat 64 6) = none := by
  decide +kernel

/-- The published check values of CRC-32C and SHA-256: of the digits 1 to 9, and the first four bytes for "abc". -/
theorem test_digests : crc32c ((List.range 9).map fun i => BitVec.ofNat 8 (0x31 + i)) = 0xE3069283 ∧
    (sha256 [0x61, 0x62, 0x63]).take 4 = [0xBA, 0x78, 0x16, 0xBF] := by
  decide +kernel

/-- The state after a command, and the empty state where it has none. -/
def after (o : Host.Outcome State Fault Refusal) : State :=
  match o with
  | .next s => s
  | _ => {}

/-- The word of an instruction, from its CLASS, OP, D, A, B, Q, FMT and IMM (R144). -/
def word (c o d a b q fmt imm : Nat) : Dword :=
  BitVec.ofNat 64 (c + o * 2 ^ 3 + d * 2 ^ 8 + a * 2 ^ 13 + b * 2 ^ 18 + q * 2 ^ 23 + fmt * 2 ^ 27 + imm * 2 ^ 32)

/-- Frond 5 running with two scalar registers, and with a program of one word. -/
def fst (w : Dword) (x y : Word) : State :=
  { dev := { p := ({} : Part).updFrond 5 fun F => { F with running := true, s := [(1, x), (2, y)] }.setWord 2 0 w } }

/-- ADD wraps at 32 bits, and its destination may be a source (R153). -/
theorem test_add_wraps : ((after (exec (.fAdd 5 1 1 2) (fst (word 1 0x01 1 1 2 0 0 0) 0xFFFFFFFF 2))).part.frond 5).sr 1 = 1 := by decide +kernel

/-- SRA copies the sign (R153). -/
theorem test_sra_sign : ((after (exec (.fSra 5 3 1 31) (fst (word 1 0x0A 3 1 0 0 0 31) 0x80000000 0))).part.frond 5).sr 3 = 0xFFFFFFFF := by decide +kernel

/-- BLT compares as signed numbers (R150). -/
theorem test_blt_signed : ((after (exec (.fBlt 5 1 2 77) (fst (word 0 0x04 0 1 2 0 0 77) 0x80000000 1))).part.frond 5).pc = 77 := by decide +kernel

/-- A write of s[0] is discarded. -/
theorem test_s0_zero : ((after (exec (.fLi 5 0 9) (fst (word 1 0x00 0 0 0 0 0 9) 0 0))).part.frond 5).sr 0 = 0 := by decide +kernel

/-- A frond runs no other instruction than the next one of its program (R147). -/
theorem test_not_next : after (exec (.fLi 5 3 8) (fst (word 1 0x00 3 0 0 0 0 9) 0 0)) = (fst (word 1 0x00 3 0 0 0 0 9) 0 0) := by decide +kernel

/-- The canonical form of the memory: a byte that reads as its unlisted value is not listed. -/
theorem test_memory_form : Memory.wf [(5, 7), (9, 1)] ∧ ¬ Memory.wf [(9, 1), (5, 7)] ∧ ¬ Memory.wf [(5, 0)] := by decide

/-! ### Helpers of the witnesses -/

/-- A state without a register that is not zero, and one change of the part. -/
def wst (f : Part → Part) : State := { dev := { p := f { regs := [] } } }

/-- Such a state with frond 4079 (the last one) running, and a change of it. -/
def wfr (g : Frond → Frond) : State := wst fun p => p.updFrond 4079 fun F => g { F with running := true }

/-- The same with an instruction word at its program counter. -/
def wat (w : Dword) (g : Frond → Frond) : State := wfr fun F => (g F).setWord 2 (g F).pc w

/-- A part in full service: link up, every feature available, 15 VFs enabled with their memory space and bus mastering. -/
def wup : Part :=
  { regs := [(GBL_STATUS, 3), (LCH_CORE_STATUS, 1)]
    ep := { perst := false, linkUp := true, crs := false, avail := 2 ^ 24 - 1, speed := 5, width := 16, upSpeed := 5, upWidth := 16, vfEnable := true
            funcs := (0, { cfg := [(4, some 6), (0x168, some 0x19), (0x170, some 15)] }) :: (List.range 15).map fun v => (v + 1, { cfg := [(4, some 6)] }) }
    core := { rails := true }, sor := { rails := true }, boot := { stage := 7 } }

/-- A state in full service, and a change of the part. -/
def wop (f : Part → Part) : State := { dev := { p := f wup } }

/-- Mailbox `m` runs a command of an opcode with the header's hedge `h` and argument bytes. -/
def wcmd (m op h : Nat) (args : List Byte) (p : Part) : Part :=
  (p.updMbx m fun b => { b with run := natLe 2 op ++ natLe 2 0xBEEF ++ natLe 2 args.length ++ natLe 2 1 ++ natLe 1 h ++ List.replicate 7 0 ++ args }).fs (MBX_STATUS_STATE m) 1

theorem plainMem_iff (d : Dev) (a n : Nat) : PlainMem d a n ↔
    ∀ i < n, d.p.gran ((a + i) / 64) = 0 ∧ d.p.unfilled (a + i) = false ∧ d.p.mirrored (a + i) = false := by
  refine ⟨fun h i hi => h (a + i) (by omega) (by omega), fun h x hx hn => ?_⟩
  have := h (x - a) (by omega)
  rwa [Nat.add_sub_cancel' hx] at this

theorem parseImage_ok_iff (n : Nat) (b : List Byte) : parseImage n b = .ok ((parseImage n b).toOption.getD {}) ↔ (parseImage n b).toOption.isSome = true := by
  cases parseImage n b <;> simp [Except.toOption]

/-- Mailbox `m` holds a bind whose read of a tag is on its way. -/
def wbind (m : Nat) (b : Bind) (t : Nat) (r : NpReq) (p : Part) : Part :=
  let q := p.setBind m (some b)
  { q with hs := { q.hs with atu := { q.hs.atu with np := [(t, some r)] } } }

/-- A SILSON image of 96 bytes: one ENTRY section. -/
def wimg : List Byte :=
  let a := natLe 4 0x534C4953 ++ natLe 2 0 ++ natLe 2 2 ++ natLe 8 96 ++ natLe 4 1 ++ natLe 1 1 ++ natLe 1 1 ++ natLe 10 0
  let z := natLe 2 13 ++ natLe 6 0 ++ natLe 8 88 ++ natLe 8 8 ++ natLe 8 5
  a ++ sha256 (a ++ List.replicate 32 0 ++ z) ++ z

/-- A firmware image of 64 bytes of payload; its signature is valid under `wkey` with both of ECDSA's factors 1. -/
def wfw : List Byte :=
  natLe 32 0x4000000302000000010002000159474c59 ++
  natLe 48 0xafc2438865a89b09b3375a1f06647213ac7147957383c6962b6d7b654cfefa5f8efd4a4744aa84b7a3d6b11b79e2c9f ++
  natLe 48 0 ++
  natLe 48 0x45baf7a7c96e237e684137ff4047017c6cec66c02d6cd3c5692ed99355c82a98cf354a2779092ed812e98052a0f77e0c ++
  natLe 48 0x45baf7a7c96e237e684137ff4047017c6cec66c02d6cd3c5692ed99355c82a98cf354a2779092ed812e98052a0f77e0c ++
  natLe 32 0 ++
  natLe 64 0x3f3e3d3c3b3a393837363534333231302f2e2d2c2b2a292827262524232221201f1e1d1c1b1a191817161514131211100f0e0d0c0b0a09080706050403020100

/-- The public key that `wfw` is signed under, as a key slot holds it. -/
def wkey : List Byte :=
  natLe 48 0xe4d98e2bad4e8eb2fd36cd2b61859614d28900a8de4b35438a9d22b0e3ac572c029b872eecfcbf63600bbaab88bca411 ++
  natLe 48 0x1890b21b8b810a25042cc3f4c3e12cb32e1eeebbe66f34c0d8f413f7168bce4a2d4be6b9e5736faf612e4dd5f38f2346

theorem ecc_nil (F : Frond) (st : Nat) (h : F.ecc = []) (w : Nat) : F.eccAt st w = 0 := by rw [Frond.eccAt, h]; rfl

/-- A frame of Denben whose first 256 bytes are a number's. -/
def wframe (x : Nat) : List Byte := natLe 256 x ++ List.replicate 8192 0

/-- The first 256 bytes of a frame with its alignment word and the CRC of an overhead of zeros. -/
def wgood : Nat := leNat (scramble (fawBytes ++ List.replicate 244 0 ++ natLe 4 (crc32c (List.replicate 180 0))))

/-! ### Witnesses -/

/-- `Obligations.ScalarInstructionResults`: its hypotheses can hold, at the last register, lane and part. -/
theorem witness_ScalarInstructionResults :
    ∀ e ∈ ([(.li 31 0xFFFFFFFF, word 1 0x00 31 0 0 0 0 0xFFFFFFFF), (.add 31 31 31, word 1 0x01 31 31 31 0 0 0), (.sub 31 31 31, word 1 0x02 31 31 31 0 0 0),
      (.addi 31 31 5, word 1 0x03 31 31 0 0 0 5), (.mul 31 31 31, word 1 0x04 31 31 31 0 0 0), (.band 31 31 31, word 1 0x05 31 31 31 0 0 0),
      (.bor 31 31 31, word 1 0x06 31 31 31 0 0 0), (.bxor 31 31 31, word 1 0x07 31 31 31 0 0 0), (.shl 31 31 31, word 1 0x08 31 31 0 0 0 31),
      (.shr 31 31 31, word 1 0x09 31 31 0 0 0 31), (.sra 31 31 31, word 1 0x0A 31 31 0 0 0 31), (.tget 31 15 7, word 1 0x0E 31 15 0 0 0 7),
      (.vget 31 15 31, word 1 0x10 31 15 0 0 0 31)] : List (FOp × Dword)), FrondAt (wat e.2 id) 4079 e.1 := by
  dsimp only [FrondAt, FrondGoes]; decide +kernel

/-- `Obligations.FrondRegisterMoves`: its hypotheses can hold. -/
theorem witness_FrondRegisterMoves :
    (∀ e ∈ ([(.getst 31, word 1 0x0D 31 0 0 0 0 0), (.test 31 15, word 2 0x02 31 0 0 15 0 0), (.tset 15 31 7, word 1 0x0F 15 31 0 0 0 7),
      (.mcfg 15 7, word 3 0x00 0 0 0 0 15 7), (.mcfg 0 0, word 3 0x00 0 0 0 0 0 0), (.mcfg 9 7, word 3 0x00 0 0 0 0 9 7), (.vset 15 31 31, word 1 0x11 15 31 0 0 0 31),
      (.vbcast 15 31, word 4 0x15 15 31 0 0 0 0), (.vmov 15 15, word 4 0x16 15 15 0 0 0 0)] : List (FOp × Dword)),
      mcfgOk e.1 = true → FrondAt (wat e.2 id) 4079 e.1) ∧ mcfgOk (.mcfg 0 0) = true ∧
    (let s := wat (word 2 0x03 31 0 0 0 0 65535) fun F => { F with queues := [(15, { toks := [(0, 0)] })] }
     let held := fun q => ((s.part.frond 4079).queue q).toks
     FrondAt s 4079 (.waitany 31 65535) ∧ (65535).testBit 15 = true ∧ held 15 ≠ [] ∧ ∀ j < 15, (65535).testBit j = true → held j = []) := by
  dsimp only [FrondAt, FrondGoes]; decide +kernel

/-- `Obligations.ControlFlowAndLoops`: its hypotheses can hold. -/
theorem witness_ControlFlowAndLoops :
    (∀ e ∈ ([(.nop, word 0 0x00 0 0 0 0 0 0), (.halt, word 0 0x06 0 0 0 0 0 0), (.br 2047, word 0 0x01 0 0 0 0 0 2047), (.beq 31 31 2047, word 0 0x02 0 31 31 0 0 2047),
      (.bne 31 31 2047, word 0 0x03 0 31 31 0 0 2047), (.blt 31 31 2047, word 0 0x04 0 31 31 0 0 2047), (.loop true 31 0 2047, word 0 0x05 0 31 0 0 16 2047),
      (.loop false 0 65535 2047, word 0 0x05 0 0 0 0 0 (65535 * 2 ^ 16 + 2047))] : List (FOp × Dword)), FrondAt (wat e.2 fun F => { F with pc := 2047 }) 4079 e.1) ∧
    (let l : LoopEnt := ⟨0, 2046, 2⟩
     l.last ≠ 2047) ∧
    (let l : LoopEnt := ⟨0, 2047, 2⟩
     l.last = 2047 ∧ 1 < l.left) ∧
    (let l : LoopEnt := ⟨0, 2047, 1⟩
     l.last = 2047 ∧ l.left ≤ 1) ∧
    (let s := wat (word 0 0x06 0 0 0 0 0 0) id
     let F := s.part.frond 4079
     F.eccAt 2 F.pc ≠ 2 ∧ finstr (F.word 2 F.pc) ≠ some .nop) ∧
    (∀ e ∈ ([(.nop, word 0 0x00 0 0 0 0 0 0), (.add 31 31 31, word 1 0x01 31 31 31 0 0 0), (.br 2047, word 0 0x01 0 0 0 0 0 2047),
      (.beq 31 31 2047, word 0 0x02 0 31 31 0 0 2047), (.bne 31 31 2047, word 0 0x03 0 31 31 0 0 2047), (.blt 31 31 2047, word 0 0x04 0 31 31 0 0 2047),
      (.vexp 15 15, word 4 0x08 15 15 0 0 0 0), (.vlog 15 15, word 4 0x09 15 15 0 0 0 0), (.vtanh 15 15, word 4 0x0A 15 15 0 0 0 0), (.vsigm 15 15, word 4 0x0B 15 15 0 0 0 0),
      (.vrcp 15 15, word 4 0x0C 15 15 0 0 0 0), (.vrsqrt 15 15, word 4 0x0D 15 15 0 0 0 0), (.vsilu 15 15, word 4 0x0E 15 15 0 0 0 0), (.vrsum 15 15, word 4 0x0F 15 15 0 0 0 0),
      (.vrmax 15 15, word 4 0x10 15 15 0 0 0 0)] : List (FOp × Dword)),
      let t := wat e.2 id
      let s : State := { dev := { p := { t.part with dbg := { profile := some { brackens := 2 ^ 63, addr := 0 } } } } }
      FrondAt s 4079 e.1 ∧ ∃ c ∈ s.part.dbg.profile, c.brackens.testBit (4079 / 64) = true) := by
  dsimp only [FrondAt, FrondGoes]; decide +kernel

/-- `Obligations.ActivationStoreAccesses`: its hypotheses can hold, at the last word. -/
theorem witness_ActivationStoreAccesses :
    let m : Nat := 0xFFFFFFFF
    let good := fun (s : State) (size n : Nat) => ∀ i < n, (s.part.frond 4079).eccAt 1 (((s.part.frond 4079).sr 31 + 0xFFFFFFFF).toNat % 65536 / size * size / 8 + i) = 0
    (let s := wat (word 1 0x0B 31 31 0 0 0 m) id
     FrondAt s 4079 (.ld 31 31 0xFFFFFFFF) ∧ good s 4 1) ∧
    (let s := wat (word 1 0x12 15 31 0 0 0 m) id
     FrondAt s 4079 (.ldt 15 31 0xFFFFFFFF) ∧ good s 32 4) ∧
    (let s := wat (word 4 0x13 15 31 0 0 0 m) id
     FrondAt s 4079 (.vld 15 31 0xFFFFFFFF) ∧ good s 128 16) ∧
    (let s := wat (word 1 0x0C 0 31 31 0 0 m) id
     FrondAt s 4079 (.st 31 31 0xFFFFFFFF) ∧ good s 4 1) ∧
    ∀ e ∈ ([(.stt 31 15 0xFFFFFFFF, word 1 0x13 0 31 15 0 0 m), (.vst 31 15 0xFFFFFFFF, word 4 0x14 0 31 15 0 0 m)] : List (FOp × Dword)), FrondAt (wat e.2 id) 4079 e.1 := by
  dsimp only [FrondAt, FrondGoes]; decide +kernel

/-- `Obligations.VectorArithmeticResults`: its hypotheses can hold. -/
theorem witness_VectorArithmeticResults :
    ∀ e ∈ ([(.vadd 15 15 15, word 4 0x00 15 15 15 0 0 0), (.vsub 15 15 15, word 4 0x01 15 15 15 0 0 0), (.vmul 15 15 15, word 4 0x02 15 15 15 0 0 0),
      (.vfma 15 15 15, word 4 0x03 15 15 15 0 0 0), (.vscl 15 15 31, word 4 0x06 15 15 31 0 0 0), (.vofs 15 15 31, word 4 0x07 15 15 31 0 0 0)] : List (FOp × Dword)),
      FrondAt (wat e.2 id) 4079 e.1 := by
  dsimp only [FrondAt, FrondGoes]; decide +kernel

/-- `Obligations.VectorSelectionAndReduction`: its hypotheses can hold. -/
theorem witness_VectorSelectionAndReduction :
    (∀ e ∈ ([(.vmax 15 15 15, word 4 0x04 15 15 15 0 0 0), (.vmin 15 15 15, word 4 0x05 15 15 15 0 0 0), (.vrsum 15 15, word 4 0x0F 15 15 0 0 0 0)] : List (FOp × Dword)),
      FrondAt (wat e.2 id) 4079 e.1) ∧
    (let s := wat (word 4 0x10 15 15 0 0 0 0) id
     let x := fun (i : Nat) => flush32 ((s.part.frond 4079).lane 15 i).toNat
     let below := fun (u v : Nat) => (readF32 u).lt (readF32 v) = true
     FrondAt s 4079 (.vrmax 15 15) ∧ isNan32 (x 31) = false ∧ ∀ i < 32, isNan32 (x i) = false → ¬ below (x 31) (x i)) := by
  dsimp only [FrondAt, FrondGoes]; decide +kernel

/-- `Obligations.NonlinearFunctionResults`: its hypotheses can hold, and those of its clauses at the ends of their ranges. -/
theorem witness_NonlinearFunctionResults :
    (∀ e ∈ ([(.vexp 15 15, word 4 0x08 15 15 0 0 0 0), (.vlog 15 15, word 4 0x09 15 15 0 0 0 0), (.vtanh 15 15, word 4 0x0A 15 15 0 0 0 0), (.vsigm 15 15, word 4 0x0B 15 15 0 0 0 0),
      (.vrcp 15 15, word 4 0x0C 15 15 0 0 0 0), (.vrsqrt 15 15, word 4 0x0D 15 15 0 0 0 0), (.vsilu 15 15, word 4 0x0E 15 15 0 0 0 0)] : List (FOp × Dword)),
      FrondAt (wat e.2 id) 4079 e.1) ∧
    (let F : Frond := (wat (word 4 0x09 15 15 0 0 0 0) fun F => { F with v := [(32 * 15 + 1, 0x80000000), (32 * 15 + 2, 0x80800000), (32 * 15 + 3, 0xFF800000)] }).part.frond 4079
     F.lane 15 0 = 0 ∧ F.lane 15 1 = 0x80000000 ∧ 0x80800000 ≤ (F.lane 15 2).toNat ∧ (F.lane 15 2).toNat ≤ 0xFF800000 ∧ (F.lane 15 3).toNat = 0xFF800000) := by
  constructor
  · dsimp only [FrondAt, FrondGoes]; decide +kernel
  · decide +kernel

/-- `Obligations.TokenConversions`: its hypotheses can hold, at the last part of each format. -/
theorem witness_TokenConversions :
    ∀ e ∈ [(0, 0), (1, 1), (2, 0), (3, 0), (4, 1), (5, 1), (6, 3), (7, 3)], let part := e.2
      (let per := 256 / elemBits e.1
       part < (if 32 ≤ per then per / 32 else 32 / per)) ∧
      FrondAt (wat (word 4 0x11 15 15 0 0 e.1 part) id) 4079 (.vunpk 15 15 e.1 part) ∧ FrondAt (wat (word 4 0x12 15 15 0 0 e.1 part) id) 4079 (.vpack 15 15 e.1 part) := by
  dsimp only [FrondAt, FrondGoes]; decide +kernel

/-- `Obligations.MatrixUnitResults`: its hypotheses can hold, at the last register and accumulator. -/
theorem witness_MatrixUnitResults :
    (let s := wat (word 3 0x01 0 15 31 0 0 (60 + 64 + 128)) fun F => { F with wfmt := 0, afmt := 0 }
     let F := s.part.frond 4079
     FrondAt s 4079 (.mac 15 31 60 true true) ∧ macShape F.wfmt F.afmt = some (4, 32, 16, true) ∧ 60 + 4 ≤ 64 ∧ ∀ i < 16, F.eccAt 0 (((F.sr 31).toNat + i) % 49152) = 0) ∧
    FrondAt (wat (word 3 0x02 15 0 0 0 0 (32 + 64)) id) 4079 (.accrd 15 32 true) ∧ FrondAt (wat (word 3 0x02 15 0 0 0 0 0) id) 4079 (.accrd 15 0 false) ∧
    FrondAt (wat (word 3 0x03 0 15 0 0 0 32) id) 4079 (.accwr 15 32) ∧ FrondAt (wat (word 3 0x03 0 15 0 0 0 0) id) 4079 (.accwr 15 0) := by
  dsimp only [FrondAt, FrondGoes]; decide +kernel

/-- `Obligations.StreamReads`: its hypotheses can hold, for each read and each kind of token. -/
theorem witness_StreamReads :
    (∀ e ∈ ([(.recv 15 31 15, word 2 0x00 15 0 31 15 0 0), (.recvp 15 31 15, word 2 0x01 15 0 31 15 0 0)] : List (FOp × Dword)), ∀ kind < 4,
      let s := wat e.2 fun F => { F with queues := [(15, { toks := [(kind, 7)] })] }
      FrondAt s 4079 e.1 ∧ ((s.part.frond 4079).queue 15).toks = [(kind, 7)] ∧ s.part.flag (FAB_STALL_STALLED (s.part.frondHedge 4079)) = false) ∧
    (let s := wat (word 2 0x00 15 0 31 15 0 0) fun F => { F with queues := [(15, { toks := [(2, 7)] })], poison := some 9 }
     FrondAt s 4079 (.recv 15 31 15) ∧ (s.part.frond 4079).poison.isSome = true) := by
  dsimp only [FrondAt, FrondGoes]; decide +kernel

/-- `Obligations.StreamSends`: its hypotheses can hold. -/
theorem witness_StreamSends :
    ∀ e ∈ ([(.send 15 15, word 2 0x04 0 15 0 15 0 0), (.sendeos 15, word 2 0x05 0 0 0 15 0 0), (.sendpsn 31 31 15, word 2 0x06 0 31 31 15 0 0),
      (.evt 31 31 15 63, word 5 0x00 0 31 31 15 0 63)] : List (FOp × Dword)),
      let t := wat e.2 id
      let s : State := { dev := { p := { t.part with fab := { t.part.fab with streams := [(0, { credit := 1 })] } } } }
      FrondAt s 4079 e.1 ∧ 1 ≤ (s.part.stream (s.part.frondHedge 4079) ((s.part.frond 4079).slot 15).stream).credit ∧
      s.part.flag (FAB_STALL_STALLED (s.part.frondHedge 4079)) = false := by
  dsimp only [FrondAt, FrondGoes]; decide +kernel

/-- `Obligations.ForwardsAndWaits`: its hypotheses can hold. -/
theorem witness_ForwardsAndWaits :
    (∀ kind ∈ [0, 2, 3],
      let t := wat (word 2 0x07 31 0 0 15 0 15) fun F => { F with queues := [(15, { toks := [(kind, 7)] })] }
      let s : State := { dev := { p := { t.part with fab := { t.part.fab with streams := [(0, { credit := 1 })] } } } }
      FrondAt s 4079 (.fwd 31 15 15) ∧ ((s.part.frond 4079).queue 15).toks = [(kind, 7)] ∧
      1 ≤ (s.part.stream (s.part.frondHedge 4079) ((s.part.frond 4079).slot 15).stream).credit ∧ s.part.flag (FAB_STALL_STALLED (s.part.frondHedge 4079)) = false) ∧
    (let s := wat (word 2 0x00 15 0 31 15 0 0) id
     FrondAt s 4079 (.recv 15 31 15) ∧ s.part.mustWait 4079 (.recv 15 31 15) = true) ∧
    (∀ toks ∈ ([[], [(3, 7)]] : List (List (Nat × Payload))),
      let s := wat (word 2 0x00 15 0 31 15 0 0) fun F => { F with wait := some (.recv 15 31 15), queues := [(15, { toks := toks })] }
      let F := s.part.frond 4079
      let s' : State := { dev := { p := s.part.updFrond 4079 fun F => { F with wait := none } } }
      F.running = true ∧ F.halted = false ∧ F.owed = [] ∧ F.wait = some (.recv 15 31 15) ∧ FrondAt s' 4079 (.recv 15 31 15) ∧
      s.part.mustWait 4079 (.recv 15 31 15) = toks.isEmpty) := by
  dsimp only [FrondAt, FrondGoes]; decide +kernel

/-- `Obligations.FrondStartStopAndProgramStore`: its hypotheses can hold. -/
theorem witness_FrondStartStopAndProgramStore :
    isFrond 4079 ∧
    (let F := (wfr fun F => { F with running := false, needLoad := true }).part.frond 4079
     F.running = false ∧ F.needLoad = true) ∧
    ((wfr fun F => { F with running := false }).part.frond 4079).running = false ∧ ((wfr fun F => { F with halted := true }).part.frond 4079).halted = true ∧
    (let F := (wfr id).part.frond 4079
     F.running = true ∧ F.halted = false) ∧
    (let s := wfr fun F => { F.setWord 2 0 (word 0 0x00 0 0 0 0 0 0) with ecc := [(131072, 1)] }
     let F := s.part.frond 4079
     F.ready = true ∧ F.eccAt 2 F.pc = 1 ∧ finstr (F.word 2 F.pc) = some .nop) ∧
    (let s := wfr fun F => { F with ecc := [(131072, 2)] }
     let F := s.part.frond 4079
     F.ready = true ∧ F.eccAt 2 F.pc = 2 ∧ ∀ q < 16, (F.slot q).bound = false ∨ q ∈ F.closedOut) := by
  decide +kernel

/-- A part with one token of stream 255 of hedge 15 in bracken 63, whose route entry is `r`. -/
def wtok (port r : Nat) (ch : Chan) (kind : Nat) : State :=
  wst fun p => { p with
    fab := { flight := [{ b := 63, port := port, ch := ch, tok := ⟨15, 255, kind, 0⟩ }], routes := [(16383, some r)]
             fronds := [(4079, { queues := [(15, { bound := true, stream := 255 })] })] }
    regs := [(FAB_BRK_OWNER 63, 31), (FAB_BRK_OWNER 55, 31)] }

/-- `Obligations.TokensAndCreditsMove`: its hypotheses can hold. -/
theorem witness_TokensAndCreditsMove :
    (∀ e ∈ ([(52, 2 ^ 47, .hedge, 0), (52, 2 ^ 48, .hedge, 2), (47, 2 ^ 52, .hedge, 2), (47, 1, .toHub, 4)] : List (Nat × Nat × Chan × Nat)),
      let s := wtok e.1 e.2.1 e.2.2.1 e.2.2.2
      let tok : Tok := ⟨15, 255, e.2.2.2, 0⟩
      s.part.headAt 63 e.1 15 255 = some { b := 63, port := e.1, ch := e.2.2.1, tok := tok } ∧ kindAllowed 63 e.1 tok.kind e.2.2.1 = true ∧
      s.part.dbg.trace = none ∧ s.part.dbg.profile = none ∧ s.part.flag (FAB_STALL_STALLED 15) = false) ∧
    (let s := wtok 52 (2 ^ 47) .hedge 0
     s.part.route 63 255 = some (2 ^ 47) ∧ s.part.grants 63 47 52 = true ∧ s.part.ownsBrk 15 63 = true ∧ s.part.queueFor (64 * 63 + 47) 255 = some 15) ∧
    (let s := wtok (4 * 63) 0 .hedge 0
     s.part.headAt 63 252 15 255 = some { b := 63, port := 252, ch := .hedge, tok := ⟨15, 255, 0, 0⟩ } ∧ kindAllowed 63 252 0 .hedge = true ∧
     252 / 4 = 16 + 47 ∧ s.part.ownsBrk 15 63 = true ∧ s.part.queueFor (64 * 63 + 47) 255 = some 15) ∧
    (let s := wtok 52 (2 ^ 48) .hedge 2
     s.part.route 63 255 = some (2 ^ (48 + 0)) ∧ s.part.grants 63 (48 + 0) 52 = true ∧ neighbour 63 0 = some 55 ∧ s.part.ownsBrk 15 55 = true) ∧
    (let s := wtok 47 (2 ^ 52) .hedge 2
     s.part.route 63 255 = some (2 ^ 52) ∧ s.part.grants 63 52 47 = true) ∧
    (wtok 47 1 .toHub 4).part.grants 63 56 47 = true ∧
    (let s : State := { dev := { p := { (wtok 47 (2 ^ 52) .hedge 2).part with
       fab := { (wtok 47 (2 ^ 52) .hedge 2).part.fab with
         flight := [⟨63, 47, .hedge, ⟨15, 255, 2, 0⟩, none⟩, ⟨63, 46, .hedge, ⟨15, 255, 2, 0⟩, none⟩] } } } }
     s.part.headAt 63 47 15 255 = some { b := 63, port := 47, ch := .hedge, tok := ⟨15, 255, 2, 0⟩ } ∧ s.part.route 63 255 = some (2 ^ 52) ∧
     s.part.grants 63 52 47 = false) ∧
    (let s : State := wst fun p => { p with fab := { flight := [⟨63, 47, .toHub, ⟨15, 255, 4, 0⟩, none⟩, ⟨63, 46, .toHub, ⟨15, 255, 4, 0⟩, none⟩] } }
     s.part.headAt 63 47 15 255 = some { b := 63, port := 47, ch := .toHub, tok := ⟨15, 255, 4, 0⟩ } ∧ kindAllowed 63 47 4 .toHub = true ∧
     s.part.grants 63 56 47 = false) ∧
    (wst id).part.headAt 63 52 15 255 = none ∧
    (let s : State := wst fun p => { p with fab := { returns := [(15, 255, 4079)], streams := [(4095, { dests := [4078, 4079] })] } }
     s.part.fab.returns.contains (15, 255, 4079) = true ∧ s.part.fab.gw = [] ∧ s.part.slc.windows = [] ∧ 4078 ∈ (s.part.stream 15 255).dests ∧
     Tab.get 0 4078 (s.part.stream 15 255).returned + (if 4078 = 4079 then 1 else 0) = 0) ∧
    (let s : State := wst fun p => { p with fab := { returns := [(15, 255, 4079)], streams := [(4095, { dests := [4079] })] } }
     s.part.fab.returns.contains (15, 255, 4079) = true ∧ (s.part.stream 15 255).dests = [4079]) := by
  and_intros <;> decide +kernel

/-- `Obligations.HubGatewayAndStall`: its hypotheses can hold. -/
theorem witness_HubGatewayAndStall :
    (wst id).part.headAt 71 48 15 255 = none ∧
    (∀ e ∈ ([(2, .port 7), (0, .queue 255), (0, .loop), (4, .none), (2, .none)] : List (Nat × HubDest)),
      let s : State := wst fun p => { p with
        fab := { flight := [{ b := 71, port := 48, ch := .toHub, tok := ⟨15, 255, e.1, 0⟩ }], hub := [(4095, e.2)] }
        hedges := [(15, { streamPorts := 128 })]
        hs := { p.hs with qps := [(255, { exist := true, owner := some 15 })] } }
      s.part.headAt (64 + 7) 48 15 255 = some { b := 71, port := 48, ch := .toHub, tok := ⟨15, 255, e.1, 0⟩ } ∧ s.part.fg TWN_STATUS_MODE = 0 ∧
      s.part.flag (FAB_STALL_STALLED 15) = false ∧ Tab.get HubDest.none (skey 15 255) s.part.fab.hub = e.2 ∧ s.part.portOwner 7 = some 15 ∧
      (s.part.qp 255).exist = true ∧ (s.part.qp 255).owner = some 15 ∧ s.part.hs.br.lv = none) ∧
    (let s : State := wst fun p => { p with hedges := [(15, { loopPort := true })] }
     s.part.loopOwner = some 15) ∧
    (let p := (wst fun p => { p with
       regs := [(FAB_BRK_OWNER 63, 31), (FAB_STALL 15, 1)], fab := { fronds := [(4079, { running := true, wait := some (.recv 0 0 0) })] } }).part.at 10000
     p.fg (FAB_STALL_LIMIT 15) ≠ 0 ∧ p.flag (FAB_STALL_STALLED 15) = false ∧ Tab.get 0 15 p.fab.moved + 10000 * p.fg (FAB_STALL_LIMIT 15) ≤ p.past + p.time ∧
     p.waitingFronds 15 = [4079]) ∧
    ((wst id).part.at 0).fg (FAB_STALL_LIMIT 15) = 0 ∧
    (wop id).part.available 11 = true ∧ (wop id).part.pfOpen = true ∧
    (wop id).part.ownsBrk (getBits (0xFFFFFFFFFFFFFFFF : Dword) 36 4) (getBits (0xFFFFFFFFFFFFFFFF : Dword) 48 6) = false := by
  and_intros <;> decide +kernel

/-- `Obligations.CounterClears`: its hypotheses can hold. -/
theorem witness_CounterClears :
    (∀ b ∈ [4, 5, 7, 8, 9, 11, 12, 13], (wop id).part.available b = true) ∧ (wop id).part.pfOpen = true ∧ (wop id).part.sor.rails = true ∧
    (∀ b ∈ [4, 5, 7, 8, 9, 11, 12, 13], (wst id).part.available b = false) ∧ (wst id).part.pfOpen = false ∧
    (∀ f ∈ [0, 15], (wop id).part.accessOpen f = true ∧ (wop id).part.finds f 6 = true) ∧
    (let s : State := wop fun p => { p with hs := { qps := [(255, { exist := true, owner := some 0 })] } }
     s.part.accessOpen 0 = true ∧ s.part.finds 0 2 = true ∧ s.part.dbPage 0 255 = some 255 ∧ (s.part.qp 255).exist = true ∧ (s.part.qp 255).owner = some 0) ∧
    (let s : State := wop fun p => { p with hs := { qps := [(255, { exist := true, owner := some 15 })] } }
     s.part.accessOpen 15 = true ∧ s.part.finds 15 2 = true ∧ s.part.dbPage 15 0 = some 255) := by
  and_intros <;> decide +kernel

/-- `Obligations.OperatingPointGlides`: its hypotheses can hold. -/
theorem witness_OperatingPointGlides :
    (let p := (wop id).part
     2 ≤ p.fg GBL_STATUS_SERVICE ∧ (∀ h < 16, p.guarded h = false) ∧ p.available 11 = true ∧ p.pfOpen = true ∧
     p.flag TEL_VL_STATUS_GLIDING = false ∧ p.vl.retrying = false) ∧
    (let p := (wop fun p => (p.fs TEL_VL_STATUS_GLIDING 1).setReg TEL_VL_CTRL 0x51 |>.fs TEL_VL_STATUS_TARGET 1).part
     2 ≤ p.fg GBL_STATUS_SERVICE ∧ (∀ h < 16, p.guarded h = false) ∧ p.flag TEL_VL_STATUS_GLIDING = true ∧ p.vl.retrying = false ∧
     p.targetPoint = p.fg TEL_VL_STATUS_TARGET ∧ inWindow p.targetPoint 550 = true) ∧
    (let p := (wop fun p => { p with vl := { p.vl with retrying := true } }).part
     2 ≤ p.fg GBL_STATUS_SERVICE ∧ (∀ h < 16, p.guarded h = false) ∧ p.flag TEL_VL_STATUS_GLIDING = false ∧ p.vl.retrying = true) := by
  and_intros <;> decide +kernel

/-- `Obligations.TempoMonitorAndCadenceGuard`: its hypotheses can hold. -/
theorem witness_TempoMonitorAndCadenceGuard :
    (let p := (wop id).part
     (∀ b < 64, (List.replicate 64 65535).getD b 0 / 2 ^ p.fg TEL_TEMPO_CTRL_GATE < 65536) ∧ p.dbg.profile = none ∧ p.guarded 15 = false ∧
     p.available 11 = true ∧ p.pfOpen = true) ∧
    (∀ since ∈ [255, 256],
      let p := (wop fun p => ({ p with vl := { p.vl with guards := [(15, { req := 5, since := since })] } }.setReg (FAB_BRK_OWNER 63) 31).fs (TEL_CADENCE_FLOOR 15) 2
        |>.setFlag (TEL_CADENCE_ENABLE 15) true).part
      (∀ b < 64, (List.replicate 64 1).getD b 0 / 2 ^ p.fg TEL_TEMPO_CTRL_GATE < 65536) ∧ p.dbg.profile = none ∧ p.guarded 15 = true ∧
      p.flag (FAB_BRK_OWNER_OWNED 63) = true ∧ p.fg (FAB_BRK_OWNER_HEDGE 63) = 15 ∧
      (List.replicate 64 1).getD 63 0 / 2 ^ p.fg TEL_TEMPO_CTRL_GATE < p.fg (TEL_CADENCE_FLOOR 15)) ∧
    (let p := (wop fun p => ({ p with vl := { p.vl with guards := [(15, { req := 5, period := 256, toward := 256, clean := 16 })] } }).fs (TEL_CADENCE_FLOOR 15) 1
       |>.setFlag (TEL_CADENCE_ENABLE 15) true |>.setFlag (TEL_CADENCE_DEFICIT 15) true).part
     p.guarded 15 = true ∧ (p.guard 15).period ≤ (p.guard 15).toward ∧ p.staticPoint (p.fg (TEL_CADENCE_FLOOR 15)) < (p.guard 15).req ∧
     p.flag (TEL_CADENCE_DEFICIT 15) = true ∧ 16 ≤ (p.guard 15).clean) := by
  and_intros <;> decide +kernel

/-- Plot 287, the last, is hedge 15's and stands in the last entry of its plot map; slice 7 is in state `st`. -/
def wplot (st : Nat) (f : Part → Part) : State :=
  wop fun p => f ((p.fs (SLC_PMAP_VF_PLOT 15 15) 287).setFlag (SLC_PMAP_VF_VALID 15 15) true |>.fs (SLC_PLOT_HEDGE 287) 15
    |>.setFlag (SLC_PLOT_OWNED 287) true |>.fs (SLC_STATUS_STATE 7) st)

/-- `Obligations.Bar2Accesses`: its hypotheses can hold. -/
theorem witness_Bar2Accesses :
    (let s := wplot 2 id
     let off := 15 * 2 ^ 30 + (2 ^ 30 - 1)
     let a := 287 * 2 ^ 30 + (2 ^ 30 - 1)
     s.part.accessOpen 15 = true ∧ s.part.observeBar2 15 off = s.part ∧ s.part.bar2Check 15 off false = .inr a ∧
     off + 1 ≤ s.part.bar2Entries 15 * 2 ^ 30 ∧ s.part.inboundRoom = true ∧ s.part.bar2ReadWaits 15 off 1 = false ∧ s.part.granWaits a 1 = false ∧
     s.part.bar2Check 15 off true = .inl 5 ∧ PlainMem s.dev a 1) ∧
    (let s := wplot 2 fun p => p.updBr fun b => { b with locked := [(287 * 2 ^ 30) / 64] }
     let off := 15 * 2 ^ 30
     let a := 287 * 2 ^ 30
     s.part.accessOpen 15 = true ∧ s.part.observeBar2 15 off = s.part ∧ s.part.bar2Check 15 off false = .inr a ∧
     off + 64 ≤ s.part.bar2Entries 15 * 2 ^ 30 ∧ s.part.inboundRoom = true ∧ s.part.bar2ReadWaits 15 off 64 = true ∧
     PlainMem s.dev a 64) ∧
    (∀ e ∈ ([(0, 2)] : List (Nat × Nat)),
      let s := wplot e.1 id
      let off := 15 * 2 ^ 30
      s.part.accessOpen 15 = true ∧ s.part.observeBar2 15 off = s.part ∧ s.part.bar2Check 15 off false = .inl e.2 ∧
      off + 64 ≤ s.part.bar2Entries 15 * 2 ^ 30 ∧ s.part.inboundRoom = true ∧ s.part.bar2ReadWaits 15 off 64 = false) ∧
    (let s := wop id
     s.part.accessOpen 15 = true ∧ s.part.observeBar2 15 0 = s.part ∧ s.part.bar2Check 15 0 false = .inl 1 ∧ 0 + 1 ≤ s.part.bar2Entries 15 * 2 ^ 30 ∧
     s.part.inboundRoom = true ∧ s.part.bar2ReadWaits 15 0 1 = false) := by
  dsimp only; simp only [plainMem_iff]; and_intros <;> decide +kernel

/-- A memory request of hedge 15 at slice 7, with its waiting tokens. -/
def wreq (r : SReq) (toks : List SlTok) : State :=
  wop fun p => { forN 64 (fun b p => p.setReg (FAB_BRK_OWNER b) 31) (p.fs (SLC_STATUS_STATE 7) 2) with
    slc := { p.slc with reqs := [(qkey 7 15 255, some r)], inq := [(qkey 7 15 255, toks)] }
    fab := { p.fab with streams := [(skey 15 5, { credit := 1, dests := [3] })] } }

/-- `Obligations.MemoryStreamsMoveData`: its hypotheses can hold. -/
theorem witness_MemoryStreamsMoveData :
    (∀ e ∈ ([(1, 287 * 2 ^ 30 + 32, 64, []), (1, 287 * 2 ^ 30, 64, []), (2, 287 * 2 ^ 30 + 32, 32, [⟨63, 0, 5⟩])] : List (Nat × Nat × Nat × List SlTok)),
      let r : SReq := { op := e.1, reply := 5, fin := false, word0 := 1, addr := e.2.1, left := e.2.2.1 }
      let s := wreq r e.2.2.2
      s.part.isRelease 7 15 255 = false ∧ s.part.slc.discard.contains (qkey 7 15 255) = false ∧ s.part.sreq (qkey 7 15 255) = some r ∧
      s.part.sliceUp 7 = true ∧ r.addr % 32 = 0 ∧ s.part.granHeld r.addr 1 = false ∧ s.part.flag (FAB_STALL_STALLED 15) = false ∧ r.out = [] ∧ r.buf = [] ∧
      s.part.claimed 7 15 255 = false ∧ (s.part.stream 15 r.reply).credit = 1 ∧ s.part.inq (qkey 7 15 255) = e.2.2.2 ∧
      PlainMem s.dev r.addr (64 - r.addr % 64)) := by
  dsimp only; simp only [plainMem_iff]; decide +kernel

/-- A schedule of one entry for frond 4079, with what is under way of it, at slice 7. -/
def wsched (state : Tab Nat) (active : Tab (Option SAct)) (toks : List SlTok) : State :=
  wplot 2 fun p => { forN 64 (fun b p => p.setReg (FAB_BRK_OWNER b) 31) p with
    slc := { p.slc with
      windows := [(4079, { buffers := 2, base := 16, words := 20, ready := 5, release := 77, state := state, next := 0, pass := 4 })]
      scheds := [(8 * 15 + 7, { entries := [⟨287 * 2 ^ 30 + 32, 64, 4079, 1⟩], active := active })]
      inq := [(qkey 7 15 77, toks)] } }

/-- `Obligations.WeightSchedulesFillBuffers`: its hypotheses can hold. -/
theorem witness_WeightSchedulesFillBuffers :
    (let s := wsched [(0, 1)] [] []
     (s.part.sched 7 15).entries[0]? = some ⟨287 * 2 ^ 30 + 32, 64, 4079, 1⟩ ∧
     ((s.part.sched 7 15).ownOf 4079)[(s.part.window 4079).next]? = some 0 ∧ Tab.get 0 1 (s.part.window 4079).state = 0) ∧
    (∀ a ∈ ([⟨0, 3, none, none⟩, ⟨32, 3, none, none⟩, ⟨32, 3, none, some (List.replicate 32 7)⟩] : List SAct),
      let s := wsched [(0, 1)] [(0, some a)] []
      let at' := 287 * 2 ^ 30 + 32 + a.written
      (s.part.sched 7 15).entries[0]? = some ⟨287 * 2 ^ 30 + 32, 64, 4079, 1⟩ ∧ Tab.get none 0 (s.part.sched 7 15).active = some a ∧
      a.written + 32 ≤ 64 ∧ (64 - a.written) % 32 = 0 ∧ at' % 32 = 0 ∧ a.bad = none ∧ s.part.servedEntry 7 = some (8192 * 15 + 0) ∧
      s.part.flag (FAB_STALL_STALLED 15) = false ∧ s.part.sliceUp 7 = true ∧ s.part.plotOwner (at' / 2 ^ 30) = some 15 ∧ s.part.granHeld at' 1 = false ∧
      PlainMem s.dev at' (min (64 - a.written) (64 - at' % 64))) ∧
    (let s := wsched [(0, 1)] [(0, some ⟨64, 3, none, none⟩)] []
     (s.part.sched 7 15).entries[0]? = some ⟨287 * 2 ^ 30 + 32, 64, 4079, 1⟩ ∧ Tab.get none 0 (s.part.sched 7 15).active = some ⟨64, 3, none, none⟩ ∧
     (s.part.stream (s.part.frondHedge 4079) (s.part.window 4079).ready).credit = 0) ∧
    (let s := wsched [(1, 2)] [] [⟨63, 0, 1⟩]
     s.part.releaseFrond 7 15 77 = some 4079 ∧ s.part.inq (qkey 7 15 77) = [⟨63, 0, 1⟩] ∧ payWord (1 : Payload) 0 = 1 ∧
     1 < (s.part.window 4079).buffers ∧ Tab.get 0 1 (s.part.window 4079).state = 2) := by
  dsimp only; simp only [plainMem_iff]; and_intros <;> decide +kernel

/-- `Obligations.SliceUpkeep`: its hypotheses can hold. -/
theorem witness_SliceUpkeep :
    (let p := (wop fun p => ((p.fs (SLC_STATUS_STATE 7) 2).setFlag (SLC_SCRUB_ENABLE 7) true).setGran (288 * 2 ^ 24 - 1) 1).part
     let G := 7 * 36 * 2 ^ 24 + (36 * 2 ^ 24 - 1)
     p.sliceUp 7 = true ∧ p.flag (SLC_SCRUB_ENABLE 7) = true ∧ p.unfilled (64 * G) = false ∧ p.gran G = 1 ∧ p.granHeld (64 * G) 64 = false ∧
     p.fg ⟨SLC_CE 7, 0, 31⟩ + 2 < 2 ^ 31) ∧
    (let p := (wop fun p => (p.fs (SLC_STATUS_STATE 7) 2).setFlag (SLC_PLOT_STALE 287) true).part
     let page := 2 ^ 18 - 1
     p.sliceUp (287 / 36) = true ∧ p.flag (SLC_PLOT_STALE 287) = true ∧ p.granHeld (287 * 2 ^ 30 + page * 4096) 4096 = false ∧
     (Tab.get [] 287 p.slc.filled).contains page = false ∧ (Tab.get [] 287 p.slc.filled).length + 1 < 2 ^ 18) ∧
    (wop id).part.available 12 = true ∧ (wop id).part.pfOpen = true ∧ (wplot 2 id).part.plotOwner 287 = some 15 ∧
    (wop fun p => p.fs (SLC_STATUS_STATE 7) 2).part.sliceUp 7 = true ∧
    (let p := (wop fun p => { p with slc := { p.slc with backoff := [(7, 100)] } }).part
     p.fg (SLC_STATUS_STATE 7) = 0 ∧ Tab.get 0 7 p.slc.backoff ≠ 0) := by
  and_intros <;> decide +kernel

/-- `PlainMem` as a test. -/
def plainAt (d : Dev) (a n : Nat) : Bool :=
  (List.range n).all fun i => d.p.gran ((a + i) / 64) == 0 && !d.p.unfilled (a + i) && !d.p.mirrored (a + i)

theorem plainAt_spec {d : Dev} {a n : Nat} (h : plainAt d a n = true) : PlainMem d a n :=
  (plainMem_iff d a n).2 fun i hi => by simpa [and_assoc] using List.all_eq_true.1 h i (List.mem_range.2 hi)

/-- A codec request of hedge 15 at slice 7 on its enabled region 15, with its waiting tokens. -/
def wkvc (q : SReq) (toks : List SlTok) : State :=
  wop fun p =>
    let p := forN 36 (fun j p => (p.fs (SLC_PLOT_HEDGE (252 + j)) 15).setFlag (SLC_PLOT_OWNED (252 + j)) true)
      (forN 64 (fun b p => p.setReg (FAB_BRK_OWNER b) 31) (p.fs (SLC_STATUS_STATE 7) 2))
    { (p.fs (KVC_RGN_INDEX_COUNT 7 15) 100 |>.fs (KVC_RGN_DATA_DATA_BASE 7 15) 50 |>.fs (KVC_RGN_WPTR_WPTR 7 15) 60
      |>.setReg (KVC_RGN_CFG 7 15) (1 + 15 * 2 + 2 ^ 8 + 33 * 2 ^ 12 + 3 * 2 ^ 18) |>.setReg (KVC_SMAP 7 127) 0x80000000) with
      slc := { p.slc with reqs := [(qkey 7 15 255, some q)], inq := [(qkey 7 15 255, toks)] } }

/-- `Obligations.KvCodecCommands`: its hypotheses can hold. -/
theorem witness_KvCodecCommands :
    (wop id).part.available 12 = true ∧ (wop id).part.pfOpen = true ∧
    ((wkvc { op := 3, reply := 5, fin := false, word0 := 1 } []).part.region 7 15).enable = true ∧ ((wop id).part.region 7 15).enable = false ∧
    (∀ e ∈ ([(1, []), (2, [(0, 1)])] : List (Nat × List (Nat × Payload))),
      let q : SReq := { op := 3, reply := 5, fin := false, word0 := 1, region := 15, block := 99, blocks := e.1, out := e.2 }
      let s := wkvc q []
      let p := s.part
      let k := qkey 7 15 255
      let R := p.region 7 q.region
      p.isRelease 7 15 255 = false ∧ p.slc.discard.contains k = false ∧ p.sreq k = some q ∧ p.hs.br.locked = [] ∧ (q.blocks = 1 ∨ q.out ≠ []) ∧
      q.out.length ≤ R.raw / 32 ∧ p.sliceUp 7 = true ∧ (p.stream 15 q.reply).credit = 0 ∧
      ∃ a0, p.regionAddr 7 R (R.index + q.block / 8) = some a0 ∧ PlainMem s.dev (a0 + q.block % 8 * 8) 8 ∧
        s.dev.bytes (a0 + q.block % 8 * 8) 8 = List.replicate 8 0) ∧
    (let q : SReq := { op := 4, reply := 5, fin := false, word0 := 1, region := 15, block := 99, blocks := 1 }
     let p := (wkvc q [⟨63, 0, 5⟩]).part
     let k := qkey 7 15 255
     p.isRelease 7 15 255 = false ∧ p.slc.discard.contains k = false ∧ p.sreq k = some q ∧ p.hs.br.locked = [] ∧ p.claimed 7 15 255 = true ∧
     p.inq k = [⟨63, 0, 5⟩] ∧ 32 * (q.buf.length + 1) < (p.region 7 q.region).raw) := by
  refine ⟨?_, ?_, ?_, ?_, ?_, ?_⟩
  · decide +kernel
  · decide +kernel
  · decide +kernel
  · decide +kernel
  · intro e he
    have hs : ∀ e ∈ ([(1, []), (2, [(0, 1)])] : List (Nat × List (Nat × Payload))),
        let q : SReq := { op := 3, reply := 5, fin := false, word0 := 1, region := 15, block := 99, blocks := e.1, out := e.2 }
        let s := wkvc q []
        let p := s.part
        let k := qkey 7 15 255
        let R := p.region 7 q.region
        p.isRelease 7 15 255 = false ∧ p.slc.discard.contains k = false ∧ p.sreq k = some q ∧ p.hs.br.locked = [] ∧ (q.blocks = 1 ∨ q.out ≠ []) ∧
        q.out.length ≤ R.raw / 32 ∧ p.sliceUp 7 = true ∧ (p.stream 15 q.reply).credit = 0 ∧
        (p.regionAddr 7 R (R.index + q.block / 8)).any (fun a0 =>
          plainAt s.dev (a0 + q.block % 8 * 8) 8 && s.dev.bytes (a0 + q.block % 8 * 8) 8 == List.replicate 8 0) = true := by
      decide +kernel
    have h := hs e he
    refine ⟨h.1, h.2.1, h.2.2.1, h.2.2.2.1, h.2.2.2.2.1, h.2.2.2.2.2.1, h.2.2.2.2.2.2.1, h.2.2.2.2.2.2.2.1, ?_⟩
    obtain ⟨a, ha, hb⟩ := Option.any_eq_true _ _ |>.1 h.2.2.2.2.2.2.2.2
    rw [Bool.and_eq_true, beq_iff_eq] at hb
    exact ⟨a, ha, plainAt_spec hb.1, hb.2⟩
  · decide +kernel

/-- The register of an address. -/
def wdesc (k : Nat) : RegDesc := (findDesc k).getD ⟨0, 0, 0, 0, 0, 0, []⟩

/-- `Obligations.RegisterWriteFollowsAccessCodes`: its hypotheses can hold. -/
theorem witness_RegisterWriteFollowsAccessCodes :
    ∀ e ∈ ([(GBL_IRQ_MASK, GBL_IRQ_MASK, 32), (ATU_WIN_BASE 63, ATU_WIN_BASE 63, 64), (ATU_WIN_BASE 63 + 4, ATU_WIN_BASE 63, 32)] : List (Nat × Nat × Nat)),
      let s := wop id
      let d := wdesc e.2.1
      s.part.locate (.fn 0) 0 e.1 = .reg e.1 ∧ s.part.locOpen (.fn 0) (.reg e.1) = true ∧ s.part.locAbsent (.fn 0) (.reg e.1) = false ∧
      regAccess e.1 e.2.2 = true ∧ e.1 ≠ 0x1000008 ∧ findDesc e.2.1 = some d ∧ (e.2.1 = FRM_CTRL 0 → s.part.fg (FRM_STATUS_WIDTH 0) = 0) ∧
      ((e.2.2 = 32 ∧ e.2.1 = e.1) ∨ (e.2.2 = 64 ∧ e.2.1 = e.1 ∧ d.width = 64) ∨ (e.2.2 = 32 ∧ e.1 = e.2.1 + 4 ∧ findDesc e.1 = none ∧ d.width = 64)) := by
  decide +kernel

/-- `Obligations.WritesToOtherPlaces`: its hypotheses can hold. -/
theorem witness_WritesToOtherPlaces :
    (wop id).part.locate (.fn 0) 0 0x200 = .dir 0 0x200 ∧ (wop id).part.locOpen (.fn 0) ((wop id).part.locate (.fn 0) 0 0xFFFFFFFF) = false ∧
    ((wop id).part.locate (.fn 0) 0 (GBL_IRQ_MASK + 2) = .reg (GBL_IRQ_MASK + 2) ∧ regAccess (GBL_IRQ_MASK + 2) 32 = false) ∧
    (let p := (wop fun p => { p with sor := { p.sor with rails := false } }).part
     p.locate (.fn 0) 0 SOR_TRIG_PHASE = .reg SOR_TRIG_PHASE ∧ p.locAbsent (.fn 0) (.reg SOR_TRIG_PHASE) = true ∧ regAccess SOR_TRIG_PHASE 32 = true) ∧
    (let p := (wop fun p => p.fs (MBX_STATUS_STATE 0) 1).part
     p.locate (.fn 0) 0 0x200000 = .box 0 0 ∧ p.fg (MBX_STATUS_STATE 0) = 1) ∧
    (let p := (wop id).part
     p.locate (.fn 0) 0 0x200FF8 = .box 0 0xFF8 ∧ p.locOpen (.fn 0) (.box 0 0xFF8) = true ∧ p.fg (MBX_STATUS_STATE 0) ≠ 1 ∧ 0xFF8 + 64 / 8 ≤ 0x1000) ∧
    (let p := (wop id).part
     p.locate (.fn 0) 0 0x1000008 = .reg 0x1000008 ∧ p.locOpen (.fn 0) (.reg 0x1000008) = true ∧ regAccess 0x1000008 32 = true ∧ isFrond ((4079 : Dword).toNat % 4096)) := by
  and_intros <;> decide +kernel

/-- `Obligations.RegisterReadsAndHeldWords`: its hypotheses can hold. -/
theorem witness_RegisterReadsAndHeldWords :
    (let p := (wop fun p => p.updFunc 15 fun f => { f with d3 := true }).part
     regAccess 0 32 = true ∧ p.accessOpen 15 = false ∧ p.ep.perst = false) ∧
    (∀ e ∈ ([(GBL_IRQ_MASK, 32), (DB_DONE 255, 64), (TIM_NOW, 64)] : List (Nat × Nat)),
      let p := (wop id).part
      let d := wdesc e.1
      p.locate (.fn 0) 0 e.1 = .reg e.1 ∧ p.locOpen (.fn 0) (.reg e.1) = true ∧ p.locAbsent (.fn 0) (.reg e.1) = false ∧ e.1 ≠ 0x1000008 ∧
      findDesc e.1 = some d ∧ regAccess e.1 e.2 = true ∧ (e.2 = 32 ∨ e.2 = 64 ∧ d.width = 64)) ∧
    (let p := (wop id).part
     isWide (wdesc (DB_DONE 255)) = true ∧ DB_DONE 255 % 8 = 0 ∧ p.locate (.fn 0) 0 (DB_DONE 255 + 4) = .reg (DB_DONE 255 + 4) ∧
     p.locOpen (.fn 0) (.reg (DB_DONE 255 + 4)) = true ∧ p.locAbsent (.fn 0) (.reg (DB_DONE 255 + 4)) = false) := by
  and_intros <;> decide +kernel

/-- `Obligations.TimeUnit`: its hypotheses can hold. -/
theorem witness_TimeUnit :
    (let p := (wop id).part
     p.boot.stage ≠ 0 ∧ (p.time / 10 ^ 9 + 1) * 10 ^ 9 < 2 ^ 64 ∧
     (∀ n < 8, p.fg (SLC_CE_LIMIT_LIMIT n) = 0 ∨ (Tab.get (0, false) n p.slc.ceSec).1 ≤ p.fg (SLC_CE_LIMIT_LIMIT n)) ∧
     p.available 10 = true ∧ p.pfOpen = true ∧ max p.time 999999999 % 2 ^ 64 / 10 ^ 9 = p.time / 10 ^ 9) := by
  decide +kernel

/-- `Obligations.LinkTrainingAndChanges`: its hypotheses can hold. -/
theorem witness_LinkTrainingAndChanges :
    (let p := (wop fun p => { p with ep := { p.ep with linkUp := false } }).part
     p.boot.stage ≠ 0 ∧ p.ep.linkUp = false) ∧
    (let p := (wop id).part
     p.ep.linkUp = true ∧ (∀ e ∈ ([(4, 16), (5, 15), (6, 1)] : List (Nat × Nat)), min e.1 p.ep.speed < p.ep.upSpeed ∨ min e.2 p.ep.width < p.ep.upWidth) ∧
     p.ep.upSpeed ≤ min 6 p.ep.speed ∧ p.ep.upWidth ≤ min 16 p.ep.width ∧ ¬ p.ep.degraded = true) ∧
    (let p := (wop fun p => { p with ep := { p.ep with degraded := true } }).part
     p.ep.linkUp = true ∧ p.ep.degraded = true ∧ min 6 (if p.ep.flit then 6 else 5) = p.ep.upSpeed ∧ 16 = p.ep.upWidth) ∧
    (let p := (wop fun p => p.cfgWrite 0 0x70 15 2).part
     p.ep.linkUp = true ∧ (p.cfgRead 0 0x70).testBit 1 = true) := by
  and_intros <;> decide +kernel

/-- `Obligations.ConfigurationRequests`: its hypotheses can hold. -/
theorem witness_ConfigurationRequests :
    (∀ g ∈ ([id, fun p => { p with ep := { p.ep with crs := true } }, fun p => p.updFunc 15 fun F => { F with resetting := true }] : List (Part → Part)),
      (wop g).part.ep.perst = false ∧ (wop g).part.ep.linkUp = true) ∧
    (wop fun p => { p with ep := { p.ep with crs := true } }).part.ep.crs = true ∧
    ((wop fun p => p.updFunc 15 fun F => { F with resetting := true }).part.func 15).resetting = true ∧
    (let p := (wop id).part
     p.ep.crs = false ∧ (p.func 16).resetting = false ∧ p.fnReach 16 = false ∧ (p.func 15).resetting = false ∧ p.fnReach 15 = true) ∧
    (let p := (wop fun p => p.cfgWrite 0 0x168 15 0).part
     p.ep.crs = false ∧ (p.func 15).resetting = false ∧ p.fnReach 15 = false ∧ p.fnReach 7 = true) := by
  and_intros <;> decide +kernel

/-- `Obligations.RomWindowAndInterruptMasks`: its hypotheses can hold. -/
theorem witness_RomWindowAndInterruptMasks :
    (let p := (wop fun p => p.cfgWrite 0 0x30 15 0xFFF00001).part
     p.inboundRoom = true ∧ p.accessOpen 0 = true ∧ p.ep.crs = false ∧ (p.cfgRead 0 0x30).testBit 0 = true ∧ p.romBusy = false ∧ p.ep.rom = []) ∧
    (let p := (wop fun p => { p.cfgWrite 0 0x30 15 0xFFF00001 with
       boot := { p.boot with push := some { slot := 2, boot := false, addr := 0, size := 1, mbx := none, img := some [0] } } }).part
     p.inboundRoom = true ∧ p.accessOpen 0 = true ∧ p.ep.crs = false ∧ (p.cfgRead 0 0x30).testBit 0 = true ∧ p.romBusy = true) ∧
    (let p := (wop id).part
     p.inboundRoom = true ∧ (p.cfgRead 0 0x30).testBit 0 = false) ∧
    (let p := (wop id).part
     (∀ v ∈ [1, 15], p.accessOpen v = true ∧ p.finds v 1 = true) ∧ p.available 1 = true ∧ p.pfOpen = true) := by
  and_intros <;> decide +kernel

/-- `Obligations.ResetsOfTheQuicksetDie`: its hypotheses can hold. -/
theorem witness_ResetsOfTheQuicksetDie :
    (let p := (wop id).part
     p.boot.stage ≠ 0 ∧ p.core.ret.length ≤ 61 ∧ p.ep.linkUp = true ∧ p.qsDown = false ∧ (p.frm 0).aligned = false) ∧
    (let p := (wst id).part
     p.boot.stage = 0 ∧ ({ p with ep := { p.ep with perst := false } } : Part).qsDown = true) ∧
    (let p := (wop fun p => { p with boot := { p.boot with stage := 0 }, ep := { p.ep with perst := true } }).part
     p.boot.stage = 0 ∧ ({ p with ep := { p.ep with perst := false } } : Part).qsDown = false ∧
     p.fg LCH_BOOT_ATTEMPTS_COUNT + 2 < 2 ^ LCH_BOOT_ATTEMPTS_COUNT.w) := by
  and_intros <;> decide +kernel

/-- `Obligations.FunctionResetsAndPowerStates`: its hypotheses can hold. -/
theorem witness_FunctionResetsAndPowerStates :
    (let p := (wop id).part
     2 ≤ p.boot.stage ∧ p.fnExists 15 = true ∧ (p.func 15).resetting = false ∧ (p.func 0).resetting = false ∧ p.ep.crs = false ∧ p.ep.vfEnable = true) ∧
    (∀ f ∈ [0, 15], ((wop fun p => p.updFunc f fun F => { F with resetting := true }).part.func f).resetting = true) ∧
    ((wop fun p => p.updFunc 15 fun F => { F with d3 := true }).part.func 15).d3 = true := by
  and_intros <;> decide +kernel

/-- Queue pair 255 of hedge 15 with rings of 16 entries, SQ_HEAD 10, the tail 15 and the head 3. -/
def wdb (f : Part → Part) : State :=
  wop fun p => f ((p.updQp 255 fun Q => { Q with exist := true, owner := some 15, sqSize := 16, cqSize := 16, sqTail := 15, cqHead := 3 }).fs (DB_SQ_HEAD_HEAD 255) 10)

/-- `Obligations.Doorbells`: its hypotheses can hold. -/
theorem witness_Doorbells :
    (wst id).part.accessOpen 15 = false ∧ (wop fun p => p.fs GBL_STATUS_SERVICE 1).part.finds 15 2 = false ∧
    (let p := (wdb id).part
     let Q := p.qp 255
     let sq := p.fg (DB_SQ_HEAD_HEAD 255)
     p.accessOpen 15 = true ∧ p.finds 15 2 = true ∧ p.dbBad 15 (p.dbPage 15 0) 16 = true ∧ p.dbPage 15 0 = some 255 ∧
     p.dbBad 15 (some 255) 32 = false ∧ p.dbBad 15 (some 255) 64 = false ∧ Q.sqSize ≤ 16 ∧ 15 < Q.sqSize ∧ 15 = Q.sqTail ∧
     (14 + Q.sqSize - sq) % Q.sqSize < (Q.sqTail + Q.sqSize - sq) % Q.sqSize ∧ 0 < Q.sqSize ∧ 0 ≠ Q.sqTail ∧
     (Q.sqTail + Q.sqSize - sq) % Q.sqSize ≤ (0 + Q.sqSize - sq) % Q.sqSize ∧ 15 < Q.cqSize ∧ Q.cqSize ≤ 16) := by
  and_intros <;> decide +kernel

/-- Queue pair 255 with one SEND under way, and with request 2 of an agent that came back with or without a failure. -/
def wdesc5 (a : Agent) (data : List Byte) (bad : List (Nat × Nat)) : State :=
  wop fun p => { p with hs := { p.hs with
    qps := [(255, { exist := true, owner := some 3, sqSize := 16, cqSize := 16, sqTail := 9, cqHead := 3, fetching := some 2
                    descs := [⟨5, 1, true, false, false, 4, 9, 0x1000, 128, false, [], 2, 64, [(0, 0)], 0, 0, 0, 0, 0, 0⟩], nextId := 6 })]
    atu := { p.hs.atu with np := [(2, some { agent := a, hedge := 3, fn := 3, addr := 0x1000, len := 64, want := 64, phase := .back data bad })] } } }

/-- `Obligations.DescriptorsAndTheirData`: its hypotheses can hold. -/
theorem witness_DescriptorsAndTheirData :
    (∀ bad ∈ ([[(5, 1)], [(0, 0), (0, 0)]] : List (List (Nat × Nat))),
      let p := (wdesc5 (.fetch 255) (List.replicate 64 0) bad).part
      p.np 2 = some { agent := .fetch 255, hedge := 3, fn := 3, addr := 0x1000, len := 64, want := 64, phase := .back (List.replicate 64 0) bad } ∧
      (p.qp 255).fetching = some 2 ∧ (p.qp 255).sqSize ≤ 2 ^ 16 ∧ 0 < (p.qp 255).sqSize) ∧
    (let p := (wdesc5 (.send 255 5) (List.replicate 64 0) [(0, 0), (0, 0)]).part
     p.np 2 = some { agent := .send 255 5, hedge := 3, fn := 3, addr := 0x1000, len := 64, want := 64, phase := .back (List.replicate 64 0) [(0, 0), (0, 0)] } ∧
     (p.qp 255).descs = [⟨5, 1, true, false, false, 4, 9, 0x1000, 128, false, [], 2, 64, [(0, 0)], 0, 0, 0, 0, 0, 0⟩] ∧
     p.npOf (.send 255 5) = some 2 ∧ ∀ b ∈ ([(0, 0), (0, 0)] : List (Nat × Nat)), b.1 = 0) := by
  and_intros <;> decide +kernel

/-- `Obligations.EventRingCommands`: its hypotheses can hold. -/
theorem witness_EventRingCommands :
    ((wst id).part.accessOpen 15 = false ∧ (wop fun p => p.fs GBL_STATUS_SERVICE 1).part.finds 15 6 = false ∧ ringReach 15 16 = false) ∧
    (∀ e ∈ ([(15, 15), (0, 16), (0, 15)] : List (Nat × Nat)), ∀ on ∈ [false, true],
      let p := (wop fun p => p.setFlag (EVT_CFG_ENABLE e.2) on).part
      p.accessOpen e.1 = true ∧ p.finds e.1 6 = true ∧ ringReach e.1 e.2 = true ∧ p.flag (EVT_CFG_ENABLE e.2) = on ∧ (p.ring e.2).held = []) := by
  and_intros <;> decide +kernel

/-- A lookup that waits for its Translation Completion, with ATS of VF 15 on or off. -/
def wxl (on : Bool) (x : Xlate) : State :=
  wop fun p => p.updAtu (fun t => { t with xl := [x] }) |>.cfgWrite 15 0x154 15 (if on then 0x80000000 else 0)

/-- A page request of hedge 15 in the last slot. -/
def wpri : State := wop fun p => p.updAtu fun t => { t with preqs := [(511, some ⟨15, 7, 0x5000, 15⟩)] }

/-- A read of a descriptor ring that has left. -/
def wread : NpReq := { agent := .fetch 255, hedge := 3, fn := 3, addr := 0x1000, len := 128, want := 128, phase := .sent }

/-- `Obligations.TranslationAndCompletions`: its hypotheses can hold. -/
theorem witness_TranslationAndCompletions :
    (∀ on ∈ [false, true], ∀ stale ∈ [false, true],
      let x : Xlate := ⟨.fetch 255, 15, 15, 7, 0x5000, false, 0, .ats 4 stale, 0x5000⟩
      let t := (wxl on x).part.hs.atu
      t.xl.find? (fun x => decide (x.phase = .ats 4 false) || decide (x.phase = .ats 4 true)) = some x ∧ (wxl on x).part.atsOn x.fn = on ∧ x.write = false ∧
      t.atc.length < 8192) ∧
    (let t := (wop id).part.hs.atu
     (wop id).part.fnExists 15 = true ∧ t.invals.length < 32 ∧ t.invals = [] ∧ t.np = [] ∧ t.posted = [] ∧ t.xl = []) ∧
    Tab.get none 511 wpri.part.hs.atu.preqs = some ⟨15, 7, 0x5000, 15⟩ ∧ (wop id).part.available 4 = true ∧ (wop id).part.pfOpen = true ∧
    (let p := (wop fun p => p.updAtu fun t => { t with np := [(2, some wread)] }).part
     p.np 2 = some wread ∧ wread.agent ≠ .gone ∧ (∀ c < 4, Tab.get none c p.hs.br.pend = none) ∧ wread.len ≤ (List.replicate 128 (0 : Byte)).length ∧
     (p.cfgRead wread.fn (if wread.fn = 0 then 0x88 else 0x78)).testBit 4 = false) ∧
    (∀ dirty ∈ [false, true],
      (wop fun p => p.setLine 5 (some ⟨List.replicate 64 1, true, dirty⟩)).part.line 5 = some ⟨List.replicate 64 1, true, dirty⟩) := by
  and_intros <;> decide +kernel

/-- Window 0 leads from host address 0x100000 to plot 5, which hedge 0 owns; plot 287 is hedge 15's. -/
def wloc (f : Part → Part) : State :=
  wplot 2 fun p => f (((p.setReg (ATU_WIN_CFG 0) (1 + 4 * 2 + 2 ^ 16)).setReg (ATU_WIN_BASE 0) 0x100000).setReg (ATU_WIN_LIMIT 0) 0x1FFFFF
    |>.setReg (ATU_WIN_TARGET 0) (5 * 2 ^ 30) |>.setFlag (SLC_PLOT_OWNED 5) true |>.fs (SLC_STATUS_STATE 0) 2)

/-- `Obligations.AtomicOperations`: its hypotheses can hold. -/
theorem witness_AtomicOperations :
    (let s := wloc id
     let p := s.part
     let off := 15 * 2 ^ 30 + 56
     let a := 287 * 2 ^ 30 + 56
     p.accessOpen 15 = true ∧ p.inboundRoom = true ∧ atomicLegal 1 8 = true ∧ a % 8 = 0 ∧ p.observeBar2 15 off = p ∧ p.bar2Check 15 off false = .inr a ∧
     p.atomicWaits ⟨15, 2, off, 1, 8, 0, 0, false, 0⟩ = false ∧ PlainMem s.dev a 8) ∧
    (let p := (wop fun p => p.updBr fun b => { b with locked := [77] }).part
     p.hs.br.locked.contains 77 = true ∧ p.hs.br.waiting = [] ∧ p.hs.br.locked.contains 78 = false) ∧
    (let s := wloc id
     let p := s.part
     let o := 5 * 2 ^ 30 + 56
     let p1 := ((p.setRes 3 none).xlate (.core 3) 0 0x100038 false).2
     (p.setRes 3 none).xlate (.core 3) 0 0x100038 false = (.loc o, p1) ∧ p1.granHeld o 8 = false ∧ PlainMem { s.dev with p := p1 } o 8 ∧ o % 64 + 8 ≤ 64) ∧
    Tab.get none 3 (wop id).part.hs.br.reserv = none ∧
    (let s := wloc fun p => p.setRes 3 (some ⟨0x100008, 8, 0, none⟩)
     let p := s.part
     let o := 5 * 2 ^ 30 + 8
     let p1 := (p.xlate (.core 3) 0 0x100008 true).2
     Tab.get none 3 p.hs.br.reserv = some ⟨0x100008, 8, 0, none⟩ ∧ p.xlate (.core 3) 0 0x100008 true = (.loc o, p1) ∧
     p1.hs.br.locked.length < 60 ∧ p1.hs.br.locked.contains (o / 64) = false ∧ PlainMem { s.dev with p := p1 } o 8 ∧ o % 64 + 8 ≤ 64 ∧
     leNat (Dev.bytes { s.dev with p := p1 } o 8) = 0) ∧
    (wop id).part.available 5 = true ∧ (wop id).part.pfOpen = true ∧ (wop id).part.fg HBR_CTRL_ATOMIC_MODE = 0 := by
  dsimp only; simp only [plainMem_iff]; and_intros <;> decide +kernel

/-- Mailbox `m` runs a command of an opcode in full service, after a change of the part. -/
def wmb (m op h : Nat) (args : List Byte) (f : Part → Part) : State := wop fun p => wcmd m op h args (f p)

/-- The mailbox serves the command on a hedge, which is not lost to it. -/
abbrev Runs (s : State) (m h op : Nat) : Prop :=
  s.part.mbxHedge m = h ∧ s.part.hedgeBad m = false ∧ (vfBox m = true → s.part.hedgeExists m = true) ∧ s.part.serves m op = true

/-- Hedge 15 exists. -/
def w15 (p : Part) : Part := p.updHedge 15 fun H => { H with exist := true }

/-- Queue pair 255 exists with rings of 16 entries, hedge 15's. -/
def w255 (p : Part) : Part := p.updQp 255 fun Q => { Q with exist := true, owner := some 15, sqSize := 16, cqSize := 16 }

/-- `Obligations.MailboxProtocol`: its hypotheses can hold. -/
theorem witness_MailboxProtocol :
    ((wst id).part.accessOpen 15 = false ∧ (wop fun p => { p with ep := { p.ep with avail := 0 } }).part.finds 15 3 = false) ∧
    (∀ m ∈ [0, 15, 16], ∀ st < 4,
      let p := (wop fun p => p.fs (MBX_STATUS_STATE m) st).part
      let f := if 1 ≤ m ∧ m ≤ 15 then m else 0
      p.accessOpen f = true ∧ p.finds f 3 = true ∧ p.fg (MBX_STATUS_STATE m) = st) ∧
    (let p := (wmb 16 0x0101 0 [] fun p => p.updMbx 16 fun b => { b with ended := true }).part
     p.fg (MBX_STATUS_STATE 16) = 1 ∧ (p.mbx 16).ended = true ∧ p.pushEnds 16 = false ∧ 4 ≤ (p.mbx 16).run.length) := by
  and_intros <;> decide +kernel

/-- `Obligations.MailboxQueries`: its hypotheses can hold. -/
theorem witness_MailboxQueries :
    (∀ op ∈ [0x0101, 0x0102, 0x0103, 0x0C01, 0x0E01, 0x0F02], Runs (wmb 0 op 0 [] id) 0 0 op) ∧
    (⟨0x0101, 2, 0, 0, []⟩ : CmdRow) ∈ cmdTable ∧
    (∀ op ∈ [0x0205, 0x0C02], Runs (wmb 0 op 15 [] w15) 0 15 op) ∧
    (∀ e ∈ ([(0, 0, natLe 2 255), (15, 15, natLe 2 0)] : List (Nat × Nat × List Byte)),
      let s := wmb e.1 0x0304 0 e.2.2 (w15 ∘ w255)
      Runs s e.1 (s.part.mbxHedge e.1) 0x0304 ∧ s.part.cmdQp e.1 0 = some 255 ∧ (s.part.qp 255).owner = some 15 ∧
      s.part.arg e.1 0 2 ≤ (if vfBox e.1 then 31 else 255)) ∧
    (∀ im ∈ ([none, some { row := 1, col := 2, rows := 3, cols := 4 }] : List (Option Image)),
      let s := wmb 0 0x0403 15 [] fun p => p.updHedge 15 fun H => { H with exist := true, image := im }
      Runs s 0 15 0x0403 ∧ (s.part.hedge 15).image = im) ∧
    (let s := wmb 0 0x0504 15 [7] w15
     Runs s 0 15 0x0504 ∧ s.part.arg 0 0 1 ≤ 7 ∧ s.part.hedgeExists 15 = true) ∧
    (let s := wmb 0 0x0603 0 [7, 15] id
     Runs s 0 0 0x0603 ∧ s.part.arg 0 0 1 ≤ 7 ∧ s.part.arg 0 1 1 ≤ 15 ∧ s.part.regionForeign 0 7 15 = false) ∧
    (let s := wmb 15 0x0704 0 [63] fun p => (w15 p).fs (ATU_WIN_CFG_HEDGE_MASK 63) 0x8000
     Runs s 15 15 0x0704 ∧ s.part.arg 15 0 1 ≤ 63 ∧ (s.part.fg (ATU_WIN_CFG_HEDGE_MASK 63)).testBit 15 = true) ∧
    (let s := wmb 0 0x0806 0 [] id
     Runs s 0 0 0x0806 ∧ s.part.sor.rails = true) ∧
    (∀ on ∈ [false, true],
      let s := wmb 0 0x0901 0 [] fun p => { p.setFlag LCH_LOOP_STATUS_LOOP_PRESENT true with loop := { p.loop with running := on } }
      Runs s 0 0 0x0901 ∧ s.part.loopHere = on) ∧
    (let r : CoreRec := ⟨9, 3, 1, 77, 5, false⟩
     let s := wmb 0 0x0906 0 [127, 0, 0, 0, 9, 0, 0, 0] fun p => { p with core := { p.core with log := [r] } }
     Runs s 0 0 0x0906 ∧ 1 ≤ s.part.arg 0 0 2 ∧ s.part.arg 0 0 2 ≤ 127 ∧ s.part.nvmBusy = false ∧ s.part.core.log ++ s.part.core.ret = [r] ∧ r.seq = s.part.arg 0 4 4) ∧
    (let s := wmb 0 0x0A02 0 [8] id
     Runs s 0 0 0x0A02 ∧ s.part.arg 0 0 1 ≤ 8) ∧
    (let s := wmb 15 0x0A02 0 [8] fun p => p.updHedge 15 fun H => { H with exist := true, streamPorts := 128 }
     Runs s 15 15 0x0A02 ∧ s.part.arg 15 0 1 ≤ 8 ∧ 1 ≤ s.part.arg 15 0 1 ∧ s.part.portOwner (s.part.arg 15 0 1 - 1) = some 15) ∧
    (let s := wmb 15 0x0B06 0 [] fun p => { w15 p with tw := { p.tw with mirrored := 0x8000 } }
     Runs s 15 15 0x0B06 ∧ s.part.tw.mirrored.testBit 15 = true) := by
  and_intros <;> decide +kernel

/-- PASID 77 stands in the last PASID slot of hedge 15. -/
def w77 (p : Part) : Part := ((w15 p).fs (ATU_PASID_PASID 15 3) 77).setFlag (ATU_PASID_VALID 15 3) true

/-- A read with PASID 77 of hedge 15 is out. -/
def wout (p : Part) : Part :=
  p.updAtu fun t => { t with np := [(2, some { agent := .fetch 255, hedge := 15, fn := 15, addr := 0x1000, len := 64, want := 64, pasid := some 77, phase := .sent })] }

/-- `Obligations.HedgeAndQueueCommands`: its hypotheses can hold. -/
theorem witness_HedgeAndQueueCommands :
    (let s := wmb 0 0x0201 15 [1] id
     Runs s 0 15 0x0201 ∧ s.part.arg 0 0 1 ≤ 1 ∧ s.part.hedgeExists 15 = false) ∧
    (let s := wmb 0 0x0202 15 [] w15
     Runs s 0 15 0x0202 ∧ s.part.hedgeExists 15 = true ∧ (s.part.mbx 0).step = 0 ∧ s.part.pasidsOf 15 = []) ∧
    (let s := wmb 0 0x0202 15 [] (wout ∘ w77)
     Runs s 0 15 0x0202 ∧ s.part.hedgeExists 15 = true ∧ (s.part.mbx 0).step = 0 ∧ s.part.pasidsOf 15 = [77] ∧ s.part.pasidReads 15 77 = true) ∧
    (∀ out ∈ [false, true],
      let s := wmb 0 0x0202 15 [] fun p => ((if out then wout else id) (w15 p)).updMbx 0 fun b => { b with step := 1, waits := [77] }
      Runs s 0 15 0x0202 ∧ (s.part.mbx 0).step ≠ 0 ∧ (s.part.mbx 0).waits.any (s.part.pasidReads 15) = out) ∧
    (let s := wmb 0 0x0203 15 ([0, 255, 1, 0] ++ natLe 4 (2 ^ 32 - 1) ++ natLe 8 (2 ^ 64 - 1)) w15
     let p := s.part
     let a := p.arg 0
     Runs s 0 15 0x0203 ∧ p.hedgeExists 15 = true ∧ a 2 1 ≤ 1 ∧ p.resForeign 15 ⟨a 8 8, a 4 4, a 1 1, a 2 1 == 1⟩ = false ∧ a 0 1 = 0 ∧
     ∀ b < 64, (a 8 8).testBit b = true → p.brkOwner b = none → (p.fg GBL_BRK_FAIL_FAILED).testBit b = false) ∧
    (let s := wmb 0 0x0203 15 ([1, 255, 1, 0] ++ natLe 4 (2 ^ 32 - 1) ++ natLe 8 (2 ^ 64 - 1)) fun p => (w15 p).setReg (FAB_BRK_OWNER 63) 31
     let p := s.part
     let a := p.arg 0
     Runs s 0 15 0x0203 ∧ p.hedgeExists 15 = true ∧ a 2 1 ≤ 1 ∧ p.resForeign 15 ⟨a 8 8, a 4 4, a 1 1, a 2 1 == 1⟩ = false ∧ a 0 1 = 1 ∧ (p.hedge 15).image = none) ∧
    (let s := wmb 0 0x0204 15 [255, 255, 1] w15
     Runs s 0 15 0x0204 ∧ s.part.hedgeExists 15 = true ∧ s.part.arg 0 2 1 ≤ 1) ∧
    (let s := wmb 0 0x0301 15 [0, 0, 255, 0] w15
     let a := s.part.arg 0
     Runs s 0 15 0x0301 ∧ a 2 2 ≤ 255 ∧ (s.part.qp (a 2 2)).exist = false ∧ a 0 1 = 0 ∧ (s.part.qp (a 2 2)).owner = none ∧ (s.part.qpsOf 15).length < 32) ∧
    (let s := wmb 0 0x0301 15 [1, 0, 255, 0] fun p => (w15 p).updQp 255 fun Q => { Q with owner := some 15 }
     let a := s.part.arg 0
     Runs s 0 15 0x0301 ∧ a 2 2 ≤ 255 ∧ (s.part.qp (a 2 2)).exist = false ∧ a 0 1 = 1 ∧ (s.part.qp (a 2 2)).owner = some 15) ∧
    (∀ e ∈ ([(0, 255, 31), (15, 0, 3)] : List (Nat × Nat × Nat)),
      let s := wmb e.1 0x0302 15 (natLe 2 e.2.1 ++ natLe 2 e.2.2 ++ natLe 4 64 ++ natLe 8 0x4000 ++ natLe 8 0x9000 ++ natLe 4 128)
        fun p => (w15 p).updQp 255 fun Q => { Q with owner := some 15 }
      let p := s.part
      let a := p.arg e.1
      Runs s e.1 15 0x0302 ∧ p.hedgeExists 15 = true ∧ p.cmdQp e.1 0 = some 255 ∧ a 0 2 ≤ (if vfBox e.1 then 31 else 255) ∧ (p.qp 255).owner = some 15 ∧
      (p.qp 255).exist = false ∧ 3 ≤ a 2 2 ∧ a 2 2 ≤ 31 ∧ ringSizeOk (a 4 4) = true ∧ ringSizeOk (a 24 4) = true ∧ a 8 8 % 4096 = 0 ∧ a 16 8 % 4096 = 0) ∧
    (let s := wmb 0 0x0303 15 (natLe 2 255) (w15 ∘ w255)
     Runs s 0 15 0x0303 ∧ s.part.cmdQp 0 0 = some 255 ∧ s.part.arg 0 0 2 ≤ 255 ∧ (s.part.qp 255).owner = some 15 ∧ (s.part.qp 255).exist = true) := by
  and_intros <;> decide +kernel

/-- The arguments of a bind of the image `wimg` at an origin. -/
def wbargs (row col : Byte) : List Byte := [row, col, 0, 0, 0, 0, 0, 0] ++ natLe 8 0x1000 ++ natLe 8 96

/-- Every plot of slice 7 is hedge 15's. -/
def w36 (p : Part) : Part := forN 36 (fun j p => (p.fs (SLC_PLOT_HEDGE (252 + j)) 15).setFlag (SLC_PLOT_OWNED (252 + j)) true) (w15 p)

/-- The arguments of a codec region of slice 7. -/
def wrgn (hi lo : Byte) : List Byte := [7, 15, 1, 3, hi, lo, 36, 0] ++ natLe 4 100 ++ natLe 4 0 ++ natLe 8 0 ++ natLe 8 0x10000 ++ natLe 8 0x20000

/-- `Obligations.ImageMemoryAndWindowCommands`: its hypotheses can hold. -/
theorem witness_ImageMemoryAndWindowCommands :
    (let s := wmb 0 0x0401 15 (wbargs 7 7) fun p => p.updHedge 15 fun H => { H with exist := true, image := some { row := 1, col := 2, rows := 3, cols := 4 } }
     Runs s 0 15 0x0401 ∧ s.part.hedgeExists 15 = true ∧ s.part.bindOf 0 = none ∧ (s.part.hedge 15).image = some { row := 1, col := 2, rows := 3, cols := 4 }) ∧
    (let s := wmb 0 0x0401 15 (wbargs 7 7) fun p => (w15 p).fs GBL_STATUS_SERVICE 1
     Runs s 0 15 0x0401 ∧ s.part.hedgeExists 15 = true ∧ s.part.bindOf 0 = none ∧ (s.part.hedge 15).image = none ∧ s.part.service ≤ 1 ∧ s.part.arg 0 0 1 ≠ 0) ∧
    (let s := wmb 0 0x0401 15 (wbargs 7 7) fun p => w15 ((p.setReg (ATU_WIN_CFG 0) 0x10005).setReg (ATU_WIN_LIMIT 0) 0xFFFFFFFFFFFF |>.cfgWrite 0 0x68 15 0)
     let p := s.part
     let a := p.arg 0
     let t := match (s.dev.hostRead (.mp 0) 0 0x1000 96).1 with
       | .tag t => t
       | _ => 999
     Runs s 0 15 0x0401 ∧ p.hedgeExists 15 = true ∧ p.bindOf 0 = none ∧ (p.hedge 15).image = none ∧ 2 ≤ p.service ∧ 0 < a 16 8 ∧
     s.dev.hostRead (.mp 0) 0 (a 8 8) (min (min (a 16 8) (4096 - a 8 8 % 4096)) p.maxRead) = (.tag t, (s.dev.hostRead (.mp 0) 0 0x1000 96).2)) ∧
    (∀ service ∈ [1, 3],
      let b : Bind := ⟨0, 15, 0, 0, 0x1000, 96, 1, [], wimg, some 2⟩
      let r : NpReq := { agent := .mp 0, hedge := 0, fn := 0, addr := 0x1000, len := 96, want := 96, phase := .back wimg [] }
      let g := (parseImage 96 wimg).toOption.getD {}
      let s := wmb 0 0x0401 15 (wbargs 0 0) fun p => wbind 0 b 2 r ((w15 p).fs GBL_STATUS_SERVICE service)
      Runs s 0 15 0x0401 ∧ s.part.hedgeExists 15 = true ∧ s.part.bindOf 0 = some b ∧ s.part.np 2 = some r ∧ b.size ≤ b.got.length + wimg.length ∧
      (parseImage b.size b.first).toOption.isSome = true ∧ imageDigest (b.got ++ wimg) = g.digest ∧ g.mossOk b.row b.col = true) ∧
    (let s := wmb 0 0x0402 15 [] fun p => p.updHedge 15 fun H => { H with exist := true, image := some { row := 1, col := 2, rows := 3, cols := 4 } }
     Runs s 0 15 0x0402 ∧ s.part.hedgeExists 15 = true ∧ (s.part.hedge 15).image.isSome = true) ∧
    (∀ release ∈ [0, 1],
      let s := wmb 0 0x0501 15 ([BitVec.ofNat 8 release, 7] ++ natLe 6 0 ++ natLe 8 (2 ^ 36 - 1)) w36
      let p := s.part
      let a := p.arg 0
      Runs s 0 15 0x0501 ∧ p.hedgeExists 15 = true ∧ a 1 1 ≤ 7 ∧ a 8 8 < 2 ^ 36 ∧ a 0 1 = release ∧
      ∀ j ∈ ((List.range 36).filter ((a 8 8).testBit ·)).map (36 * a 1 1 + ·), p.plotOwner j = none ∨ p.plotOwner j = some 15) ∧
    (let s := wmb 0 0x0502 0 ([0, 255] ++ natLe 2 287 ++ [1]) id
     let a := s.part.arg 0
     Runs s 0 0 0x0502 ∧ s.part.hedgeExists 0 = true ∧ a 2 2 < 288 ∧ a 4 1 ≤ 1 ∧ a 0 1 = 0) ∧
    (let s := wmb 0 0x0502 0 ([15, 15] ++ natLe 2 287 ++ [1]) w36
     let a := s.part.arg 0
     Runs s 0 15 0x0502 ∧ s.part.hedgeExists 15 = true ∧ a 2 2 < 288 ∧ a 4 1 ≤ 1 ∧ 1 ≤ a 0 1 ∧ a 0 1 ≤ 15 ∧ a 1 1 ≤ 15 ∧ s.part.plotOwner (a 2 2) = some (a 0 1)) ∧
    (let s := wmb 0 0x0503 0 [2] id
     Runs s 0 0 0x0503 ∧ s.part.hedgeExists 0 = true ∧ s.part.arg 0 0 1 ≤ 2 ∧ s.part.nvmBusy = false) ∧
    (let s := wmb 0 0x0601 15 [7, 15, 0, 3] w15
     let a := s.part.arg 0
     Runs s 0 15 0x0601 ∧ s.part.hedgeExists 15 = true ∧ s.part.regionForeign 0 (a 0 1) (a 1 1) = false ∧ a 0 1 ≤ 7 ∧ a 1 1 ≤ 15 ∧ a 2 1 = 0) ∧
    (∀ e ∈ ([(0, false, true), (63, false, false), (0, true, true)] : List (Byte × Bool × Bool)),
      let s := wmb 0 0x0601 15 (wrgn 15 e.1) fun p => (w36 p).setReg (KVC_RGN_CFG 7 15) (if e.2.1 then 31 else 0)
      let p := s.part
      let a := p.arg 0
      Runs s 0 15 0x0601 ∧ p.hedgeExists 15 = true ∧ p.regionForeign 0 (a 0 1) (a 1 1) = false ∧ a 0 1 ≤ 7 ∧ a 1 1 ≤ 15 ∧ a 2 1 = 1 ∧
      (p.region (a 0 1) (a 1 1)).enable = e.2.1 ∧ a 3 1 < 4 ∧ a 4 1 < 16 ∧ a 8 4 < 2 ^ 24 ∧ a 16 8 < 2 ^ 34 ∧ a 24 8 < 2 ^ 34 ∧ a 32 8 < 2 ^ 34 ∧
      a 5 1 < 64 ∧ a 6 1 < 64 ∧ p.regionLegal (a 0 1) (a 1 1) (p.argRegion 0) = e.2.2) ∧
    (let s := wmb 0 0x0602 15 ([7] ++ List.replicate 7 0 ++ List.replicate 32 255) w15
     Runs s 0 15 0x0602 ∧ s.part.hedgeExists 15 = true ∧ s.part.arg 0 0 1 ≤ 7) ∧
    (let s := wmb 0 0x0701 0 [63, 0] fun p => p.setReg (ATU_WIN_CFG 63) (1 + 2 * 3)
     let a := s.part.arg 0
     Runs s 0 0 0x0701 ∧ s.part.hedgeExists 0 = true ∧ a 0 1 ≤ 63 ∧ a 2 1 &&& 0xC8 = 0 ∧ a 1 1 = 0 ∧ s.part.flag (ATU_WIN_CFG_ENABLE 63) = true ∧ s.part.fg (ATU_WIN_CFG_TYPE 63) = 3) ∧
    (∀ ty ∈ [0x30, 3],
      let s := wmb 0 0x0701 0 ([63, 1, BitVec.ofNat 8 ty, 7] ++ natLe 4 0xFFFF ++ natLe 8 0x1000 ++ natLe 8 0x8FFF ++ natLe 8 0x4000)
        fun p => { p with ep := { p.ep with cxl := true } }
      let p := s.part
      let a := p.arg 0
      Runs s 0 0 0x0701 ∧ p.hedgeExists 0 = true ∧ a 0 1 ≤ 63 ∧ a 2 1 &&& 0xC8 = 0 ∧ a 1 1 = 1 ∧ (a 2 1 % 8 = 3 → p.ep.cxl = true ∧ p.cohWindows < 16) ∧
      p.flag (ATU_WIN_CFG_ENABLE (a 0 1)) = false ∧ windowOk (a 8 8) (a 16 8) (a 24 8) (a 4 2) (a 2 1 % 8) (a 2 1 / 16 % 4) (a 3 1) = true) ∧
    (let s := wmb 0 0x0702 15 ([3, 0, 0, 0] ++ natLe 4 0xFFFFF) w15
     let a := s.part.arg 0
     Runs s 0 15 0x0702 ∧ s.part.hedgeExists 15 = true ∧ (s.part.mbx 0).step = 0 ∧ a 0 1 ≤ 3 ∧ a 4 4 ≤ 0xFFFFF ∧
     s.part.flag (ATU_PASID_VALID 15 (a 0 1)) = false ∧ s.part.pasidHeld (a 4 4) = false) ∧
    (∀ out ∈ [false, true],
      let s := wmb 0 0x0702 15 [0x13, 0, 0, 0] ((if out then wout else id) ∘ w77)
      let a := s.part.arg 0
      Runs s 0 15 0x0702 ∧ s.part.hedgeExists 15 = true ∧ (s.part.mbx 0).step = 0 ∧ 0x10 ≤ a 0 1 ∧ a 0 1 ≤ 0x13 ∧
      s.part.pasidReads 15 (s.part.fg (ATU_PASID_PASID 15 (a 0 1 % 16))) = out ∧ s.part.flag (ATU_PASID_VALID 15 (a 0 1 % 16)) = true) ∧
    (∀ e ∈ ([(0, 0xFFFFF), (15, 77)] : List (Nat × Nat)),
      let s := wmb e.1 0x0703 15 (natLe 8 e.2 ++ natLe 8 0x5000 ++ natLe 8 0x1000) w77
      let p := s.part
      let a := p.arg e.1
      Runs s e.1 15 0x0703 ∧ p.hedgeExists 15 = true ∧ (p.mbx e.1).step = 0 ∧ (vfBox e.1 = true → p.pasidOwn 15 (a 0 4) = true) ∧ a 8 8 % 4096 = 0 ∧
      a 16 8 % 4096 = 0 ∧ a 0 4 ≤ 0xFFFFF ∧ p.hs.atu.np = [] ∧ p.hs.atu.posted = [] ∧ p.hs.atu.xl = []) := by
  and_intros <;> decide +kernel

/-- The Sorus die settled, and channel 31 hedge 15's. -/
def wsor (p : Part) : Part := (p.updHedge 15 fun H => { H with exist := true, channels := 2 ^ 31 }).setFlag SOR_STATUS_REF_SETTLED true

/-- The current loop running at a level, in a life-cycle state, with what a calibration keeps. -/
def wcal (life : Nat) (c : Option LoopCal) (p : Part) : Part :=
  let p := (p.setFlag LCH_LOOP_STATUS_LOOP_PRESENT true).fs LCH_LIFECYCLE_STATE life
  { p with loop := { p.loop with running := true, level := 4, cal := c } }

/-- A loop configuration in its ranges. -/
def wlcfg : List Byte :=
  [0, 0, 0, 0] ++ natLe 4 100 ++ natLe 4 0 ++ natLe 4 0x42C80000 ++ natLe 2 3550 ++ natLe 2 21500 ++ natLe 2 4000 ++ [0, 0, 1, 0, 0, 1, 2, 1, 0, 4, 1] ++ List.replicate 31 0

/-- `Obligations.SorusAndLichenCommands`: its hypotheses can hold. -/
theorem witness_SorusAndLichenCommands :
    (let p := (wmb 0 0x0801 0 ([31] ++ natLe 7 0 ++ natLe 8 0xA5) fun p => (wsor p).updSor fun x => { x with busy := 128 }).part
     let a := p.arg 0
     p.serves 0 0x0801 = true ∧ a 0 1 ≤ 31 ∧ a 8 8 < 256 ∧ a 8 8 / 16 % 4 ≠ 3 ∧ a 8 8 / 64 % 4 ≠ 3 ∧ p.sor.rails = true ∧ p.sor.busy.testBit (a 0 1 / 4) = true) ∧
    (∀ e ∈ ([(5, 0), (4, 4000000)] : List (Byte × Nat)),
      let p := (wmb 0 0x0802 0 ([e.1, 1, 0, 0] ++ natLe 4 e.2) wsor).part
      let a := p.arg 0
      p.serves 0 0x0802 = true ∧ a 0 1 ≤ 5 ∧ a 1 1 ≤ 1 ∧ (a 0 1 = 3 ∨ a 0 1 = 4 → p.minPeriod ≤ a 4 4 ∧ p.fg SOR_TRIG_PHASE_PHASE < a 4 4) ∧ p.sor.rails = true) ∧
    (∀ e ∈ ([(0, 900, 2 ^ 32 - 1), (15, 1, 2 ^ 31)] : List (Nat × Nat × Nat)),
      let p := (wmb e.1 0x0803 0 (natLe 4 e.2.1 ++ natLe 4 e.2.2) wsor).part
      let a := p.arg e.1
      p.serves e.1 0x0803 = true ∧ a 0 2 = e.2.1 ∧ a 4 4 = e.2.2 ∧ p.hedgeBad e.1 = false ∧
      (vfBox e.1 = true → e.2.2 &&& (p.hedge (p.mbxHedge e.1)).channels = e.2.2) ∧ p.fg SOR_TRIG_SOURCE = 0 ∧ convsOf e.2.2 &&& p.sor.busy = 0 ∧ p.sor.rails = true) ∧
    (∀ op ∈ [0x0804, 0x0805], ∀ life ∈ [2, 4],
      let p := (wmb 0 op 0 (natLe 4 (2 ^ 32 - 1)) fun p => (wsor p).fs LCH_LIFECYCLE_STATE life).part
      p.serves 0 op = true ∧ (p.lifeCycle = 2 ∨ p.lifeCycle = 4) ∧ (p.mbx 0).step = 0 ∧ p.arg 0 0 4 ≠ 0 ∧ p.flag SOR_STATUS_REF_SETTLED = true ∧
      convsOf (p.arg 0 0 4) &&& p.sor.busy = 0 ∧ p.sor.rails = true) ∧
    (let p := (wmb 0 0x0805 0 (natLe 4 1) fun p => (wsor p).fs LCH_LIFECYCLE_STATE 8).part
     p.serves 0 0x0805 = true ∧ (p.mbx 0).step = 0 ∧ p.arg 0 0 4 ≠ 0 ∧ p.lifeCycle ≠ 2 ∧ p.lifeCycle ≠ 4) ∧
    (let p := (wmb 0 0x0806 0 [] fun p => p.updSor fun x => { x with rails := false }).part
     p.serves 0 0x0806 = true ∧ p.hedgeBad 0 = false ∧ p.sor.rails = false) ∧
    (∀ op ∈ [0x0804, 0x0805],
      let p := (wmb 0 op 0 (natLe 4 1) fun p => (wsor p).updMbx 0 fun b => { b with step := 1 }).part
      p.serves 0 op = true ∧ (p.mbx 0).step ≠ 0 ∧ p.sor.rails = true) ∧
    (∀ e ∈ ([(0x0902, [5, 1, 0, 0, 5] ++ List.replicate 59 0, false), (0x0902, wlcfg, true), (0x0907, natLe 64 (2 ^ 512 - 1), false),
        (0x0907, [5, 1, 0, 0, 5] ++ List.replicate 59 0, true)] : List (Nat × List Byte × Bool)),
      let p := (wmb 0 e.1 0 e.2.1 (wcal 4 none)).part
      p.serves 0 e.1 = true ∧ (p.mbx 0).step = 0 ∧ (if e.1 = 0x0902 then loopCfgOk else hartCfgOk) (p.argConfig 0) = e.2.2 ∧ p.loopHere = true) ∧
    (∀ e ∈ ([(2, none, 0, 0), (4, none, 0, 0), (4, some { point := 4000, last := 5 }, 1, 3900), (4, some { point := 4000, last := 5 }, 1, 4100),
        (4, some { point := 4000, last := 5 }, 2, 0), (4, some { point := 20000, last := 5 }, 3, 19900), (4, some { point := 20000, last := 5 }, 3, 20100),
        (4, some { point := 20000, four := some 127, twenty := some 255, last := 5 }, 4, 0), (4, some { point := 20000, last := 5 }, 5, 0)] :
        List (Nat × Option LoopCal × Nat × Nat)),
      let p := (wmb 0 0x0903 0 (natLe 4 e.2.2.1 ++ natLe 4 e.2.2.2) (wcal e.1 e.2.1)).part
      p.serves 0 0x0903 = true ∧ (p.mbx 0).step = 0 ∧ p.loopHere = true ∧ p.fg LCH_LIFECYCLE_STATE = e.1 ∧ 3 ≤ p.loop.level ∧ p.loop.cal = e.2.1 ∧
      p.arg 0 0 1 = e.2.2.1 ∧ p.arg 0 4 4 = e.2.2.2) ∧
    (∀ e ∈ ([[4, 2, 0], [3, 2, 1]] : List (List Byte)),
      let p := (wmb 0 0x0904 0 e id).part
      let a := p.arg 0
      p.serves 0 0x0904 = true ∧ a 0 1 ≤ 4 ∧ a 1 1 ≤ 2 ∧ a 2 1 ≤ 1 ∧ (a 0 1 = 4 → a 2 1 = 0) ∧ p.nvmBusy = false) ∧
    (∀ set ∈ [0, 1],
      let p := (wmb 0 0x0905 0 (natLe 8 set ++ natLe 8 (2 ^ 63)) id).part
      p.serves 0 0x0905 = true ∧ p.arg 0 0 1 = set) := by
  and_intros <;> decide +kernel

/-- A twin in a role, which owns the plots of slice 7. -/
def wtwin (role : Nat) (f : Twin → Twin) (p : Part) : Part := ((w36 p).fs TWN_STATUS_ROLE role |>.fs TWN_STATUS_MODE 1).updTwin f

/-- `Obligations.DenbenAndTwinCommands`: its hypotheses can hold. -/
theorem witness_DenbenAndTwinCommands :
    (let p := (wmb 0 0x0A01 0 ([0] ++ natLe 7 0 ++ [1, 8, 2, 3, 4, 0, 0, 0] ++ natLe 8 0) id).part
     let b := ((p.mbx 0).args.drop 8 ++ List.replicate 16 0).take 16
     p.serves 0 0x0A01 = true ∧ p.arg 0 0 1 ≤ 8 ∧ fawOk b = true ∧ settingsOk (p.arg 0 0 1) b = true) ∧
    (∀ e ∈ ([(3, [3, 8, 1, 0]), (3, [3, 8, 1, 1]), (1, [0, 0, 1, 1])] : List (Nat × List Byte)),
      let p := (wmb 0 0x0A03 0 e.2 (wtwin e.1 id)).part
      let a := p.arg 0
      p.serves 0 0x0A03 = true ∧ a 0 1 ≤ 3 ∧ a 1 1 ≤ 8 ∧ a 2 1 ≤ 1 ∧ a 3 1 ≤ 1 ∧
      (∀ i < 4, i ≠ a 0 1 → p.flag (FRM_DCC_ENABLE i) = true → ¬ (p.fg (FRM_DCC_PORT i) = a 1 1 ∧ p.fg (FRM_DCC_CHANNEL i) = a 2 1)) ∧
      (if e.1 = 3 then ¬ (a 1 1 = 0 ∧ a 2 1 = 1) else p.role = 1 ∧ a 1 1 = 0 ∧ a 2 1 = 1 ∧ a 3 1 = 1)) ∧
    (∀ e ∈ ([([8, 0], false), ([8, 1], false), ([0, 1], false), ([0, 1], true)] : List (List Byte × Bool)),
      let p := (wmb 0 0x0A04 0 e.1 fun p => p.setFlag (FRM_STATUS_SWITCHING 0) e.2).part
      let a := p.arg 0
      p.serves 0 0x0A04 = true ∧ (p.mbx 0).step = 0 ∧ a 0 1 ≤ 8 ∧ (a 1 1 = 0 ∨ a 1 1 = 2 ^ 0) ∧ 0 ≤ p.fg (FRM_CTRL_MAX_WIDTH 0) ∧ p.widthBusy 0 = e.2) ∧
    (let p := (wmb 0 0x0B01 0 ([2, 0, 0, 0] ++ natLe 4 1000000 ++ natLe 4 100000 ++ natLe 4 1000000) id).part
     let a := p.arg 0
     p.serves 0 0x0B01 = true ∧ a 0 1 ≤ 2 ∧ 200 ≤ a 4 4 ∧ a 4 4 ≤ 1000000 ∧ 50 ≤ a 8 4 ∧ a 8 4 ≤ 100000 ∧ 50 ≤ a 12 4 ∧ a 12 4 ≤ 1000000 ∧ ¬ (p.role = 1 ∨ p.role = 2)) ∧
    (∀ e ∈ ([(1, none, false, 1), (3, some 1, false, 1), (3, none, false, 1), (3, some 1, true, 1), (1, none, false, 2), (2, none, false, 3)] :
        List (Nat × Option Nat × Bool × Nat)),
      let p := (wmb 0 0x0B02 0 [BitVec.ofNat 8 e.2.2.2] (wtwin e.1 fun t => { t with partner := e.2.1.map fun r => ⟨1, 0, r, 0, 4, [], 0⟩, split := e.2.2.1 })).part
      p.serves 0 0x0B02 = true ∧ (p.mbx 0).step = 0 ∧ p.role = e.1 ∧ p.arg 0 0 1 = e.2.2.2 ∧ p.partnerRole 1 = e.2.1.isSome ∧ p.tw.split = e.2.2.1 ∧
      p.tw.promote = none) ∧
    (∀ e ∈ ([[63, 0], [63, 1] ++ natLe 2 287 ++ natLe 4 0 ++ natLe 8 (2 ^ 30 - 4096) ++ natLe 8 4096, [63, 2], [0, 3]] : List (List Byte)),
      let p := (wmb 0 0x0B03 15 e (wtwin 3 id)).part
      let a := p.arg 0
      p.serves 0 0x0B03 = true ∧ p.mbxHedge 0 = 15 ∧ p.hedgeMissing 0 = false ∧ ¬ (p.role = 1 ∨ p.role = 2) ∧ a 0 1 ≤ 63 ∧ a 1 1 ≤ 3 ∧
      (a 1 1 = 1 → p.mirOk 15 (a 0 1) (a 2 2) (a 8 8) (a 16 8) = true)) ∧
    (∀ hold ∈ [false, true],
      let p := (wmb 0 0x0B04 0 [] fun p => (wtwin 3 id p).setFlag TWN_STATUS_HOLD hold).part
      p.serves 0 0x0B04 = true ∧ p.flag TWN_STATUS_HOLD = hold) ∧
    (∀ role ∈ [1, 2, 3], ∀ dir ∈ [0, 1],
      let p := (wmb 0 0x0B05 0 [BitVec.ofNat 8 dir] (wtwin role fun t => { t with formed := true })).part
      p.serves 0 0x0B05 = true ∧ (p.mbx 0).step = 0 ∧ p.arg 0 0 1 = dir ∧ p.role = role ∧ p.tw.formed = true) := by
  and_intros <;> decide +kernel

/-- Frond 4079, the last, of a bracken of hedge 15, with window 0 to host memory and requests without attributes. -/
def wdbg (F : Frond) (p : Part) : Part :=
  { (p.setReg (ATU_WIN_CFG 0) 0x10005 |>.setReg (ATU_WIN_LIMIT 0) 0xFFFFFFFFFFFF |>.cfgWrite 0 0x68 15 0).setReg (FAB_BRK_OWNER 63) 31 with
    fab := { p.fab with fronds := [(4079, F)] }, dbg := { p.dbg with sel := [(2, 4079)] } }

/-- The arguments of a transfer of a range of frond 4079's program store. -/
def wrange (off len : Nat) : List Byte := natLe 2 4079 ++ natLe 2 2 ++ natLe 4 off ++ natLe 4 len ++ natLe 4 0 ++ natLe 8 0x1000

/-- `Obligations.DebugAccess`: its hypotheses can hold. -/
theorem witness_DebugAccess :
    (let s := wmb 0 0x0D01 0 (wrange 16376 8) (wdbg { running := true, halted := true })
     let p := s.part
     let a := p.arg 0
     let F := p.frond 4079
     let d : Dev := { s.dev with p := p.observeBrk 63 }
     p.serves 0 0x0D01 = true ∧ a 0 2 = 4079 ∧ a 2 1 = 2 ∧ a 4 4 = 16376 ∧ a 8 4 = 8 ∧ 16376 + 8 ≤ 8 * storeWords 2 ∧ (p.mbx 0).step = 0 ∧
     (∀ w, F.eccAt 2 w = 0) ∧ 8 ≤ 4096 - a 16 8 % 4096 ∧
     d.hostWrite (.mp 0) 0 (a 16 8) ((List.range 8).map fun i => BitVec.ofNat 8 ((F.word 2 ((16376 + i) / 8)).toNat >>> (8 * ((16376 + i) % 8)))) =
       (.done, (d.hostWrite (.mp 0) 0 0x1000 (List.replicate 8 0)).2)) ∧
    (let s := wmb 0 0x0D02 0 (wrange 16376 8) (wdbg { running := true, halted := true })
     let p := s.part
     let a := p.arg 0
     let d : Dev := { s.dev with p := p.observeBrk 63 }
     let t := match (d.hostRead (.mp 0) 0 0x1000 8).1 with
       | .tag t => t
       | _ => 999
     p.serves 0 0x0D02 = true ∧ a 0 2 = 4079 ∧ a 2 1 = 2 ∧ a 4 4 = 16376 ∧ a 8 4 = 8 ∧ (p.mbx 0).step = 0 ∧ p.bindOf 0 = none ∧
     d.hostRead (.mp 0) 0 (a 16 8) (min (min 8 (4096 - a 16 8 % 4096)) (p.observeBrk 63).maxRead) = (.tag t, (d.hostRead (.mp 0) 0 0x1000 8).2)) ∧
    (let b : Bind := ⟨0, 0, 0, 0, 0x1000, 16, 0, [1, 2, 3, 4, 5, 6, 7, 8], [], some 2⟩
     let r : NpReq := { agent := .mp 0, hedge := 0, fn := 0, addr := 0x1000, len := 8, want := 8, phase := .back [9, 9, 9, 9, 9, 9, 9, 9] [] }
     let s := wmb 0 0x0D02 0 (wrange 16368 16) fun p => wbind 0 b 2 r ((wdbg { running := true, halted := true } p).updMbx 0 fun b => { b with step := 1 })
     let p := s.part
     let a := p.arg 0
     p.serves 0 0x0D02 = true ∧ a 0 2 = 4079 ∧ a 2 1 = 2 ∧ a 4 4 = 16368 ∧ a 8 4 = 16 ∧ 16368 + 16 ≤ 8 * storeWords 2 ∧ (p.mbx 0).step ≠ 0 ∧
     p.bindOf 0 = some b ∧ p.np 2 = some r ∧ (∀ w, (p.frond 4079).eccAt 2 w = 0) ∧ (p.frond 4079).halted = true) ∧
    (∀ e ∈ ([(0, false), (1, true), (2, true)] : List (Nat × Bool)),
      let p := (wmb 0 0x0D03 0 (natLe 2 4079 ++ [BitVec.ofNat 8 e.1, 0] ++ natLe 4 1) (wdbg { running := true, halted := e.2 })).part
      let a := p.arg 0
      let F := p.frond 4079
      p.serves 0 0x0D03 = true ∧ a 0 2 = 4079 ∧ a 2 1 = e.1 ∧ F.halted = e.2 ∧ a 4 4 = 1 ∧ F.running = true ∧ F.nextOp = some .nop) ∧
    (∀ e ∈ ([(0x0D04, 0), (0x0D04, 1), (0x0D05, 0), (0x0D05, 1)] : List (Nat × Nat)),
      let p := (wmb 0 e.1 0 (natLe 2 e.2 ++ natLe 2 0x8000 ++ natLe 4 0 ++ natLe 8 0x1000 ++ natLe 8 (2 ^ 30)) id).part
      let a := p.arg 0
      p.serves 0 e.1 = true ∧ a 0 1 = e.2 ∧ 0 < a 16 8 ∧ a 16 8 % 4096 = 0 ∧ a 16 8 ≤ 2 ^ 30 ∧ p.dbg.trace = none ∧ p.dbg.profile = none) ∧
    (∀ ue ∈ [0, 2], ∀ halted ∈ [false, true],
      let p := (wop (wdbg { running := true, halted := halted, ecc := if ue = 0 then [] else [(131072 + 2047, ue)] })).part
      let F := p.frond 4079
      p.debugOpen .jtag = true ∧ p.debugOpen .mp = true ∧ p.debugOpen (.fn 0) = true ∧ p.selFrond .jtag = 4079 ∧ 16376 < 8 * storeWords 2 ∧
      8 * (16376 % 8) + 64 ≤ 64 ∧ F.eccAt 2 (16376 / 8) = ue ∧ F.running = true ∧ F.halted = halted ∧ p.core.rails = true ∧
      apertureAt 0x173FF8 = some (2, 16376) ∧ regAccess 0x173FF8 64 = true) ∧
    ((wop id).part.debugOpen (.fn 15) = false ∧ (wst id).part.debugOpen .jtag = false) ∧
    (regAccess 0x7FFFFC 32 = true ∧ apertureAt 0x7FFFF8 = none ∧ regAccess 0x7FFFF8 64 = true ∧ regAccess 0xFFFF8 64 = true ∧ regAccess 0xFFFFF8 64 = true) := by
  and_intros <;> first | exact ecc_nil _ _ (by decide +kernel) | decide +kernel

/-- A life-cycle state with its slots, standby power and hold-up there, and the write that runs. -/
def wlife (st : Nat) (a b : Option LcSlot) (run : Option (Nat × Option Nat)) (p : Part) : Part :=
  { ((p.fs LCH_LIFECYCLE_STATE st).setFlag LCH_CORE_STATUS_VSTBY_OK true).setFlag LCH_CORE_STATUS_HOLD_OK true with core := { p.core with slotA := a, slotB := b, run := run } }

/-- A push under way on mailbox 0, whose read of `bs` has come back, with the key that `wfw` is signed under. -/
def wpush (bs : List Byte) : State :=
  wmb 0 0x0F01 0 ([1, 1] ++ natLe 6 0 ++ natLe 8 0x1000 ++ natLe 8 bs.length) fun p =>
    { (wbind 0 ⟨0, 0, 0, 0, 0x1000, bs.length, 0, [], [], some 2⟩ 2 { agent := .mp 0, hedge := 0, fn := 0, addr := 0x1000, len := 8, want := 8, phase := .back bs [] } p).updMbx
        0 fun b => { b with step := 1 } with
      boot := { p.boot with push := some { slot := 1, boot := true, addr := 0x1000, size := bs.length, mbx := some 0 } }, core := { p.core with keys := [(2, wkey)] } }

/-- `Obligations.LifecycleAndFirmware`: its hypotheses can hold. -/
theorem witness_LifecycleAndFirmware :
    (∀ e ∈ ([(1, true, false), (3, false, true), (3, true, true), (5, true, true)] : List (Byte × Bool × Bool)),
      let p := (wmb 0 0x0E02 0 [e.1] fun p => (wlife 4 (some ⟨4, 7, 2, false⟩) none none p).setFlag LCH_CORE_STATUS_HOLD_OK e.2.1).part
      p.serves 0 0x0E02 = true ∧ (p.mbx 0).step = 0 ∧ lifeAllowed (p.fg LCH_LIFECYCLE_STATE) (p.arg 0 0 1) = e.2.2 ∧
      (e.2.1 = true ↔ p.vstby = true ∧ p.flag LCH_CORE_STATUS_HOLD_OK = true ∧ p.core.run = none ∧ p.flag LCH_LIFECYCLE_PENDING = false) ∧
      p.core.governing = some (0, ⟨4, 7, 2, false⟩)) ∧
    (∀ old ∈ [2, 4],
      let p := (wmb 0 0x0E03 0 ([3] ++ natLe 7 0 ++ [4] ++ wkey) (wlife old (some ⟨old, 7, 2, false⟩) none none)).part
      let a := p.arg 0
      p.serves 0 0x0E03 = true ∧ a 8 1 = 4 ∧ onCurve (a 9 48) (a 57 48) = true ∧ a 0 1 = 3 ∧ p.fg LCH_LIFECYCLE_STATE = old ∧ p.nvmBusy = false) ∧
    (let p := (wop (wlife 4 (some ⟨6, 7, 4, false⟩) none (some (0, none)))).part
     p.core.governing = some (0, ⟨6, 7, 4, false⟩) ∧ p.core.run = some (0, none)) ∧
    (let p := (wop fun p => (wlife 4 none (some ⟨5, 7, 4, false⟩) none p).setFlag LCH_LIFECYCLE_PENDING true).part
     p.core.governing = some (1, ⟨5, 7, 4, false⟩) ∧ p.core.run = none ∧ p.vstby = true ∧ p.flag LCH_CORE_STATUS_HOLD_OK = true ∧ p.flag LCH_LIFECYCLE_PENDING = true) ∧
    (∀ i ≤ 1, (wop (wlife 4 (some ⟨4, 7, 2, true⟩) none (some (i, some 0)))).part.core.run = some (i, some 0)) ∧
    (let p := (wmb 0 0x0F01 0 ([1, 1] ++ natLe 6 0 ++ natLe 8 0x1000 ++ natLe 8 (256 + 31457024)) fun p => p.fs GBL_STATUS_SERVICE 1).part
     let a := p.arg 0
     p.serves 0 0x0F01 = true ∧ (p.mbx 0).step = 0 ∧ a 0 1 ≤ 2 ∧ a 1 1 ≤ 1 ∧ (a 0 1 = 2 → a 1 1 = 0) ∧ (p.fg GBL_STATUS_RUNNING ≠ a 0 1 + 1 ∨ a 0 1 = 2) ∧
     (a 1 1 = 1 → p.service ≤ 1) ∧ p.boot.push = none ∧ 256 < a 16 8 ∧ a 16 8 ≤ 256 + slotLimit (a 0 1)) ∧
    (∀ e ∈ ([(wfw, true), (List.replicate 320 0, false)] : List (List Byte × Bool)),
      let p := (wpush e.1).part
      let b : Bind := ⟨0, 0, 0, 0, 0x1000, e.1.length, 0, [], [], some 2⟩
      p.serves 0 0x0F01 = true ∧ (p.mbx 0).step ≠ 0 ∧ p.boot.push = some { slot := 1, boot := true, addr := 0x1000, size := e.1.length, mbx := some 0 } ∧
      (p.func 0).resetting = false ∧ p.bindOf 0 = some b ∧
      p.np 2 = some { agent := .mp 0, hedge := 0, fn := 0, addr := 0x1000, len := 8, want := 8, phase := .back e.1 [] } ∧ b.size ≤ b.got.length + e.1.length ∧
      (p.imageCheck 1 e.1.length (b.got ++ e.1) = 0 ↔ e.2 = true)) ∧
    (let p := (wmb 0 0x0F01 0 [1, 1] fun p => { p.updMbx 0 fun b => { b with step := 1 } with
       boot := { p.boot with push := some { slot := 1, boot := true, addr := 0, size := 320, mbx := some 0, img := some [1] } } }).part
     p.serves 0 0x0F01 = true ∧ (p.mbx 0).step ≠ 0 ∧ p.boot.push = some { slot := 1, boot := true, addr := 0, size := 320, mbx := some 0, img := some [1] }) ∧
    (let p := (wop fun p => { p with boot := { p.boot with push := some { slot := 1, boot := false, addr := 0, size := 320, mbx := none, img := some [1] } } }).part
     p.serves 0 0x0F01 = false ∧ p.boot.push = some { slot := 1, boot := false, addr := 0, size := 320, mbx := none, img := some [1] }) ∧
    (∀ v ∈ [0, 5],
      let p := (wmb 0 0x0F03 0 [1] fun p => { p with boot := { p.boot with slots := [(1, v)] } }).part
      p.serves 0 0x0F03 = true ∧ p.arg 0 0 1 ≤ 1 ∧ Tab.get 0 (p.arg 0 0 1) p.boot.slots = v ∧ p.nvmBusy = false) := by
  and_intros <;> decide +kernel

/-- The Sorus die with a trigger source, enabled or not, the instant of the last trigger and of the last change. -/
def wtrig (src : Nat) (on rails : Bool) (last changed : Option Nat) (p : Part) : Part :=
  let p := (p.fs SOR_TRIG_SOURCE src).setFlag SOR_TRIG_ENABLE on |>.fs SOR_TRIG_PERIOD_PERIOD 50
  { p with time := 100, sor := { p.sor with rails := rails, last := last, changed := changed }, tw := { p.tw with formed := decide (src = 4) } }

/-- Ring 3 enabled at the start of plot 287 of slice 7, with one converter that samples one of its channels. -/
def wring (p : Part) : Part :=
  let p := ((wtrig 5 true true none none p).setFlag (SOR_RING_CFG_ENABLE 3) true).fs (SOR_RING_CH_CHANNELS 3) (2 ^ 28) |>.fs (SLC_STATUS_STATE 7) 2
    |>.fs (SOR_CONV_ENABLE 7) 1
  { p with sor := { p.sor with ringAt := [(3, some 287)], dropped := [(3, 9)] } }

/-- `Obligations.SorusTriggers`: its hypotheses can hold. -/
theorem witness_SorusTriggers :
    (∀ on ∈ [false, true],
      let p := (wop (wtrig 5 on (!on) none none)).part
      let P := p.at 200
      p.available 8 = true ∧ p.pfOpen = true ∧ P.sor.rails = !on ∧ P.fg SOR_TRIG_SOURCE = 5 ∧ P.flag SOR_TRIG_ENABLE = on) ∧
    (∀ e ∈ ([(1, some 101, some 100), (2, some 100, none), (5, some 101, none), (5, some 100, none), (3, none, none), (4, none, none)] :
        List (Nat × Option Nat × Option Nat)),
      let p := (wop (wtrig e.1 true true e.2.1 e.2.2)).part
      let P := p.at 200
      p.available 8 = true ∧ p.pfOpen = true ∧ P.sor.rails = true ∧ P.flag SOR_TRIG_ENABLE = true ∧ P.fg SOR_TRIG_SOURCE = e.1 ∧
      (e.1 = 3 → P.scheduled P.time = true) ∧ (e.1 = 4 → P.pairAligned = true ∧ P.scheduled P.pairTime = true) ∧
      (∀ x ∈ P.sor.changed, x + 100 ≤ P.time) ∧ P.sor.last = e.2.1) ∧
    ((∃ x, ((wop (wtrig 5 true true (some 101) none)).part.at 200).sor.last = some x ∧
        ((wop (wtrig 5 true true (some 101) none)).part.at 200).time < x + ((wop (wtrig 5 true true (some 101) none)).part.at 200).minPeriod)) ∧
    ((∀ x ∈ ((wop (wtrig 5 true true (some 100) none)).part.at 200).sor.last,
        x + ((wop (wtrig 5 true true (some 100) none)).part.at 200).minPeriod ≤ ((wop (wtrig 5 true true (some 100) none)).part.at 200).time)) ∧
    (let s := wop wring
     let P := s.part.at 200
     let a := 287 * 2 ^ 30 + P.fg (SOR_RING_OFS_OFFSET 3) + 64 * ((P.fg SOR_TSEQ_TSEQ + 1) % 2 ^ 32 % 2 ^ P.fg (SOR_RING_CFG_SIZE_LOG2 3))
     2 ≤ P.service ∧ (∀ q < 4, P.flag (SOR_RING_CFG_ENABLE q) = true ↔ q = 3) ∧ Tab.get none 3 P.sor.ringAt = some 287 ∧ P.sliceUp (287 / 36) = true ∧
     Tab.get 0 3 P.sor.dropped = 9 ∧ P.fg (SOR_RING_OFS_OFFSET 3) % 64 = 0 ∧
     (∃ k < 8, P.sorF (SOR_CONV_ENABLE k) = 1 ∧ P.sorF (SOR_CONV_SCAN k) = 0 ∧ P.sor.busy.testBit k = false ∧
       (P.fg (SOR_RING_CH_CHANNELS 3)).testBit (4 * k + P.sorF (SOR_CONV_SELECT k)) = true) ∧
     PlainMem { s.dev with p := P } a 64) ∧
    (0 < (wop id).part.vref ∧ ((-10000000000 : Int) - 0) * 131072 * 40960000 = -131072 * (nominalNv 3 * (wop id).part.vref)) := by
  simp only [plainMem_iff]; refine ⟨?_, ?_, ⟨101, ?_⟩, ?_, ?_, ?_⟩ <;> decide +kernel

/-- The Sorus die with its rails, and a reference selected. -/
def wref (sel : Nat) (settled : Bool) (p : Part) : Part := ((wtrig 5 true true none none p).fs SOR_CTRL_REF_SEL sel).setFlag SOR_STATUS_REF_SETTLED settled

/-- `Obligations.SorusReferencesAndRegisters`: its hypotheses can hold. -/
theorem witness_SorusReferencesAndRegisters :
    (∀ e ∈ ([(0, 0, 0), (1, 4500, 0), (1, 2500, 0), (2, 0, 5250), (2, 0, 4750)] : List (Nat × Nat × Nat)),
      let p := (wop (wref e.1 false)).part
      let P := p.at 20000100
      let Q := P.refSeen e.2.1 e.2.2
      let n := p.fg SOR_CTRL_REF_SEL
      p.sor.rails = true ∧ Q.refInWindow = true ∧
      (if n = 0 then p.sor.selAt + 10000000 else max p.sor.selAt (if n = 1 then Q.sor.refinOut else Q.sor.avddOut) + 1000000) ≤ P.time) ∧
    (let p := (wop (wref 1 true)).part
     (p.refSeen 4501 5000).refInWindow = false ∧ p.flag SOR_STATUS_REF_SETTLED = true) ∧
    (let P := (wop fun p => (wref 1 false p).updSor fun y => { y with late := false }).part.at 20000100
     P.flag SOR_STATUS_REF_SETTLED = false ∧ P.sor.late = false ∧ P.sor.selAt + 20000000 ≤ P.time) ∧
    (∀ rails ∈ [false, true],
      let p := (wop fun p => (wref 1 false p).updSor fun y => { y with rails := rails }).part
      p.available 8 = true ∧ p.pfOpen = true ∧ p.sor.rails = rails) ∧
    (∀ on ∈ [false, true], (wop fun p => (wref 1 false p).setFlag (SOR_RING_CFG_ENABLE 3) on).part.flag (SOR_RING_CFG_ENABLE 3) = on) ∧
    (wop fun p => (wref 1 false p).updSor fun y => { y with busy := 128 }).part.sor.busy.testBit (31 / 4) = true ∧
    (∀ life ∈ [2, 3, 4], (wop fun p => (wref 1 false p).fs LCH_LIFECYCLE_STATE life).part.lifeCycle = life) := by
  and_intros <;> decide +kernel

/-- The current loop running from an input (0 host, 1 sensor, 2 fixed), in current mode or multidrop, after a change of the loop. -/
def wloop (input : Byte) (current : Byte) (f : Loop → Loop) : Part :=
  { wup with loop := f { wup.loop with running := true, cfg := { wup.loop.cfg with
    loop := [input, 2, 1, 0] ++ natLe 4 100 ++ natLe 4 0 ++ natLe 4 0x42C80000 ++ natLe 2 3550 ++ natLe 2 21500 ++ natLe 2 4444 ++ [0, 0, 1, 0, 0, 1, 2, 1, 0, 4, 1] ++ List.replicate 31 0
    hart := [3, current] ++ List.replicate 62 0 } } }

/-- `Obligations.LoopLevels`: its hypotheses can hold. -/
theorem witness_LoopLevels :
    wup.loop.running = false ∧
    (let p := wloop 0 0 id
     p.loop.running = true ∧ p.hcfg 1 1 = 0) ∧
    (∀ act ∈ [1, 2],
      let p := ((wloop 0 1 id).fs LCH_CORE_STATUS_ALARM 2).setReg LCH_ALARM_CFG (BitVec.ofNat 64 (16 * act))
      p.loop.running = true ∧ p.hcfg 1 1 ≠ 0 ∧ p.alarmAction = act) ∧
    (∀ e ∈ ([(some { point := 20000, last := 5 }, none), (none, some 7777)] : List (Option LoopCal × Option Nat)),
      let p := wloop 0 1 fun l => { l with cal := e.1, fixed := e.2 }
      p.loop.running = true ∧ p.hcfg 1 1 ≠ 0 ∧ p.alarmAction = 0 ∧ p.loop.cal = e.1 ∧ p.loop.fixed = e.2) ∧
    (∀ e ∈ ([(2, id), (1, fun l => { l with bad := [(1, (3, true))] }), (1, fun l => { l with sens := [(1, some 0x42480000)] }), (0, fun l => { l with absent := true }),
        (0, fun l => { l with stale := true }), (0, fun l => { l with pv := some 0x42480000 })] : List (Nat × (Loop → Loop))),
      let p := wloop (BitVec.ofNat 8 e.1) 1 e.2
      p.loop.running = true ∧ p.hcfg 1 1 ≠ 0 ∧ p.alarmAction = 0 ∧ p.loop.cal = none ∧ p.loop.fixed = none ∧ p.loopSource = e.1 ∧ p.loopStandby = false) ∧
    (wloop 1 1 fun l => { l with bad := [(1, (3, true))] }).sensorFault = true ∧
    (let p := wloop 1 1 fun l => { l with sens := [(1, some 0x42480000)] }
     p.sensorFault = false ∧ Tab.get none (p.lcfg 0x20 1) p.loop.sens = some 0x42480000) ∧
    (let p := (wloop 0 1 fun l => { l with dcc := some 7777 }).fs TWN_STATUS_ROLE 2
     p.loop.running = true ∧ p.hcfg 1 1 ≠ 0 ∧ p.alarmAction = 0 ∧ p.loop.cal = none ∧ p.loop.fixed = none ∧ p.loopSource = 0 ∧ p.loop.absent = false ∧
     p.loop.stale = false ∧ p.loopStandby = true ∧ p.loop.dcc = some 7777) ∧
    (let p := wloop 0 1 id
     let lrv := f32Int 0
     let urv := f32Int 0x42C80000
     f32Int (p.lcfg 8 4) = lrv ∧ f32Int (p.lcfg 12 4) = urv ∧ lrv < urv ∧ 16000 * (f32Int 0xC2C80000 - lrv) < -200 * (urv - lrv) ∧
     16500 * (urv - lrv) < 16000 * (f32Int 0x43480000 - lrv)) := by
  and_intros <;> decide +kernel

/-- `Obligations.LoopDomain`: its hypotheses can hold. -/
theorem witness_LoopDomain :
    (∀ gone ∈ [false, true],
      let l := (wloop 0 1 fun l => { l with copyA := some (4, l.cfg), copyB := some (5, l.cfg), writes := [⟨defaultCfg, none, some 0, gone⟩] }).loop
      l.writes.any (·.admitted) = gone ∧ l.governing = some (false, 5, l.cfg) ∧ ⟨defaultCfg, none, some 0, gone⟩ ∈ l.writes) ∧
    (∀ gov ∈ [none, some (5, defaultCfg)],
      let p := wloop 0 1 fun l => { l with running := false, copyA := none, copyB := gov }
      p.loop.running = false ∧ p.loop.governing = gov.map (fun g => (false, g)) ∧ p.fg LCH_LOOP_RESTARTS_COUNT < 2 ^ 24 - 1) ∧
    (let p := wloop 0 1 fun l => { l with replies := [[5], [6]], due := [(0, 0)] }
     p.loop.running = true ∧ p.loop.replies = [5] :: [[6]]) ∧
    (let p := wloop 0 1 fun l => { l with writes := [⟨defaultCfg, some (4001, 20002), some 0, false⟩] }
     p.loop.running = true ∧ p.loop.replies = [] ∧ p.loop.writes = ⟨defaultCfg, some (4001, 20002), some 0, false⟩ :: []) ∧
    (∀ ws ∈ ([[], [⟨defaultCfg, none, some 0, true⟩]] : List (List LoopWrite)),
      let p := wloop 0 1 fun l => { l with writes := ws, due := [(0, 0), (1, 0)] }
      let Q := (p.at 600000000000).fs LCH_LOOP_AUX_CSTORE_MV 6000
      p.loop.running = true ∧ p.loop.replies = [] ∧ (p.loop.writes = [] ∨ p.loop.writes = ⟨defaultCfg, none, some 0, true⟩ :: []) ∧ Q.dueInput = some 0 ∧
      Q.spentNow + convCharge (p.lcfg 0x18 1) ≤ 400) ∧
    (let p := (wloop 0 1 fun l => { l with dccNext := some (7777, 0x42480000) }).fs TWN_STATUS_ROLE 2
     p.loop.dccNext = some (7777, 0x42480000) ∧ p.loopStandby = true ∧ p.hs.br.lv = none) ∧
    (∀ e ∈ ([(2, 5, false), (1, 0x7F800000, false), (1, 0x42480000, false), (1, 0x42480000, true)] : List (Nat × Nat × Bool)),
      let p := (wloop 0 1 fun l => { l with accepted := some (if e.2.2 then 599999000001 else 599999000000) }).fs TWN_STATUS_ROLE e.1
      let p := { p with hs := { p.hs with br := { p.hs.br with lv := some e.2.1 } } }
      p.hs.br.lv = some e.2.1 ∧ e.2.1 < 2 ^ 32 ∧ p.loop.running = true ∧ p.loop.dccNext = none ∧ p.loopStandby = (e.1 == 2) ∧
      finite32 e.2.1 = (e.2.1 != 0x7F800000) ∧
      p.loop.accepted = some (if e.2.2 then 599999000001 else 599999000000) ∧
      (if e.2.2 then (p.at 600000000000).clock < 599999000001 + 1000000 else 599999000000 + 1000000 ≤ (p.at 600000000000).clock)) ∧
    (let p := wloop 0 1 id
     p.loop.running = true ∧ p.loop.timer + p.lcfg 4 4 * 1000000 ≤ (p.at 600000000000).clock ∧ p.loop.absent = false ∧ p.loop.accepted = none) ∧
    (let p := (wloop 0 1 id).setFlag LCH_CORE_STATUS_OVERTEMP true
     p.loop.absent = false ∧ p.qsDown = true) ∧
    (∀ on ∈ [false, true],
      let p := wloop 0 1 fun l => { l with setUa := 5000, openLoop := on, noCompliance := on }
      p.loop.running = true ∧ p.loop.openLoop = on ∧ p.loop.noCompliance = on ∧ 2 * 2499 < p.loop.setUa ∧ p.loop.setUa ≤ 2 * 2500) ∧
    (∀ e ∈ ([(1, (1, false)), (1, (-1, true)), (0, (0, false))] : List (Nat × Int × Bool)),
      let p := wloop 1 1 fun l => { l with converting := [1, 0], bad := [(1, e.2)] }
      p.loop.running = true ∧ p.loop.converting.contains e.1 = true ∧ Tab.get (0, false) e.1 p.loop.bad = e.2) ∧
    (let p := wloop 0 1 fun l => { l with cal := some { point := 4000, last := 0 } }
     p.loop.cal = some { point := 4000, last := 0 } ∧ 0 + 600000000000 ≤ (p.at 600000000000).clock) ∧
    (∀ e ∈ ([(some (4001, 20002), some 0, defaultCfg), (none, none, { defaultCfg with loop := 1 :: defaultCfg.loop.drop 1 })] :
        List (Option (Nat × Nat) × Option Nat × LoopCfg)),
      let p := wloop 0 1 fun l => { l with writes := [⟨e.2.2, e.1, e.2.1, true⟩], copyB := some (5, l.cfg) }
      p.loop.running = true ∧ p.loop.writes = ⟨e.2.2, e.1, e.2.1, true⟩ :: [] ∧ p.fg LCH_LOOP_NVM_WRITES_COUNT < 2 ^ 24 - 1 ∧
      (e.1 = none → bytesAt e.2.2.loop 0 1 ≠ p.loopSource)) := by
  and_intros <;> decide +kernel

/-- `Obligations.HartCommands`: its hypotheses can hold. -/
theorem witness_HartCommands :
    (∀ wp ∈ [0, 1], ∀ mbx ∈ [none, some 0],
      let p := wloop 0 1 fun l => { l with cfg := { l.cfg with hart := [3, 1, wp] ++ List.replicate 61 0 }, writes := [⟨defaultCfg, none, mbx, false⟩] }
      p.loop.running = true ∧ p.writeProtect = (wp == 1) ∧ (p.loop.writes.any (·.mbx.isSome) = true ↔ mbx = some 0)) ∧
    (∀ e ∈ ([(true, List.replicate 32 1, 63, 1, 2, 3550, 100), (false, [], 64, 2, 3, 0, 0)] : List (Bool × List Byte × Nat × Nat × Nat × Nat × Nat)),
      let p := wloop 0 1 fun l => { l with cfg := defaultCfg }
      let data := e.2.1
      let cfg := p.lastCfg
      let hart := fun off bs => hartCfgOk (putBytes cfg.hart off bs)
      let at' := fun off bs (c : List Byte) => putBytes c off bs
      p.loop.running = true ∧ p.writeProtect = false ∧ p.loop.writes = [] ∧ hart 0 (u8 e.2.2.1 ++ u8 e.2.2.2.1) = e.1 ∧ decide (24 ≤ data.length) = e.1 ∧
      decide (3 ≤ data.length) = e.1 ∧ (32 ≤ data.length → hart 0x10 (data.take 32) = true) ∧ decide (32 ≤ data.length) = e.1 ∧
      loopCfgOk (at' 0x12 (natLe 2 21500) (at' 0x10 (natLe 2 e.2.2.2.2.2.1) (at' 4 (natLe 4 e.2.2.2.2.2.2) (at' 2 (u8 1) (at' 1 (u8 e.2.2.2.2.1) cfg.loop))))) = e.1 ∧
      loopCfgOk (at' 0x20 (u8 (e.2.2.2.1 - 1 + if e.1 then 0 else 9)) (at' 0x1C (natLe 4 0x8000000) (at' 0x18 (natLe 4 0x1010105) cfg.loop))) = e.1 ∧
      loopCfgOk (at' 0x16 (u8 57) (at' 12 (natLe 4 (if e.1 then 0x42C80000 else 0)) (at' 8 (natLe 4 0) cfg.loop))) = e.1) ∧
    (let p := wloop 0 1 fun l => { l with cfg := defaultCfg }
     let data : List Byte := List.replicate 21 1
     let h := putBytes p.lastCfg.hart 8 (data.take 6)
     p.writeProtect = false ∧ 21 ≤ data.length ∧ hartCfgOk h = true ∧ hartCfgOk (putBytes h 0x30 ((data.drop 6).take 15)) = true) ∧
    (∀ ua ∈ [0, 3500, 23000], ua = 0 ∨ 3500 ≤ ua ∧ ua ≤ 23000) ∧ (∀ ua ∈ [1, 3499, 23001], ua ≠ 0 ∧ (ua < 3500 ∨ 23000 < ua)) ∧
    (0 < 8 ∧ 0 < ([5] : List Byte).length) ∧ hartKnown.contains 253 = false := by
  and_intros <;> decide +kernel

/-- A core domain on its feet, after a change of it. -/
def wcore (f : Core → Core) : Part := (wop fun p => p.updCore fun c => f { c with dead := false, rails := true }).part

/-- `Obligations.CoreDomain`: its hypotheses can hold. -/
theorem witness_CoreDomain :
    (∀ mv ∈ [2199, 2200], let p := wcore fun c => { c with vbat := mv }
      p.vstby = true ∧ p.core.vbat = mv) ∧
    (∀ dead ∈ [false, true], ∀ run ∈ [none, some (4, none)],
      let p := (wcore fun c => { c with dead := dead, run := run, ret := [⟨9, 0x0B01, 1, 77, 5, true⟩] }).setFlag LCH_CORE_STATUS_VSTBY_OK false
      p.vstby = false ∧ p.core.dead = dead ∧ p.core.run = run ∧ p.core.log.length + p.core.ret.length ≤ 1536) ∧
    (let p := (wcore id).setFlag LCH_CORE_STATUS_VSTBY_OK false
     p.vstby = false ∧ 2199 < 2200 ∧ p.core.dead = false) ∧
    (∀ low ∈ [false, true], let p := (wcore id).setFlag LCH_CORE_STATUS_CELL_LOW low
      p.core.dead = false ∧ p.flag LCH_CORE_STATUS_CELL_LOW = low ∧ p.core.ret.length < 63) ∧
    (let p := wcore fun c => { c with diff := [(3, 2)] }
     p.core.dead = false ∧ Tab.get 0 3 p.core.diff = 2 ∧ ((8).testBit 3 != p.alarmPol 3) ≠ p.flag ⟨LCH_CORE_STATUS, 11, 1⟩) ∧
    (∀ e ∈ ([(120, 0), (0, 115)] : List (Int × Nat)),
      let p := (wcore id).fs TEL_VL_STATUS_TJ_MAX e.2
      p.core.dead = false ∧ p.flag LCH_CORE_STATUS_OVERTEMP = false ∧ (120 ≤ e.1 ∨ 115 ≤ (BitVec.ofNat 8 (p.fg TEL_VL_STATUS_TJ_MAX)).toInt)) ∧
    (let p := (wcore fun c => { c with cycled := true }).setFlag LCH_CORE_STATUS_OVERTEMP true
     p.flag LCH_CORE_STATUS_OVERTEMP = true ∧ (89 : Int) < 90 ∧ p.core.cycled = true) ∧
    (∀ on ∈ [false, true],
      let p := (wcore fun c => { c with ret := [⟨9, 0x0B01, 1, 77, 5, true⟩], cellOk := true }).setFlag LCH_CORE_STATUS_VSTBY_OK on
      (p.vstby = true ∨ p.core.cellOk = true ∧ p.core.cellFailed = false) ∧ p.core.run = none ∧ p.core.ret = ⟨9, 0x0B01, 1, 77, 5, true⟩ :: []) ∧
    (let p := (((wcore fun c => { c with log := [⟨9, 0x0B01, 1, 77, 5, true⟩] }).setFlag (EVT_CFG_ENABLE 16) true).fs GBL_STATUS_SERVICE 1).fs LCH_LOG_DELIVERED_SEQ 8
     1 ≤ p.service ∧ p.ringTakes opRing = true ∧ p.core.log.find? (fun r => seqAbove r.seq (p.fg LCH_LOG_DELIVERED_SEQ)) = some ⟨9, 0x0B01, 1, 77, 5, true⟩) ∧
    (∀ timeout ∈ [none, some 99, some 100, some 60000, some 60001],
      let p := ((wcore id).setFlag LCH_WDT_ARMED true).fs LCH_WDT_TIMEOUT_MS 100
      p.flag LCH_WDT_ARMED = true ∧ p.core.halted = 0 ∧
      (match timeout with
        | some n => if 100 ≤ n ∧ n ≤ 60000 then n else p.fg LCH_WDT_TIMEOUT_MS
        | none => p.fg LCH_WDT_TIMEOUT_MS) ≠ 0) ∧
    (let p := ((wcore fun c => { c with expiry := some 200 }).setFlag LCH_WDT_ARMED true).fs GBL_STATUS_RUNNING 1
     p.flag LCH_WDT_ARMED = true ∧ p.boot.stage ≠ 0 ∧ p.core.expiry = some 200 ∧ 200 ≤ (p.at 200).clock ∧ p.fg GBL_STATUS_RUNNING ≠ 0 ∧
     p.flag GBL_BOOT_CONFIRMED = false ∧ p.fg GBL_BOOT_FAILS < 254) ∧
    (let p := (wcore fun c => { c with halted := 8, left := 5 }).setFlag LCH_WDT_ARMED true
     3 < 4 ∧ p.core.rails = true ∧ p.core.halted = 2 ^ 3 ∧ p.flag LCH_WDT_ARMED = true ∧ p.core.left ≠ 0) := by
  and_intros <;> decide +kernel

/-- The Denben die up, with the state of one framer, after a change of its registers. -/
def wden (k : Nat) (f : Framer) (r : Part → Part) : Part :=
  let p := r (wop id).part
  { p with den := { p.den with up := true, framers := [(k, f)] } }

/-- `Obligations.DenbenFrames`: its hypotheses can hold. -/
theorem witness_DenbenFrames :
    ((wop id).part.at 0).denbenUp = false ∧
    (∀ fn ∈ [0, 63],
      let p := wden 8 { fn := fn } fun p => p.setFlag (FRM_CTRL_ENABLE 8) true
      (p.at 0).denbenUp = true ∧ p.flag (FRM_CTRL_ENABLE 8) = true ∧ (p.frm 8).fn = fn) ∧
    (∀ e ∈ ([(0, 0), (0, 1)] : List (Nat × Nat)),
      let p := wden 8 { aligned := true, badFaw := if e.2 = 0 then 0 else (wden 8 {} id).frm 8 |>.par.2.2 } fun p => p.fs (FRM_STATUS_DEFECTS 8) 0
      let raw := wframe e.1
      let f := p.frm 8
      (p.at 0).denbenUp = true ∧ raw.length = 8448 ∧ f.word = none ∧ f.agreed = none ∧ f.quiet = none ∧ f.aligned = true ∧ p.defects 8 = 0 ∧ f.par.1 < fawErrors raw ∧
      (p.at 0).fg ⟨FRM_CNT 8 1, 0, 31⟩ < 2 ^ 31 - 2 ∧ (if e.2 = 0 then f.badFaw + 1 < f.par.2.2 else f.par.2.2 ≤ f.badFaw + 1)) ∧
    (∀ good ∈ [false, true],
      let p := wden 8 { aligned := true } fun p => p.fs (FRM_STATUS_DEFECTS 8) 0
      let raw := wframe (if good then wgood else wgood + 2 ^ 2047)
      let f := p.frm 8
      let d := scramble raw
      (p.at 0).denbenUp = true ∧ raw.length = 8448 ∧ f.word = none ∧ f.agreed = none ∧ f.quiet = none ∧ f.aligned = true ∧ p.defects 8 = 0 ∧ fawErrors raw ≤ f.par.1 ∧
      (p.at 0).fg ⟨FRM_CNT 8 2, 0, 31⟩ < 2 ^ 31 - 2 ∧ (crc32c ((d.drop 0x48).take 0xB4) == bytesAt d 0xFC 4) = good) ∧
    (let p := wden 8 { confirm := 2 } fun p => ((p.fs (FRM_STATUS_DEFECTS 8) 4).fs (FRM_STATUS_LANES 8) 1).fs (FRM_LANES_LOCK 8) 1
     let raw := wframe wgood
     let f := p.frm 8
     (p.at 0).denbenUp = true ∧ raw.length = 8448 ∧ f.word = none ∧ f.agreed = none ∧ f.quiet = none ∧ f.aligned = false ∧ p.lanesLocked 8 = true ∧
     fawErrors raw ≤ f.par.1 ∧ f.par.2.1 ≤ f.confirm + 1) := by
  and_intros <;> decide +kernel

/-- `Obligations.DenbenLinks`: its hypotheses can hold. -/
theorem witness_DenbenLinks :
    (∀ e ∈ ([(8, 0), (0, 7)] : List (Nat × Nat)),
      let p := wden e.1 {} id
      (p.at 0).denbenUp = true ∧ e.2 < 8 ∧ (e.1 = 0 ∨ e.2 = 0) ∧ (p.frm e.1).word = none ∧ (p.frm e.1).quiet = none ∧ p.den.up = true ∧ p.qsDown = false) ∧
    (∀ sig ∈ [0, 1],
      let p := wden 8 {} fun p => p.fs (FRM_STATUS_LANES 8) 1
      p.den.refclk = true ∧ (p.fg (FRM_STATUS_LANES 8) &&& sig % 2 = 0 ↔ sig = 0)) ∧
    (∀ e ∈ ([(127, 255, 3, 2), (255, 1, 0, 3)] : List (Nat × Nat × Nat × Nat)),
      let p := wden 0 {} fun p => (((((p.fs (FRM_CTRL_MAX_WIDTH 0) 3).fs (FRM_LANES_GOOD 0) e.1).fs (FRM_LANES_PEER_GOOD 0) 255).fs (FRM_STATUS_LANES 0) e.2.1).fs
        (FRM_STATUS_WIDTH 0) e.2.2.1).setFlag (FRM_CTRL_AUTO_WIDTH 0) true
      (p.at 0).denbenUp = true ∧ p.flag (FRM_CTRL_AUTO_WIDTH 0) = true ∧ (p.frm 0).op ≠ 1 ∧ p.widthBusy 0 = false ∧
      widestIn (p.fg (FRM_CTRL_MAX_WIDTH 0)) (p.bothGood 0) = some e.2.2.2 ∧ (if e.1 = 127 then p.lanesBad 0 ≠ 0 else p.fg (FRM_STATUS_WIDTH 0) < e.2.2.2)) ∧
    (let p := wden 8 { defectAt := some 5 } id
     (p.at 10000005).denbenUp = true ∧ (p.frm 8).defectAt = some 5 ∧ 5 + 10000000 ≤ (p.at 10000005).time ∧ p.widthBusy 8 = false ∧ p.fg (FRM_RETRAINS_COUNT 8) < 2 ^ 24 - 1) ∧
    (let p := wden 8 { attemptAt := 5 } fun p => p.setFlag (FRM_STATUS_RETRAINING 8) true
     p.flag (FRM_STATUS_RETRAINING 8) = true ∧ (p.frm 8).failedAt = none ∧ (p.frm 8).attemptAt + 10000000 ≤ (p.at 10000005).time) ∧
    (let p := wden 8 { failedAt := some 5, waitMs := 100 } fun p => p.setFlag (FRM_STATUS_RETRAINING 8) true
     p.flag (FRM_STATUS_RETRAINING 8) = true ∧ (p.frm 8).failedAt = some 5 ∧ 5 + (p.frm 8).waitMs * 1000000 ≤ (p.at 100000005).time) ∧
    (∀ n ∈ [3, 4],
      let p := wden 8 {} fun p => { p.fs (FRM_STATUS_DEFECTS 8) 0 with den := { p.den with live := [(3, some (8, 1))], toTxd := [(3, [7, 8])], fromRxd := [(3, List.replicate n 1)] } }
      Tab.get none 3 p.den.live = some (8, 1) ∧ p.flag (FRM_DCC_SUSPENDED 3) = false ∧ Tab.get [] 3 p.den.toTxd = 7 :: [8] ∧ (Tab.get [] 3 p.den.fromRxd).length = n ∧
      p.rxDown 8 = false ∧ p.fg ⟨FRM_CNT 8 6, 0, 31⟩ < 2 ^ 31 - 2) := by
  and_intros <;> decide +kernel

/-- A part of a pair in MIRROR in a role, after a change of its registers and of the pair's state. -/
def wpair (role : Nat) (f : Twin → Twin) (r : Part → Part) : Part :=
  (((r (wop id).part).fs TWN_STATUS_ROLE role).fs TWN_STATUS_MODE 1 |>.fs (FRM_STATUS_DEFECTS 0) 0).updTwin f

/-- A STATUS message with its role and request byte, its term and its digest, and what a part reads from it. -/
def wstatus (role term : Nat) (digest : List Byte) : List Byte := natLe 1 1 ++ natLe 1 2 ++ natLe 1 0 ++ natLe 1 role ++ natLe 4 term ++ digest ++ List.replicate 40 0
def wpartner (m : List Byte) : Partner := ⟨bytesAt m 1 1, bytesAt m 2 1, bytesAt m 3 1 % 4, bytesAt m 3 1 / 16 % 4, bytesAt m 4 4, (m.drop 8).take 32, bytesAt m 0x28 1⟩

/-- The pair digest of such a part. -/
def wdigest : List Byte := natLe 32 103282045858749851394603638753518576113701966754595091302247861829815804029370

theorem wdigest_eq {p : Part} (h : p.digestBytes = (wpair 3 id id).digestBytes) : wdigest = p.pairDigest := by
  unfold Part.pairDigest
  rw [h]
  decide +kernel

/-- `Obligations.TwinPair`: its hypotheses can hold. -/
theorem witness_TwinPair :
    (let p := wpair 1 id fun p => p.fs GBL_STATUS_SERVICE 3
     p.twinMode ≠ 0 ∧ p.role = 1 ∧ p.fg GBL_STATUS_SERVICE ≠ 0 ∧ p.core.halted = 0) ∧
    (∀ role ∈ [1, 2], ∀ other ∈ [false, true],
      let p := wpair role (fun w => { w with missing := other }) id
      let p' := wpair role (fun w => { w with fenceAbsent := other }) id
      (p'.tw.missing = false ∧ max (p'.tw.beatAt.getD 0) p'.tw.since + 160000 ≤ (p'.at 160000).time ∧ p'.tw.fenceAbsent = other) ∧
      (p.tw.fenceAbsent = false ∧ max (p.tw.fenceAt.getD 0) p.tw.since + 100000 ≤ (p.at 100000).time ∧ p.tw.missing = other) ∧ p.role = role ∧ p.twinMode ≠ 0) ∧
    (∀ e ∈ ([(3, 2, 1), (1, 0, 2), (1, 0, 35)] : List (Nat × Nat × Nat)),
      let m := wstatus e.2.2 77 wdigest
      let p := wpair e.1 (fun w => { w with messages := [m] }) fun p => p.fs TWN_STATUS_REQUEST e.2.1
      let q := wpartner m
      (q.digest = p.pairDigest) ∧ p.role = e.1 ∧ p.fg TWN_STATUS_REQUEST = e.2.1 ∧ p.tw.formed = false ∧ p.tw.opened = false ∧ p.tw.messages = m :: [] ∧ bytesAt m 0 1 = 1 ∧
      (if e.1 = 3 then q.role = 1 else q.role = 2 ∨ q.role = 3 ∧ q.request = 2) ∧ q.major = 2 ∧ p.twinPortGood = true) ∧
    (∀ formed ∈ [false, true], ∀ term ∈ [7, 8, 9], ∀ serial ∈ [0, 5],
      let m := wstatus (if formed then 1 else 33) term []
      let p := { wpair 1 (fun w => { w with messages := [m], formed := formed }) fun p => (p.fs LCH_TERM_TERM 8).fs (FRM_PEER_SERIAL_SERIAL 0) serial with ep := { wup.ep with serial := 4 } }
      let q := wpartner m
      p.role = 1 ∧ p.fg TWN_STATUS_REQUEST = 0 ∧ q.role = 1 ∧ (q.request ≠ 2 ∨ p.tw.formed = false) ∧ p.tw.messages = m :: [] ∧ bytesAt m 0 1 = 1 ∧
      (if term = 9 ∨ term = 8 ∧ serial = 5 then p.term < q.term ∨ p.term = q.term ∧ p.ep.serial < p.fg (FRM_PEER_SERIAL_SERIAL 0)
       else q.term < p.term ∨ p.term = q.term ∧ p.fg (FRM_PEER_SERIAL_SERIAL 0) ≤ p.ep.serial)) ∧
    (∀ e ∈ ([(2, 3), (2, 0), (1, 0), (1, 3)] : List (Nat × Nat)),
      let m := wstatus e.2 9 []
      let p := wpair e.1 (fun w => { w with messages := [m], formed := true }) id
      p.role = e.1 ∧ p.tw.messages = m :: [] ∧ p.tw.formed = true ∧ p.tw.missing = false ∧ (wpartner m).role = e.2 ∧ (wpartner m).request ≠ 2) ∧
    (let m := wstatus 33 9 []
     let p := wpair 2 (fun w => { w with messages := [m], formed := true }) id
     p.role = 2 ∧ p.tw.messages = m :: [] ∧ p.tw.formed = true ∧ p.tw.promote = none ∧ (wpartner m).role = 1 ∧ (wpartner m).request = 2) ∧
    (∀ e ∈ ([(0, none), (1, none), (1, some 599999999)] : List (Nat × Option Nat)),
      let m : List Byte := natLe 1 2 ++ natLe 1 e.1 ++ natLe 2 12000 ++ natLe 4 3 ++ natLe 4 55 ++ natLe 4 0 ++ natLe 8 (2 ^ 64 - 5)
      let p := { wpair 2 (fun w => { w with messages := [m] }) id with loop := { wup.loop with running := true, accepted := e.2 } }
      p.twinMode ≠ 0 ∧ p.tw.messages = m :: [] ∧ bytesAt m 0 1 = 2 ∧ p.loop.running = true ∧ p.tooSoon = e.2.isSome ∧
      (p.loopStandby = true ∧ bytesAt m 1 1 = 1 ∧ p.tw.passedSeq ≠ some (bytesAt m 4 4) ↔ e.1 = 1)) ∧
    (∀ n ∈ [0, 2], ∀ x ∈ ([7000, 5] : List Int),
      let p := wpair 2 (fun w => { w with formed := true, thetas := [2 * x], badRounds := n, goodRounds := n }) id
      let err := x + p.tw.partnerOffset - (BitVec.ofNat 64 (p.fg TWN_PAIR_OFFSET_OFFSET)).toInt
      p.role = 2 ∧ p.tw.formed = true ∧ p.tw.missing = false ∧ p.tw.thetas = [2 * x] ∧
      (if x = 7000 then (p.tw.limitNs : Int) < err else -(p.tw.limitNs : Int) ≤ err ∧ err ≤ p.tw.limitNs)) ∧
    (let p := wpair 2 (fun w => { w with formed := true, differ := some 3, partner := some ⟨2, 0, 1, 0, 4, [], 0⟩ }) id
     p.tw.differ = some 3 ∧ p.tw.partner.isSome = true ∧ p.tw.formed = true ∧ 3 + 1000000000 ≤ (p.at 1000000003).time) ∧
    (∀ on ∈ [false, true],
      let p := wpair 2 (fun w => { w with formed := true }) fun p => (p.setFlag TWN_STATUS_HOLD true).setFlag TWN_STATUS_SYNCED on
      p.flag TWN_STATUS_HOLD = true ∧ p.tw.holdAt + (if p.tw.planned then p.fg TWN_CTRL_PLANNED_HOLD * 1000000 else p.tw.delay * 1000) ≤ (p.at 1000000005).time ∧
      p.flag TWN_STATUS_SYNCED = on ∧ p.tw.promote = none) ∧
    (∀ e ∈ ([(0, some 15), (2, none), (7, none)] : List (Nat × Option Nat)),
      (wpair 3 (fun w => { w with promote := some ⟨e.1, 9, e.2⟩ }) id).tw.promote = some ⟨e.1, 9, e.2⟩) := by
  refine ⟨?_, ?_, fun e he => ?_, ?_, ?_, ?_, ?_, ?_, ?_, ?_, ?_⟩
  · decide +kernel
  · decide +kernel
  · have h : ∀ e ∈ ([(3, 2, 1), (1, 0, 2), (1, 0, 35)] : List (Nat × Nat × Nat)),
          let m := wstatus e.2.2 77 wdigest
          let p := wpair e.1 (fun w => { w with messages := [m] }) fun p => p.fs TWN_STATUS_REQUEST e.2.1
          let q := wpartner m
          (q.digest = wdigest ∧ p.digestBytes = (wpair 3 id id).digestBytes) ∧ p.role = e.1 ∧ p.fg TWN_STATUS_REQUEST = e.2.1 ∧ p.tw.formed = false ∧ p.tw.opened = false ∧ p.tw.messages = m :: [] ∧ bytesAt m 0 1 = 1 ∧
          (if e.1 = 3 then q.role = 1 else q.role = 2 ∨ q.role = 3 ∧ q.request = 2) ∧ q.major = 2 ∧ p.twinPortGood = true := by decide +kernel
    obtain ⟨⟨hq, hb⟩, h⟩ := h e he
    exact ⟨hq.trans (wdigest_eq hb), h⟩
  · decide +kernel
  · decide +kernel
  · decide +kernel
  · decide +kernel
  · decide +kernel
  · decide +kernel
  · decide +kernel
  · decide +kernel

/-- A part of a pair with its memory trained, whose last mirror region is the first 8 KiB of plot 287, with records that came. -/
def wmir (role mode : Nat) (inbox : List (List Byte)) (f : Twin → Twin) : Part :=
  let p := forN 8 (fun n p => p.fs (SLC_STATUS_STATE n) 2) (wop id).part
  ((((p.setFlag (TWN_MIR_VALID 63) true).fs (TWN_MIR_PLOT 63) 287).fs (TWN_MIR_HI_SIZE 63) 8192).fs TWN_STATUS_ROLE role |>.fs TWN_STATUS_MODE mode).updTwin
    fun w => f { w with inbox := inbox, epochUs := 50 }

theorem range_all {P : Nat → Prop} {a n : Nat} (h : ∀ i < n, P (a + i)) (x : Nat) (h₁ : a ≤ x) (h₂ : x < a + n) : P x := by
  have := h (x - a) (by omega)
  rwa [Nat.add_sub_cancel' h₁] at this

/-- `Obligations.TwinMirrorRecords`: its hypotheses can hold. -/
theorem witness_TwinMirrorRecords :
    (∀ formed ∈ [false, true], ∀ mode ∈ [1, 2],
      let p := wmir 1 mode [] fun w => { w with formed := formed, dirty := [287 * 2 ^ 18 + 1], stale := [5] }
      p.twinMode = mode ∧ p.role = 1 ∧ (p.at 50000).pairTime % (p.tw.epochUs * 1000) = 0 ∧ p.tw.formed = formed ∧ p.tw.copy = false ∧
      (p.tw.dirty.filter fun g => p.mirrored (4096 * g)) = [287 * 2 ^ 18 + 1] ∧
      ∀ g < 64, p.sliceUp (sliceOf (4096 * (287 * 2 ^ 18 + 1) + 64 * g)) = true ∧ p.gran (4096 * (287 * 2 ^ 18 + 1) / 64 + g) = 0) ∧
    (let r : List Byte := natLe 1 1 ++ natLe 1 2 ++ natLe 2 287 ++ natLe 4 128 ++ List.replicate 56 0 ++ (List.range 128).map (fun i => BitVec.ofNat 8 (i * 3))
     let p := wmir 2 1 [r] id
     let a := bytesAt r 2 2 * 2 ^ 30 + bytesAt r 4 4
     p.role = 2 ∧ p.tw.inbox = r :: [] ∧ bytesAt r 0 1 = 1 ∧ r.length = 64 * (bytesAt r 1 1 + 1) ∧ a % 64 = 0 ∧ bytesAt r 0x10 8 = 0 ∧ p.tw.resync = none ∧
     ∀ x, a ≤ x → x < a + 64 * bytesAt r 1 1 → p.mirrored x = true ∧ p.unfilled x = false ∧ p.sliceUp (sliceOf x) = true) ∧
    (∀ r ∈ ([natLe 1 2 ++ natLe 1 1 ++ natLe 2 9 ++ List.replicate 200 7, natLe 1 3 ++ natLe 1 0 ++ natLe 2 287 ++ List.replicate 60 0] : List (List Byte)),
      let p := wmir 2 1 [r] id
      p.role = 2 ∧ p.tw.inbox = r :: [] ∧ (bytesAt r 0 1 = 2 ∨ bytesAt r 0 1 = 3 ∧ bytesAt r 2 2 < 288)) ∧
    (∀ agree ∈ [false, true], ∀ resync ∈ [false, true], ∀ on ∈ [false, true],
      let r : List Byte := natLe 1 4 ++ natLe 7 (if resync then 1 else 0) ++ natLe 4 88 ++ natLe 4 (if agree then 0 else 1) ++ natLe 2 0 ++ List.replicate 46 0
      let p := (wmir 2 1 [r] id).setFlag TWN_STATUS_SYNCED on
      p.role = 2 ∧ p.tw.inbox = r :: [] ∧ bytesAt r 0 1 = 4 ∧ (bytesAt r 1 1).testBit 0 = resync ∧ p.flag TWN_STATUS_SYNCED = on ∧
      (bytesAt r 0xC 4 = p.tw.gotGranules ∧ bytesAt r 0x10 2 = p.tw.gotQueues ↔ agree = true)) ∧
    (∀ mine ∈ ([none, some ⟨1, 2, 3, List.replicate 32 5, 5⟩, some ⟨1, 2, 3, List.replicate 32 0, 5⟩] : List (Option UnitRes)),
      let r : List Byte := natLe 1 5 ++ natLe 1 1 ++ natLe 2 2 ++ natLe 4 3 ++ natLe 4 9 ++ List.replicate 20 0 ++ List.replicate 32 5
      let p := wmir 2 2 [r] fun w => { w with mine := mine.toList }
      let u : UnitRes := ⟨bytesAt r 1 1, bytesAt r 2 1, bytesAt r 4 4, (r.drop 0x20).take 32, bytesAt r 8 4⟩
      p.twinMode = 2 ∧ p.tw.inbox = r :: [] ∧ bytesAt r 0 1 = 5 ∧ p.tw.mine.find? u.same = mine ∧ u.digest = List.replicate 32 5 ∧
      p.fg ⟨TWN_RESULT_DISCORDS, 0, 31⟩ < 2 ^ 31 - 2) := by
  refine ⟨?_, ?_, ?_, ?_, ?_⟩
  · decide +kernel
  · dsimp only
    refine ⟨?_, ?_, ?_, ?_, ?_, ?_, ?_, range_all ?_⟩ <;> decide +kernel
  · decide +kernel
  · decide +kernel
  · decide +kernel

/-- A part whose bring-up stands at a stage, after a change of its registers and of the boot state. -/
def wboot (stage : Nat) (f : Boot → Boot) (r : Part → Part) : Part := (r (wop id).part).updBoot fun b => f { b with stage := stage }

/-- `Obligations.BringUp`: its hypotheses can hold. -/
theorem witness_BringUp :
    (∀ fails ∈ [0, 254], let p := wboot 1 id fun p => p.fs GBL_BOOT_FAILS fails
      p.boot.stage = 1 ∧ p.ep.linkDisabled = false ∧ p.fg GBL_BOOT_FAILS = fails) ∧
    (let p := wboot 2 (fun b => { b with silentMs := 60000 }) id
     p.boot.stage = 2 ∧ p.boot.silentMs ≠ 0) ∧
    (∀ force ∈ [none, some 0, some 1], ∀ facts ∈ ([[(0, 5, 6), (0, 5, 6)], [(9, 5, 6), (0, 5, 6)], [(0, 5, 6), (9, 5, 6)], [(9, 5, 6), (9, 5, 6)]] : List (List (Nat × Nat × Nat))),
      ∀ wait ∈ [0, 60000],
      let p := wboot 2 (fun b => { b with force := force, waitMs := wait, waitAt := 5 }) fun p => p.fs GBL_BOOT_FAILS 253
      let one := p.boot.force.getD (1 - p.fg GBL_BOOT_NEXT)
      p.boot.stage = 2 ∧ p.boot.silentMs = 0 ∧ p.boot.waitMs = wait ∧ p.boot.waitAt + p.boot.waitMs * 1000000 ≤ max p.time 60000000005 ∧ p.fg GBL_BOOT_FAILS = 253 ∧
      one < 2 ∧ ∀ slot < 2, ((p.slotFound slot facts).check = 0 ↔ (facts.getD slot (0, 0, 0)).1 = 0)) ∧
    (∀ granted ∈ [false, true],
      let p := wboot 3 (fun b => { b with granted := granted }) id
      p.boot.stage = 3 ∧ p.boot.rising = false ∧ p.boot.back = 0 ∧ p.boot.granted = granted) ∧
    (inWindow 1 530 = true ∧ inWindow 1 580 = true ∧ (some 529).any (inWindow 1) = false ∧ (some 0).any (inWindow 1) = false ∧ (none : Option Nat).any (inWindow 1) = false) ∧
    (∀ trained ∈ [false, true],
      let p := wboot 4 (fun b => { b with trained := trained }) fun p => p.fs LCH_LIFECYCLE_STATE 2
      p.boot.stage = 4 ∧ p.lcHeld = false ∧ p.boot.trained = trained) ∧
    (wboot 5 id id).boot.stage = 5 ∧
    (let p := wboot 6 id fun p => p.fs TEL_VL_STATUS_ACTIVE 2
     p.boot.stage = 6 ∧ p.active ≠ 0) ∧
    (let p := wboot 7 (fun b => { b with retest := [(63, 50000)] }) fun p => (p.fs GBL_STATUS_SERVICE 2).setReg GBL_BRK_FAIL (BitVec.ofNat 64 (2 ^ 63))
     63 < 64 ∧ Tab.get 0 63 p.boot.retest ≠ 0 ∧ p.fg GBL_STATUS_SERVICE = 2 ∧ p.fg GBL_STATUS_SLICES_DOWN = 0 ∧ p.fg GBL_BRK_FAIL_FAILED = 2 ^ 63) ∧
    (let p := wboot 7 (fun b => { b with startedAt := 5 }) fun p => p.fs GBL_STATUS_RUNNING 2
     p.fg GBL_STATUS_RUNNING ≠ 0 ∧ p.flag GBL_BOOT_CONFIRMED = false ∧ p.core.halted = 0 ∧ p.boot.startedAt + 60000000000 ≤ max p.time 60000000005) ∧
    (let p := wboot 7 (fun b => { b with recs := [⟨0x0F01, 2, 5000⟩] }) fun p => (p.fs GBL_STATUS_SERVICE 1).setFlag (EVT_CFG_ENABLE 16) true
     1 ≤ p.fg GBL_STATUS_SERVICE ∧ p.ringTakes opRing = true ∧ p.boot.recs = ⟨0x0F01, 2, 5000⟩ :: [] ∧ p.boot.lost = false) ∧
    (∀ stage ∈ [1, 7], let p := wboot stage id id
      p.boot.stage ≠ 0 ∧ (4 ≤ stage → p.boot.back ≤ p.boot.stage)) ∧
    (let p := wboot 0 id id
     p.boot.stage = 0 ∧ p.vstby = true ∧ p.flag LCH_CORE_STATUS_OVERTEMP = false ∧ p.ep.perst = false ∧ p.fg LCH_BOOT_ATTEMPTS_COUNT < 2 ^ 24 - 1) := by
  and_intros <;> decide +kernel

/-- `Obligations.SmbusReads`: its hypotheses can hold. -/
theorem witness_SmbusReads :
    (∀ stage ∈ [2, 7], 2 ≤ (wboot stage id id).boot.stage ∧ (wboot stage id id).qsDown = false) ∧ (wboot 1 id id).boot.stage < 2 ∧
    (wboot 7 id fun p => p.setFlag LCH_CORE_STATUS_OVERTEMP true).qsDown = true := by
  and_intros <;> decide +kernel

/-- `Obligations.StepRunsTheFrontCommand`: its hypotheses can hold. -/
theorem witness_StepRunsTheFrontCommand :
    (∃ (s : State) (c : Instr) (rest : List Instr), s.pending = c :: rest) ∧ (∃ s : State, s.pending = []) :=
  ⟨⟨{ pending := [.identify 0, .status 0] }, .identify 0, [.status 0], rfl⟩, ⟨{}, rfl⟩⟩

/-- `Obligations.ResetState`: its hypotheses can hold. -/
theorem witness_ResetState : 16 < 17 := by decide

/-- `Obligations.StepsKeepTheMemoryForm`: its hypotheses can hold. -/
theorem witness_StepsKeepTheMemoryForm :
    (let s : State := { dev := { mem := [⟨5, 7⟩] }, pending := [] }
     let t : State := { dev := (Dev.idle { mem := [⟨5, 7⟩] }), pending := [] }
     s.Inv ∧ step s = .next t) :=
  ⟨by decide +kernel, rfl⟩

end Sys2Proof.Machine.Tests
end

section
/-!
PROOF. The KV codec (O23): what a write of a region's configuration can do, what a request in progress leaves waiting, and the decode of a block that was never written.
-/

namespace Sys2Proof.Machine.KvCodec

open Sys2Proof

/-! ### The commands and their meanings -/

theorem exec_kvcSmapWrite (n h w : Nat) (v : Word) (s : State) : exec (.kvcSmapWrite n h w v) s = execKvcSmapWrite n h w v s := rfl
theorem exec_kvcRegionEnableWrite (n r : Nat) (v : Word) (s : State) : exec (.kvcRegionEnableWrite n r v) s = execKvcRegionEnableWrite n r v s := rfl
theorem exec_kvcDecode (n h st : Nat) (s : State) : exec (.kvcDecode n h st) s = execKvcDecode n h st s := rfl
theorem exec_kvcEncode (n h st : Nat) (s : State) : exec (.kvcEncode n h st) s = execKvcEncode n h st s := rfl

/-! ### Register writes and their frames -/

theorem regsOnly_setReg (p : Part) (k : Nat) (v : Dword) : RegsOnly p (p.setReg k v) (· = k) :=
  ⟨rfl, fun _ h => p.reg_setReg_ne h v⟩

theorem regsOnly_refl (p : Part) (ks : Nat → Prop) : RegsOnly p p ks := ⟨rfl, fun _ _ => rfl⟩

/-- A Class W counter that lies in its register counts modulo its width. -/
theorem fg_addW_same (p : Part) (f : Fld) (n : Nat) (h : f.lo + f.w ≤ 64) : (p.addW f n).fg f = (p.fg f + n) % 2 ^ f.w := by
  rw [Part.addW, Part.fg_fs_same _ _ _ h, Nat.mod_mod]

/-! ### Regions (R246 to R248) -/

/-- A one-bit field of a word is set exactly where the bit is. -/
theorem getBits_one_beq_one (x : Dword) (lo : Nat) : (getBits x lo 1 == 1) = x.getLsbD lo := by
  have hbit : (getBits x lo 1).testBit 0 = x.getLsbD lo := by rw [getBits_testBit]; simp
  have hcases : getBits x lo 1 = 0 ∨ getBits x lo 1 = 1 := by
    have hlt : getBits x lo 1 < 2 := getBits_lt x lo 1
    omega
  rw [← hbit]
  rcases hcases with h0 | h1
  · rw [h0]; rfl
  · rw [h1]; rfl

theorem region_enable (p : Part) (n r : Nat) : (p.region n r).enable = (p.reg (KVC_RGN_CFG n r)).getLsbD 0 :=
  getBits_one_beq_one _ 0

/-- The reserved bits of KVC_RGN_CFG do not reach ENABLE (R292). -/
theorem cfgMask_getLsbD_zero (v : Word) : (v &&& 0x00FFFF7F).getLsbD 0 = v.getLsbD 0 := by
  simp

theorem setBits_getLsbD_below (x : Dword) {lo i : Nat} (w v : Nat) (h : i < lo) : (setBits x lo w v).getLsbD i = x.getLsbD i := by
  rw [setBits_getLsbD, if_neg (by omega)]

/-- While a region is enabled, a write changes ENABLE or nothing (R248). -/
theorem regionWrite_enabled {p : Part} {n r : Nat} (v : Word) (h : (p.region n r).enable = true) :
    p.regionWrite n r v = if v.getLsbD 0 then p else p.fs (KVC_RGN_CFG_ENABLE n r) 0 := by
  simp only [Part.regionWrite, h, cfgMask_getLsbD_zero, if_true]

/-- A write that sets ENABLE is taken whole where the checks hold, and ignored where they do not (R247). -/
theorem regionWrite_enabling {p : Part} {n r : Nat} {v : Word} (h : (p.region n r).enable = false) (hv : v.getLsbD 0 = true) :
    p.regionWrite n r v =
      if p.regionLegal n r (p.regionOf n r ((v &&& 0x00FFFF7F).setWidth 64)) then p.setReg (KVC_RGN_CFG n r) ((v &&& 0x00FFFF7F).setWidth 64)
      else p := by
  simp only [Part.regionWrite, h, cfgMask_getLsbD_zero, hv, if_true, Bool.false_eq_true, if_false]

/-- A write to a disabled region that does not set ENABLE leaves it disabled. -/
theorem regionWrite_disabled {p : Part} {n r : Nat} {v : Word} (h : (p.region n r).enable = false) (hv : v.getLsbD 0 = false) :
    ∃ w : Dword, w.getLsbD 0 = false ∧ p.regionWrite n r v = p.setReg (KVC_RGN_CFG n r) w := by
  simp only [Part.regionWrite, h, cfgMask_getLsbD_zero, hv, Bool.false_eq_true, if_false]
  refine ⟨_, ?_, rfl⟩
  have hcfg : ((v &&& 0x00FFFF7F).setWidth 64 : Dword).getLsbD 0 = false := by
    rw [BitVec.getLsbD_setWidth, cfgMask_getLsbD_zero, hv, Bool.and_false]
  split <;> split <;> simp only [setBits_getLsbD_below, hcfg, Nat.reduceLT]

/-- Every write of a region's configuration changes that register alone. -/
theorem regionWrite_regsOnly (p : Part) (n r : Nat) (v : Word) : RegsOnly p (p.regionWrite n r v) (· = KVC_RGN_CFG n r) := by
  cases h : (p.region n r).enable
  case true =>
    rw [regionWrite_enabled v h]
    split
    · exact regsOnly_refl p _
    · exact regsOnly_setReg p _ _
  case false =>
    cases hv : v.getLsbD 0
    case true =>
      rw [regionWrite_enabling h hv]
      split
      · exact regsOnly_setReg p _ _
      · exact regsOnly_refl p _
    case false =>
      obtain ⟨w, -, hw⟩ := regionWrite_disabled h hv
      rw [hw]
      exact regsOnly_setReg p _ w

/-- After a write that does not set ENABLE the region is disabled. -/
theorem regionWrite_disables (p : Part) (n r : Nat) {v : Word} (hv : v.getLsbD 0 = false) :
    ((p.regionWrite n r v).region n r).enable = false := by
  rw [region_enable]
  cases h : (p.region n r).enable
  case true =>
    rw [regionWrite_enabled v h, hv, if_neg Bool.false_ne_true]
    show ((p.fs (KVC_RGN_CFG_ENABLE n r) 0).reg (KVC_RGN_CFG_ENABLE n r).reg).getLsbD 0 = false
    rw [Part.reg_fs_same, setBits_getLsbD]
    simp [KVC_RGN_CFG_ENABLE]
  case false =>
    obtain ⟨w, hw0, hw⟩ := regionWrite_disabled h hv
    rw [hw, Part.reg_setReg_same, hw0]

/-! ### Requests in progress and input queues (R220, R250) -/

@[simp] theorem sreq_setSreq_same (p : Part) (k : Nat) (r : Option SReq) : (p.setSreq k r).sreq k = r := Tab.get_put_same _ _ _ _
@[simp] theorem region_setSreq (p : Part) (k : Nat) (r : Option SReq) (n i : Nat) : (p.setSreq k r).region n i = p.region n i := rfl
@[simp] theorem inq_setSreq (p : Part) (k : Nat) (r : Option SReq) (j : Nat) : (p.setSreq k r).inq j = p.inq j := rfl

@[simp] theorem region_slDeq (p : Part) (n h s m i : Nat) : (p.slDeq n h s).region m i = p.region m i := rfl
@[simp] theorem inq_slDeq_same (p : Part) (n h s : Nat) : (p.slDeq n h s).inq (qkey n h s) = (p.inq (qkey n h s)).tail := Tab.get_put_same _ _ _ _

/-- Nothing is discarded of a stream that is not being discarded. -/
theorem discardTo_of_not_discarded {p : Part} {n h s : Nat} (hd : p.slc.discard.contains (qkey n h s) = false) (fuel : Nat) :
    p.discardTo n h s fuel = p := by
  cases fuel with
  | zero => rfl
  | succ fuel => simp only [Part.discardTo, hd, Bool.not_false, if_true]

/-- A codec stream with a request in progress, nothing of which is discarded, goes on with that request. -/
theorem kvcStep_in_progress {d : Dev} {n h s : Nat} {q : SReq} (hrel : d.p.isRelease n h s = false)
    (hd : d.p.slc.discard.contains (qkey n h s) = false) (hq : d.p.sreq (qkey n h s) = some q) (op : Nat) :
    d.kvcStep n h s op = if op = 3 then d.decodeStream n h s 64 else d.encodeStream n h s 16 := by
  have hon : d.onP (fun p => p.discardTo n h s 8) = d := by
    simp only [Dev.onP, discardTo_of_not_discarded hd]
  simp only [Dev.kvcStep, hrel, hon, hq, Option.isNone_some, Bool.false_and, Bool.false_eq_true, if_false]

/-- Nothing leaves while the reply stream has no credit. -/
theorem sendOut_of_no_credit {p : Part} {n h s : Nat} {q : SReq} (hq : p.sreq (qkey n h s) = some q)
    (hc : (p.stream h q.reply).credit = 0) (fuel : Nat) : p.sendOut n h s fuel = p := by
  cases fuel with
  | zero => rfl
  | succ fuel =>
    simp only [Part.sendOut, hq, hc, if_true]
    split <;> rfl

theorem onP_sendOut_of_no_credit {d : Dev} {n h s : Nat} {q : SReq} (hq : d.p.sreq (qkey n h s) = some q)
    (hc : (d.p.stream h q.reply).credit = 0) (fuel : Nat) : (d.onP fun p => p.sendOut n h s fuel) = d := by
  simp only [Dev.onP, sendOut_of_no_credit hq hc]

/-! ### Granules that no AtomicOp locks (R496) -/

theorem regionHeld_of_unlocked {p : Part} (hl : p.hs.br.locked = []) (n : Nat) (r : Region) (g cnt : Nat) : p.regionHeld n r g cnt = false := by
  simp [Part.regionHeld, hl]

theorem blockHeld_of_unlocked {d : Dev} (hl : d.p.hs.br.locked = []) (n : Nat) (r : Region) (k : Nat) : d.blockHeld n r k = false := by
  simp only [Dev.blockHeld, regionHeld_of_unlocked hl, Bool.false_or]
  split <;> rfl

theorem encodeHeld_of_unlocked {p : Part} (hl : p.hs.br.locked = []) (n : Nat) (q : SReq) : p.encodeHeld n q = false := by
  simp [Part.encodeHeld, regionHeld_of_unlocked hl]

/-! ### Tokens of zeros (R256) -/

theorem leNat_replicate_zero (n : Nat) : leNat (List.replicate n 0) = 0 := by
  induction n with
  | zero => rfl
  | succ n ih => rw [List.replicate_succ, leNat, ih]; rfl

theorem bytesPay_replicate_zero (n : Nat) : bytesPay (List.replicate n 0) = 0 := by
  rw [bytesPay, leNat_replicate_zero]
  rfl

theorem tokensOf_replicate_zero (n : Nat) : tokensOf (List.replicate n 0) = List.replicate (n / 32) 0 := by
  simp only [tokensOf, List.length_replicate, List.drop_replicate, List.take_replicate, bytesPay_replicate_zero, List.map_const', List.length_range]

/-- A block has at least 32 tokens (R252, R255). -/
theorem tokens_pos (r : Region) : 1 ≤ r.raw / 32 := by
  unfold Region.raw
  omega

/-! ### Decoding a block that was never written (R256, R268) -/

/-- A read of good bytes of one granule gives them and changes nothing. -/
theorem readIn_plain {d : Dev} {a n : Nat} (h : PlainMem d a n) (hn : 0 < n) : d.readIn a n = (d.bytes a n, true, d) := by
  obtain ⟨hg, -, -⟩ := h a (Nat.le_refl a) (Nat.lt_add_of_pos_right hn)
  have hr : d.p.readGran 0x0201 (a / 64) = (true, d.p) := by
    simp only [Part.readGran, hg]
    split <;> rfl
  simp only [Dev.readIn, hr]

/-- What an entry of zeros stands for: a block of zeros, for which nothing else is read (R256). -/
theorem decodeBlock_unwritten {d : Dev} {n k a : Nat} {r : Region} (hup : d.p.sliceUp n = true)
    (ha : d.p.regionAddr n r (r.index + k / 8) = some a) (hmem : PlainMem d (a + k % 8 * 8) 8)
    (hz : d.bytes (a + k % 8 * 8) 8 = List.replicate 8 0) :
    d.decodeBlock n r k = (.done (List.replicate r.raw 0), d) := by
  have hread : d.regionRead n r (r.index + k / 8) (k % 8 * 8) 8 = (List.replicate 8 0, true, d) := by
    simp only [Dev.regionRead, ha, readIn_plain hmem (by decide), hz]
  simp only [Dev.decodeBlock, hup, hread, leNat_replicate_zero, Bool.not_true, Bool.false_eq_true, if_false, if_true]

/-- The request of a DECODE after its next block was decoded to zeros: the tokens join those that wait. -/
def zerosDecoded (q : SReq) (r : Region) : SReq :=
  { q with block := q.block + 1, blocks := q.blocks - 1, out := q.out ++ List.replicate (r.raw / 32) (0, 0) }

theorem length_out_zerosDecoded (q : SReq) (r : Region) : (zerosDecoded q r).out.length = q.out.length + r.raw / 32 := by
  simp only [zerosDecoded, List.length_append, List.length_replicate]

/-- The part after a block of zeros was decoded: it is counted, and its tokens wait (R268, R291). -/
def afterZeros (p : Part) (n h s : Nat) (q : SReq) : Part :=
  (p.addW (KVC_DEC_BLOCKS_TOTAL n) 1).setSreq (qkey n h s) (some (zerosDecoded q (p.region n q.region)))

theorem decodeNext_of_zeros {d : Dev} {n : Nat} {q : SReq} (h s : Nat)
    (hz : d.decodeBlock n (d.p.region n q.region) q.block = (.done (List.replicate (d.p.region n q.region).raw 0), d)) :
    d.decodeNext n h s q = d.onP fun p => afterZeros p n h s q := by
  simp only [Dev.decodeNext, hz, tokensOf_replicate_zero, List.map_replicate, Dev.onP, afterZeros, zerosDecoded]

/-- A DECODE whose tokens wait for credit rests once its last block, or one block beside what waited, is decoded (R274). -/
theorem decodeStream_rests {d : Dev} {n h s : Nat} {q : SReq} (hq : d.p.sreq (qkey n h s) = some q)
    (hc : (d.p.stream h q.reply).credit = 0) (hout : q.out ≠ [])
    (hfull : q.blocks = 0 ∨ (d.p.region n q.region).raw / 32 < q.out.length) (fuel : Nat) :
    d.decodeStream n h s (fuel + 1) = d := by
  have hlook : (q.blocks ≠ 0 && decide (q.out.length ≤ (d.p.region n q.region).raw / 32)) = false := by
    rcases hfull with h0 | hlt
    · simp [h0]
    · simp [Nat.not_le.2 hlt]
  have hne : q.out.isEmpty = false := by simpa using hout
  simp only [Dev.decodeStream, onP_sendOut_of_no_credit hq hc, hq, hlook, hne, Bool.false_and, Bool.false_eq_true, Bool.not_false, Bool.or_true, if_true, if_false, ite_self]

/-- The counters of an engine are not its regions: a count leaves every region as it was. -/
theorem region_raw_count (p : Part) (n i : Nat) : ((p.addW (KVC_DEC_BLOCKS_TOTAL n) 1).region n i).raw = (p.region n i).raw := by
  have hne : KVC_RGN_CFG n i ≠ (KVC_DEC_BLOCKS_TOTAL n).reg := by
    show KVC_RGN_CFG n i ≠ KVC_DEC_BLOCKS n
    unfold KVC_RGN_CFG KVC_DEC_BLOCKS
    omega
  simp only [Part.region, Part.regionOf, Region.raw, Part.addW, Part.reg_fs_ne _ _ _ hne]

/-- A DECODE without credit whose next block was never written decodes that block, and no other (R256, R268, R274). -/
theorem decodeStream_unwritten {d : Dev} {n h s : Nat} {q : SReq} (hq : d.p.sreq (qkey n h s) = some q) (hop : q.op = 3)
    (hblocks : 1 ≤ q.blocks) (hlast : q.blocks = 1 ∨ q.out ≠ []) (hlen : q.out.length ≤ (d.p.region n q.region).raw / 32)
    (hc : (d.p.stream h q.reply).credit = 0) (hl : d.p.hs.br.locked = [])
    (hz : d.decodeBlock n (d.p.region n q.region) q.block = (.done (List.replicate (d.p.region n q.region).raw 0), d)) (fuel : Nat) :
    d.decodeStream n h s (fuel + 2) = d.onP fun p => afterZeros p n h s q := by
  have hgo : d.decodeStream n h s (fuel + 2) = (d.decodeNext n h s q).decodeStream n h s (fuel + 1) := by
    have hb : q.blocks ≠ 0 := by omega
    simp only [Dev.decodeStream, onP_sendOut_of_no_credit hq hc, hq, hop, hb, hlen, blockHeld_of_unlocked hl, bne_self_eq_false, Bool.false_eq_true, if_false,
      ne_eq, not_false_eq_true, decide_true, Bool.not_false, Bool.and_true, if_true]
  rw [hgo, decodeNext_of_zeros h s hz]
  have hpos := tokens_pos (d.p.region n q.region)
  refine decodeStream_rests (d := d.onP fun p => afterZeros p n h s q) (q := zerosDecoded q (d.p.region n q.region)) (sreq_setSreq_same _ _ _) hc ?_ ?_ fuel
  · exact List.ne_nil_of_length_pos (by rw [length_out_zerosDecoded]; omega)
  · rcases hlast with hone | hne
    · exact .inl (by rw [zerosDecoded, hone])
    · have hwaits := List.length_pos_iff.2 hne
      refine .inr ?_
      rw [Dev.onP_p, afterZeros, region_setSreq, length_out_zerosDecoded]
      simp only [zerosDecoded, region_raw_count]
      omega

/-! ### Gathering the raw tokens of an ENCODE (R269) -/

/-- An ENCODE with no token waiting rests. -/
theorem encodeStream_rests {d : Dev} {n h s : Nat} {q : SReq} (hq : d.p.sreq (qkey n h s) = some q) (hop : q.op = 4) (hblocks : q.blocks ≠ 0)
    (hcl : d.p.claimed n h s = true) (hin : d.p.inq (qkey n h s) = []) (fuel : Nat) : d.encodeStream n h s (fuel + 1) = d := by
  simp only [Dev.encodeStream, hq, hop, hblocks, hcl, hin, bne_self_eq_false, Bool.false_eq_true, if_false, Bool.not_true, ite_self]

/-- The part after a raw token that does not fill the block was taken: its credit goes back, and it waits with those before it. -/
def afterRaw (p : Part) (n h s : Nat) (q : SReq) (t : SlTok) : Part :=
  (p.slDeq n h s).setSreq (qkey n h s) (some { q with buf := q.buf ++ [t] })

theorem inq_afterRaw {p : Part} {n h s : Nat} {t : SlTok} (q : SReq) (hin : p.inq (qkey n h s) = [t]) :
    (afterRaw p n h s q t).inq (qkey n h s) = [] := by
  rw [afterRaw, inq_setSreq, inq_slDeq_same, hin, List.tail_cons]

/-- An ENCODE takes a DATA token that does not fill its block, and rests when no other waits. -/
theorem encodeStream_gathers {d : Dev} {n h s : Nat} {q : SReq} {t : SlTok} (hq : d.p.sreq (qkey n h s) = some q) (hop : q.op = 4)
    (hblocks : q.blocks ≠ 0) (hcl : d.p.claimed n h s = true) (hl : d.p.hs.br.locked = []) (hin : d.p.inq (qkey n h s) = [t])
    (hkind : t.kind = 0) (hshort : 32 * (q.buf.length + 1) < (d.p.region n q.region).raw) (fuel : Nat) :
    d.encodeStream n h s (fuel + 2) = d.onP fun p => afterRaw p n h s q t := by
  have hgo : d.encodeStream n h s (fuel + 2) = (d.onP fun p => afterRaw p n h s q t).encodeStream n h s (fuel + 1) := by
    have hlen : 32 * (q.buf ++ [t]).length ≠ (d.p.region n q.region).raw := by
      rw [List.length_append, List.length_singleton]
      exact Nat.ne_of_lt hshort
    have hdata : ¬ (t.kind = 1 ∨ t.kind = 3) := by omega
    rw [Dev.encodeStream]
    simp only [hq, hop, hblocks, hcl, encodeHeld_of_unlocked hl, hin, hdata, region_slDeq, hlen, bne_self_eq_false, Bool.false_eq_true,
      Bool.not_true, if_false, Dev.onP, sreq_setSreq_same, afterRaw]
  rw [hgo]
  exact encodeStream_rests (d := d.onP fun p => afterRaw p n h s q t) (q := { q with buf := q.buf ++ [t] }) (sreq_setSreq_same _ _ _) hop hblocks hcl
    (inq_afterRaw q hin) fuel

/-! ### The four commands -/

theorem kvcSmapWrite_takes_word {s : State} {n h w : Nat} (hn : n < 8) (hh : h < 16) (hw : w < 8) (ha : s.part.available 12 = true)
    (ho : s.part.pfOpen = true) (v : Word) :
    Answers (exec (.kvcSmapWrite n h w v) s) fun t => OnlyRegs s t (· = KVC_SMAP n (8 * h + w)) ∧
      t.part.reg (KVC_SMAP n (8 * h + w)) = v.setWidth 64 := by
  rw [exec_kvcSmapWrite, execKvcSmapWrite, blockPart_pos trivial ha ho, if_pos ⟨hn, hh, hw⟩]
  exact ⟨_, rfl, ⟨⟨rfl, rfl⟩, regsOnly_setReg _ _ _⟩, Part.reg_setReg_same _ _ _⟩

theorem kvcRegionEnableWrite_outcome {s : State} {n r : Nat} (hn : n < 8) (hr : r < 16) (ha : s.part.available 12 = true)
    (ho : s.part.pfOpen = true) (v : Word) :
    exec (.kvcRegionEnableWrite n r v) s = toPart s (s.part.regionWrite n r v) := by
  rw [exec_kvcRegionEnableWrite, execKvcRegionEnableWrite, blockPart_pos trivial ha ho, if_pos ⟨hn, hr⟩]
  rfl

theorem kvcDecode_outcome {s : State} {n h st : Nat} {q : SReq} (hn : n < 8) (hh : h < 16) (hst : st < 256)
    (hrel : s.part.isRelease n h st = false) (hd : s.part.slc.discard.contains (qkey n h st) = false)
    (hq : s.part.sreq (qkey n h st) = some q) :
    exec (.kvcDecode n h st) s = toDev s (s.dev.decodeStream n h st 64) := by
  rw [exec_kvcDecode, execKvcDecode, onDevIf_pos ⟨hn, hh, hst⟩, kvcStep_in_progress hrel hd hq]
  rfl

theorem kvcEncode_outcome {s : State} {n h st : Nat} {q : SReq} (hn : n < 8) (hh : h < 16) (hst : st < 256)
    (hrel : s.part.isRelease n h st = false) (hd : s.part.slc.discard.contains (qkey n h st) = false)
    (hq : s.part.sreq (qkey n h st) = some q) :
    exec (.kvcEncode n h st) s = toDev s (s.dev.encodeStream n h st 16) := by
  rw [exec_kvcEncode, execKvcEncode, onDevIf_pos ⟨hn, hh, hst⟩, kvcStep_in_progress hrel hd hq]
  rfl

/-- What a write of a region's configuration leaves, case by case (R247, R248). -/
theorem kvcRegionEnableWrite_cases {s : State} {n r : Nat} (hn : n < 8) (hr : r < 16) (ha : s.part.available 12 = true)
    (ho : s.part.pfOpen = true) (v : Word) :
    let p := s.part
    let cfg : Dword := (v &&& 0x00FFFF7F).setWidth 64
    Answers (exec (.kvcRegionEnableWrite n r v) s) fun t => OnlyRegs s t (· = KVC_RGN_CFG n r) ∧
      ((p.region n r).enable = true → v.getLsbD 0 = true → t = s) ∧
      ((p.region n r).enable = true → v.getLsbD 0 = false → (t.part.region n r).enable = false) ∧
      ((p.region n r).enable = false → v.getLsbD 0 = true →
        if p.regionLegal n r (p.regionOf n r cfg) then t.part.reg (KVC_RGN_CFG n r) = cfg else t = s) ∧
      ((p.region n r).enable = false → v.getLsbD 0 = false → (t.part.region n r).enable = false) := by
  rw [kvcRegionEnableWrite_outcome hn hr ha ho v]
  refine ⟨_, rfl, ⟨⟨rfl, rfl⟩, regionWrite_regsOnly _ n r v⟩, fun he hv => ?_, fun _ => regionWrite_disables _ n r, fun he hv => ?_,
    fun _ => regionWrite_disables _ n r⟩
  · rw [regionWrite_enabled v he, if_pos hv]
  · rw [regionWrite_enabling he hv]
    split
    · exact Part.reg_setReg_same _ _ _
    · rfl

theorem otherRegsStay_afterZeros (s : State) (n h st : Nat) (q : SReq) :
    OtherRegsStay s { s with dev := s.dev.onP fun p => afterZeros p n h st q } (· = KVC_DEC_BLOCKS n) :=
  ⟨⟨rfl, rfl⟩, fun _ hk => Part.reg_fs_ne _ _ _ hk⟩

/-- Settles O23: a region's word and a claim word are register writes; a DECODE whose reply stream has no credit decodes one block of zeros behind what waits, and an ENCODE gathers a token that does not fill its block. -/
theorem kvCodecCommands : Obligations.KvCodecCommands := by
  unfold Obligations.KvCodecCommands
  intro s n r h w st a0 v q tok hn hr hh hw hst
  refine ⟨fun ha ho => ⟨kvcSmapWrite_takes_word hn hh hw ha ho v, kvcRegionEnableWrite_cases hn hr ha ho v⟩,
    fun hrel hd hq hl => ⟨fun hop hblocks hlast hlen hup hc ha0 hmem => ?_, fun hop hblocks hcl hin hkind hshort => ?_⟩⟩
  · rw [kvcDecode_outcome hn hh hst hrel hd hq,
      decodeStream_unwritten hq hop hblocks hlast hlen hc hl (decodeBlock_unwritten hup ha0 hmem.1 hmem.2)]
    exact ⟨_, rfl, otherRegsStay_afterZeros s n h st q, sreq_setSreq_same _ _ _, fg_addW_same _ (KVC_DEC_BLOCKS_TOTAL n) 1 (Nat.le_refl 64)⟩
  · rw [kvcEncode_outcome hn hh hst hrel hd hq, encodeStream_gathers hq hop (by omega) hcl hl hin hkind hshort]
    exact ⟨_, rfl, ⟨rfl, rfl⟩, rfl, inq_afterRaw q hin, sreq_setSreq_same _ _ _, rfl⟩

end Sys2Proof.Machine.KvCodec
end
